-- ==== Sys2Proof/Word.lean ====
section
/-! DEFINITION. The byte, and byte strings: everything that crosses the boundary of the part crosses it in bytes (Chapter 10). -/

namespace Sys2Proof

/-- One byte of a cell, a record, a sensor-bus reply or a radio frame. -/
abbrev Byte := BitVec 8

/-- A run of bytes, first byte first. -/
abbrev Bytes := List Byte

end Sys2Proof
end

