-- ==== Sys2Proof/Config.lean ====
section
/-! DEFINITION. What the manual fixes for the part (capacities, limits, identity) and the one value it leaves free. -/

namespace Sys2Proof.Config

/-- R24: capacity of a SIGNAL queue. -/
def signalCapacity : Nat := 16

/-- R24: capacity of a DATA queue. -/
def dataCapacity : Nat := 48

/-- R34: capacity of a delivery queue. -/
def deliveryCapacity : Nat := 64

/-- R45: transactions a bus starts at most in one round. -/
def startsPerRound : Nat := 16

/-- R39: remote age at which a remote level becomes NORMAL. -/
def remoteAgeLimit : Nat := 40

/-- R74: silence count at which channel 15 passes to NO_DATA. -/
def mobileSilenceLimit : Nat := 100

/-- R115: the refuge miss limit. -/
def refugeMissLimit : Nat := 3

/-- R119: report count at which a PERIODIC report is built. -/
def refugeReportLimit : Nat := 200

/-- R112: announcement count loaded on entry to ALERT. -/
def announcementRounds : Nat := 100

/-- R92: window count loaded by an accepted OVERRIDE_REQUEST. -/
def overrideWindow : Nat := 1200

/-- R135: silence count at which a CONNECTED entry is cleared. -/
def callSilenceLimit : Nat := 40

/-- R159: resend count at which a BLOCK_REQUEST is built again. -/
def blockResendLimit : Nat := 100

/-- R157: capacity of the wait list. -/
def waitCapacity : Nat := 8

/-- R157, R163: the convoy limit in force under evacuation. -/
def evacuationConvoy : Nat := 4

/-- R172: maskable notices a port's queue holds. -/
def maskableCapacity : Nat := 24

/-- R144: ticks from the sync byte within which the check byte comes. -/
def radioTimeoutTicks : Nat := 64

/-- R184: vendor code returned by IDENT_READ. -/
def vendorCode : Nat := 0x0F3A

/-- R184: part code returned by IDENT_READ. -/
def partCode : Nat := 4320

/-- R184: revision of the parts the manual describes. -/
def revision : Nat := 1

/-- DESIGN CHOICE (log 6): the destination field of an IDLE cell, six bits wide (R181), whose value R19 and R181 do not
give. A free value: no body, so nothing can be proved of it. -/
opaque idleDestination : BitVec 6

end Sys2Proof.Config
end

