-- ==== Sys2Proof/Machine/Types.lean ====
section
/-! DEFINITION. The names the manual uses for lines, parties, modes, levels, kinds and causes, and the small records
(stamps, cells, samples) that commands and state share. -/

namespace Sys2Proof

/-- A trunk line (00_scope.md). -/
inductive Line | outbye | inbye
deriving DecidableEq, Repr

/-- The other trunk line. -/
def Line.other : Line → Line
  | .outbye => .inbye
  | .inbye => .outbye

/-- One value for each trunk line. -/
structure PerLine (α : Type) where
  outbye : α
  inbye : α
deriving DecidableEq, Repr

/-- The value of a line. -/
def PerLine.get {α : Type} (p : PerLine α) : Line → α
  | .outbye => p.outbye
  | .inbye => p.inbye

/-- Replace the value of a line. -/
def PerLine.set {α : Type} (p : PerLine α) (l : Line) (x : α) : PerLine α :=
  match l with
  | .outbye => { p with outbye := x }
  | .inbye => { p with inbye := x }

/-- A command port (R165). -/
inductive Port | sp | cp
deriving DecidableEq, Repr

/-- One value for each port. -/
structure PerPort (α : Type) where
  sp : α
  cp : α
deriving DecidableEq, Repr

/-- The value of a port. -/
def PerPort.get {α : Type} (p : PerPort α) : Port → α
  | .sp => p.sp
  | .cp => p.cp

/-- Replace the value of a port. -/
def PerPort.set {α : Type} (p : PerPort α) (q : Port) (x : α) : PerPort α :=
  match q with
  | .sp => { p with sp := x }
  | .cp => { p with cp := x }

/-- The source of a command (00_scope.md, R166). -/
inductive Source | sp | cp | surface
deriving DecidableEq, Repr

/-- The port a source is, if it is one. -/
def Source.port? : Source → Option Port
  | .sp => some .sp
  | .cp => some .cp
  | .surface => none

/-- A sensor bus (Chapter 3). -/
inductive Bus | one | two
deriving DecidableEq, Repr

/-- One value for each bus. -/
structure PerBus (α : Type) where
  one : α
  two : α
deriving DecidableEq, Repr

/-- The value of a bus. -/
def PerBus.get {α : Type} (p : PerBus α) : Bus → α
  | .one => p.one
  | .two => p.two

/-- Replace the value of a bus. -/
def PerBus.set {α : Type} (p : PerBus α) (b : Bus) (x : α) : PerBus α :=
  match b with
  | .one => { p with one := x }
  | .two => { p with two := x }

/-- R3: the role read from the role pin. -/
inductive Role | junction | head
deriving DecidableEq, Repr

/-- R4: the trunk states, in the code order of R180. -/
inductive TrunkState | setup | listen | join | carry | holdover | islandLead | leading | halted
deriving DecidableEq, Repr

/-- R16: the commands that wait for a round start. -/
inductive TrunkCommand | start | halt | setup
deriving DecidableEq, Repr

/-- R98: the supply modes. -/
inductive SupplyMode | mains | battery | reserve
deriving DecidableEq, Repr

/-- Gas kinds (00_scope.md, Conventions). -/
inductive GasKind | ch4 | co | co2 | o2 | airflow
deriving DecidableEq, Repr

/-- Gas channel levels, least to most severe. -/
inductive GasLevel | normal | advise | alarm | trip
deriving DecidableEq, Repr

/-- Section levels, least to most severe. -/
inductive SectionLevel | normal | alert | evacuate
deriving DecidableEq, Repr

/-- R58: channel status. -/
inductive ChannelStatus | noData | ok | fault
deriving DecidableEq, Repr

/-- R58: miss reasons, in the order R58 lists them. -/
inductive MissReason | noAck | holdTimeout | checkBad | kindMismatch | headFault | range | busFailed
deriving DecidableEq, Repr

/-- Chapter 3: bus states. -/
inductive BusState | idle | polling | releasing | failed
deriving DecidableEq, Repr

/-- R59: the levels at which a channel raises ALERT, or never does. -/
inductive AlertAt | advise | alarm | trip | never
deriving DecidableEq, Repr

/-- R59: the levels at which a channel raises EVACUATE, or never does. -/
inductive EvacuateAt | alarm | trip | never
deriving DecidableEq, Repr

/-- R87: supervision states. -/
inductive SupervisionState | off | running | late | expired
deriving DecidableEq, Repr

/-- R91: override states. -/
inductive OverrideState | none | pending | active
deriving DecidableEq, Repr

/-- R91: why an override ended. -/
inductive EndReason | window | expired | cancelledSp | cancelledSurface | evacuation
deriving DecidableEq, Repr

/-- R114: refuge states, UNUSED 0 to NO_RESPONSE 4 (R182). -/
inductive RefugeState | unused | vacant | doorOpen | occupied | noResponse
deriving DecidableEq, Repr

/-- R121: states of a call entry that is not FREE. -/
inductive CallState | requested | ringing | connected
deriving DecidableEq, Repr

/-- R121: roles of a call entry. -/
inductive CallRole | origin | transit | destination
deriving DecidableEq, Repr

/-- R121, R125: call priorities, lowest to highest. -/
inductive Priority | routine | urgent | emergency
deriving DecidableEq, Repr

/-- Chapter 7.5: clearing causes in table order, and any other code as received (R183). -/
inductive CallCause
  | cleared | rejected | preempted | noRoute | noAnswer | lineLost | evacuation | supply | budget | stale
  | noCells | noEntry
  | other (code : Nat)
deriving DecidableEq, Repr

/-- R146: vehicle kinds. -/
inductive VehicleKind | diesel | shuttle | personnel | service
deriving DecidableEq, Repr

/-- R146: headings. -/
inductive Heading | inbye | outbye | stopped
deriving DecidableEq, Repr

/-- R152: orders. -/
inductive Order | shutdown | stop | evacuate | noEntry | wait | proceed
deriving DecidableEq, Repr

/-- R146: block roles. -/
inductive BlockRole | none | member | waiting
deriving DecidableEq, Repr

/-- R146: outbye request states. -/
inductive OutbyeRequest | none | requested | granted
deriving DecidableEq, Repr

/-- R157: direction of the roadway block. -/
inductive BlockDirection | free | inbyeBound | outbyeBound
deriving DecidableEq, Repr

/-- R144: why a radio frame was discarded, in table order. -/
inductive DiscardReason | length | timeout | check | type | field
deriving DecidableEq, Repr

/-- R171: refusal causes, BAD_FRAME first (code 1). -/
inductive RefusalCause
  | badFrame | unknownCommand | denied | badParam | wrongState | busy | noEntry | noCells | stillActive | late | coverage
deriving DecidableEq, Repr

/-- R186: notice kinds; the first three are unmaskable, the rest in the order of the table of 9.4. -/
inductive NoticeKind
  | trip | evacuate | supervisionLate
  | levelChange | channelFault | overrideState | supplyChange | alertChange | refugeEvent | callIncoming | callState
  | blockOverdue | vehicleEvent | tableFull | trunkState | lineEvent | deliveryWaiting | commandDone
deriving DecidableEq, Repr

/-- R20: cell classes, in the code order of R181. -/
inductive CellClass | alarm | signal | call | data
deriving DecidableEq, Repr

/-- The six latched indications of a line (2.9), in table order. -/
inductive Indication | carrierLost | crcErrors | signalLost | dataDropped | holdReceived | deliveryOverflow
deriving DecidableEq, Repr

/-- A round stamp with tick (00_scope.md, R18). -/
structure Stamp where
  round : Nat
  tick : Nat
deriving DecidableEq, Repr

/-- R19: a cell as the part reads it: header fields and as many payload bytes as the payload length gives. The class is
the one the header carries. -/
structure Cell where
  kind : Nat
  cls : CellClass
  src : Nat
  dst : Nat
  hop : Nat
  stamp : Nat
  payload : Bytes
deriving DecidableEq, Repr

/-- What the line's carrier did in the round just ended, and whether it is present now (R7, R36). -/
inductive CarrierReport
  /-- present throughout the round and now -/
  | throughout
  /-- absent throughout the round and now -/
  | absent
  /-- neither, and present now -/
  | partlyNow
  /-- neither, and absent now -/
  | partlyGone
deriving DecidableEq, Repr

/-- The field inputs a round start samples (log 16): supply inputs (R98), carrier of each line (R7, R36), and whether
both lines of each bus are high (R46, R47). -/
structure Samples where
  mains : Bool
  battery : Nat
  carrier : PerLine CarrierReport
  busHigh : PerBus Bool
deriving DecidableEq, Repr

/-- R43: a head on a bus holds the clock for a number of ticks. -/
structure ClockHold where
  bus : Bus
  ticks : Nat
deriving DecidableEq, Repr

/-- What a sensor-bus transaction brought (R42): the head stayed silent, or acknowledged and gave four bytes, with
the ticks for which it held the clock since the last HOLD_TIMEOUT row, if any (R43, log 46). -/
inductive BusReply
  | silent (hold : Nat)
  | bytes (status high low check : Byte) (hold : Nat)
deriving DecidableEq, Repr

end Sys2Proof
end

