-- ==== Sys2Proof/Syntax.lean ====
section
/-! DEFINITION. The commands: one constructor for each row of spec/opcode_table.json.

The table gives no operands. A row's operands here are what the event brings from outside: the line and bytes of a
cell, the bus and what it brought, the samples of a round start, or the source, tag and parameter bytes of a port
command (R184). A cell event whose cell has passed the acceptance filter carries the line, the source address and
the payload. -/

namespace Sys2Proof

/-- The commands of the TL4320, in the order of spec/opcode_table.json. -/
inductive Instr
  /-- R3: POWER_ON_RESET. -/
  | powerOnReset (role : Role) (straps : Nat)
  /-- R178: EXTERNAL_RESET. -/
  | externalReset (role : Role) (straps : Nat)
  /-- R1: ROUND_START. -/
  | roundStart (smp : Samples)
  /-- R9: MARKER_WINDOW_CLOSE. -/
  | markerWindowClose (smp : Samples)
  /-- R7: LISTEN_TIMEOUT. -/
  | listenTimeout
  /-- R10: HOLDOVER_LIMIT. -/
  | holdoverLimit
  /-- R10: CANDIDATE_DROP. -/
  | candidateDrop
  /-- R11: REJOIN_RUN_LAPSE. -/
  | rejoinRunLapse
  /-- R17: TRUNK_COMMAND_APPLY. -/
  | trunkCommandApply
  /-- R6: MARKER_RECEIVED. -/
  | markerReceived (cell : Bytes) (smp : Samples)
  /-- R26: UPLINK_RECEIVED. -/
  | uplinkReceived (cell : Bytes)
  /-- R30: CELL_RECEIVED. -/
  | cellReceived (line : Line) (cell : Bytes)
  /-- R36: CARRIER_LOST. -/
  | carrierLost (line : Line)
  /-- R31: HOLD_PERIOD_EXPIRY. -/
  | holdPeriodExpiry (line : Line)
  /-- R33: HELD_COUNT_EXPIRY. -/
  | heldCountExpiry (line : Line)
  /-- R39: REMOTE_LEVEL_EXPIRY. -/
  | remoteLevelExpiry (line : Line)
  /-- R45: TRANSACTION_START. -/
  | transactionStart (bus : Bus) (high : Bool)
  /-- R55: TRANSACTION_COMPLETE. -/
  | transactionComplete (bus : Bus) (reply : BusReply)
  /-- R43: HOLD_TIMEOUT. -/
  | holdTimeout (hold : ClockHold)
  /-- R46: RELEASE_SEQUENCE. -/
  | releaseSequence (bus : Bus) (high : Bool)
  /-- R47: BUS_FAILED. -/
  | busFailed (bus : Bus)
  /-- R99: SUPPLY_MODE_CHANGE. -/
  | supplyModeChange (mains : Bool) (battery : Nat)
  /-- R88: SUPERVISION_LAPSE. -/
  | supervisionLapse
  /-- R93: OVERRIDE_WINDOW_EXPIRY. -/
  | overrideWindowExpiry
  /-- R94: OVERRIDE_DURATION_EXPIRY. -/
  | overrideDurationExpiry
  /-- R74: MOBILE_SILENCE_TIMEOUT. -/
  | mobileSilenceTimeout
  /-- R79: READING_REPORT_DUE. -/
  | readingReportDue (ch : Fin 16)
  /-- R112: ANNOUNCEMENT_END. -/
  | announcementEnd
  /-- R119: REFUGE_PERIODIC_REPORT. -/
  | refugePeriodicReport (r : Fin 4)
  /-- R135: CALL_STATE_TIMEOUT. -/
  | callStateTimeout (e : Fin 12)
  /-- R135: CALL_LOSS_TIMEOUT. -/
  | callLossTimeout (e : Fin 12)
  /-- R128: CALL_SETUP_RECEIVED. -/
  | callSetupReceived (line : Line) (src : Nat) (payload : Bytes)
  /-- R129: CALL_ALERTING_RECEIVED. -/
  | callAlertingReceived (line : Line) (src : Nat) (payload : Bytes)
  /-- R131: CALL_CONNECT_RECEIVED. -/
  | callConnectReceived (line : Line) (src : Nat) (payload : Bytes)
  /-- R133: CALL_REFUSED_RECEIVED. -/
  | callRefusedReceived (line : Line) (src : Nat) (payload : Bytes)
  /-- R133: CALL_CLEAR_RECEIVED. -/
  | callClearReceived (line : Line) (src : Nat) (payload : Bytes)
  /-- R137: CALL_CELL_RECEIVED. -/
  | callCellReceived (line : Line) (src : Nat) (index : Nat) (voice : Option Bytes)
  /-- R160: BLOCK_REQUEST_RECEIVED. -/
  | blockRequestReceived (line : Line) (payload : Bytes)
  /-- R159: BLOCK_GRANT_RECEIVED. -/
  | blockGrantReceived (line : Line) (payload : Bytes)
  /-- R161: BLOCK_EXIT_RECEIVED. -/
  | blockExitReceived (line : Line) (payload : Bytes)
  /-- R170: COMMAND_RECEIVED. -/
  | commandReceived (record : Bytes)
  /-- R144: RADIO_FRAME_DISCARD. -/
  | radioFrameDiscard (frame : Bytes)
  /-- R144: RADIO_TIMEOUT. -/
  | radioTimeout
  /-- R149: BEACON. -/
  | beacon (frame : Bytes)
  /-- R145: ORDER_FRAME_SEND. -/
  | orderFrameSend
  /-- R150: VEHICLE_DEPARTURE. -/
  | vehicleDeparture (v : Fin 16)
  /-- R159: BLOCK_REQUEST_RESEND. -/
  | blockRequestResend (v : Fin 16)
  /-- R162: MEMBER_OVERDUE. -/
  | memberOverdue (id : Nat)
  /-- R167: RESPONSE_READ. -/
  | responseRead (port : Port)
  /-- R166: UNKNOWN_COMMAND. -/
  | unknownCommand (src : Source) (record : Bytes)
  /-- R15: TRUNK_CONFIGURE. -/
  | trunkConfigure (src : Source) (tag : Byte) (params : Bytes)
  /-- R16: TRUNK_START. -/
  | trunkStart (src : Source) (tag : Byte) (params : Bytes)
  /-- R16: TRUNK_HALT. -/
  | trunkHalt (src : Source) (tag : Byte) (params : Bytes)
  /-- R16: TRUNK_SETUP. -/
  | trunkSetup (src : Source) (tag : Byte) (params : Bytes)
  /-- R29: FILTER_SET. -/
  | filterSet (src : Source) (tag : Byte) (params : Bytes)
  /-- R32: HOLD_CONFIGURE. -/
  | holdConfigure (src : Source) (tag : Byte) (params : Bytes)
  /-- R35: CELL_TAKE. -/
  | cellTake (src : Source) (tag : Byte) (params : Bytes)
  /-- R38: LINE_STATUS_READ. -/
  | lineStatusRead (src : Source) (tag : Byte) (params : Bytes)
  /-- R41: MESSAGE_SEND. -/
  | messageSend (src : Source) (tag : Byte) (params : Bytes)
  /-- R48: BUS_RELEASE. -/
  | busRelease (src : Source) (tag : Byte) (params : Bytes) (high : Bool)
  /-- R62: CHANNEL_CONFIGURE. -/
  | channelConfigure (src : Source) (tag : Byte) (params : Bytes)
  /-- R63: CHANNEL_ENABLE. -/
  | channelEnable (src : Source) (tag : Byte) (params : Bytes)
  /-- R64: CHANNEL_DISABLE. -/
  | channelDisable (src : Source) (tag : Byte) (params : Bytes)
  /-- R65: CHANNEL_READ. -/
  | channelRead (src : Source) (tag : Byte) (params : Bytes)
  /-- R85: TRIP_MANUAL. -/
  | tripManual (src : Source) (tag : Byte) (params : Bytes)
  /-- R86: TRIP_RESET. -/
  | tripReset (src : Source) (tag : Byte) (params : Bytes)
  /-- R87: SUPERVISE_START. -/
  | superviseStart (src : Source) (tag : Byte) (params : Bytes)
  /-- R89: SUPERVISE_REFRESH. -/
  | superviseRefresh (src : Source) (tag : Byte) (params : Bytes)
  /-- R92: OVERRIDE_REQUEST. -/
  | overrideRequest (src : Source) (tag : Byte) (params : Bytes)
  /-- R93: OVERRIDE_CONFIRM. -/
  | overrideConfirm (src : Source) (tag : Byte) (params : Bytes)
  /-- R95: OVERRIDE_CANCEL. -/
  | overrideCancel (src : Source) (tag : Byte) (params : Bytes)
  /-- R100: SUPPLY_CONFIGURE. -/
  | supplyConfigure (src : Source) (tag : Byte) (params : Bytes)
  /-- R105: ALARM_RAISE_ALERT. -/
  | alarmRaiseAlert (src : Source) (tag : Byte)
  /-- R105: ALARM_RAISE_EVACUATE. -/
  | alarmRaiseEvacuate (src : Source) (tag : Byte)
  /-- R105: EVACUATE. -/
  | evacuate (src : Source) (tag : Byte) (params : Bytes)
  /-- R106: ALERT_CLEAR_OWN. -/
  | alertClearOwn (src : Source) (tag : Byte)
  /-- R106: ALERT_CLEAR_BOTH. -/
  | alertClearBoth (src : Source) (tag : Byte)
  /-- R111: ALL_CLEAR. -/
  | allClear (src : Source) (tag : Byte) (params : Bytes)
  /-- R113: SOUNDER_SILENCE. -/
  | sounderSilence (src : Source) (tag : Byte) (params : Bytes)
  /-- R114: REFUGE_CONFIGURE. -/
  | refugeConfigure (src : Source) (tag : Byte) (params : Bytes)
  /-- R118: REFUGE_ACK. -/
  | refugeAck (src : Source) (tag : Byte) (params : Bytes)
  /-- R126: CALL_OPEN. -/
  | callOpen (src : Source) (tag : Byte) (params : Bytes)
  /-- R130: CALL_ANSWER. -/
  | callAnswer (src : Source) (tag : Byte) (params : Bytes)
  /-- R130: CALL_REJECT. -/
  | callReject (src : Source) (tag : Byte) (params : Bytes)
  /-- R134: CALL_CLEAR. -/
  | callClear (src : Source) (tag : Byte) (params : Bytes)
  /-- R141: CALL_READ. -/
  | callRead (src : Source) (tag : Byte) (params : Bytes)
  /-- R139: VOICE_PUT. -/
  | voicePut (src : Source) (tag : Byte) (params : Bytes)
  /-- R139: VOICE_TAKE. -/
  | voiceTake (src : Source) (tag : Byte) (params : Bytes)
  /-- R124: CALL_BUDGET_SET. -/
  | callBudgetSet (src : Source) (tag : Byte) (params : Bytes)
  /-- R154: VEHICLE_ORDER_STOP. -/
  | vehicleOrderStop (src : Source) (tag : Byte) (id : Nat)
  /-- R154: VEHICLE_ORDER_RELEASE. -/
  | vehicleOrderRelease (src : Source) (tag : Byte) (id : Nat)
  /-- R164: VEHICLE_READ. -/
  | vehicleRead (src : Source) (tag : Byte) (params : Bytes)
  /-- R156: BLOCK_CONFIGURE. -/
  | blockConfigure (src : Source) (tag : Byte) (params : Bytes)
  /-- R164: BLOCK_READ. -/
  | blockRead (src : Source) (tag : Byte) (params : Bytes)
  /-- R162: BLOCK_FORCE_CLEAR. -/
  | blockForceClear (src : Source) (tag : Byte) (params : Bytes)
  /-- R176: NOTICE_ENABLE_SET. -/
  | noticeEnableSet (src : Source) (tag : Byte) (params : Bytes)
  /-- R176: NOTICE_ENABLE_CLEAR. -/
  | noticeEnableClear (src : Source) (tag : Byte) (params : Bytes)
  /-- R176: NOTICE_GROUP_SET. -/
  | noticeGroupSet (src : Source) (tag : Byte) (params : Bytes)
  /-- R175: NOTICE_TAKE. -/
  | noticeTake (src : Source) (tag : Byte) (params : Bytes)
  /-- R177: STATUS_READ. -/
  | statusRead (src : Source) (tag : Byte) (page : Nat)
  /-- R177: STATUS_READ_CLEAR. -/
  | statusReadClear (src : Source) (tag : Byte) (page : Nat)
  /-- R179: IDENT_READ. -/
  | identRead (src : Source) (tag : Byte) (params : Bytes)
  /-- R169: REMOTE. -/
  | remote (src : Source) (tag : Byte) (params : Bytes)
  /-- R144: SYNC_BYTE_RECEIVED. -/
  | syncByteReceived
  /-- R43: CLOCK_LET_GO. -/
  | clockLetGo (bus : Bus)
deriving DecidableEq, Repr

end Sys2Proof
end

