-- ==== Sys2Proof/Machine/Layout.lean ====
section
/-! DEFINITION. Chapter 10: the codes of R180, the packing of R184, the cell layout and CRC of R181, the kinds of R182. -/

namespace Sys2Proof

/-! ## Bytes (R180, R184) -/

/-- One byte. -/
def u8 (n : Nat) : Bytes := [BitVec.ofNat 8 n]

/-- Two bytes, most significant first. -/
def u16 (n : Nat) : Bytes := [BitVec.ofNat 8 (n / 256), BitVec.ofNat 8 n]

/-- A signed two-byte field, two's complement (R180). -/
def i16 (n : Int) : Bytes := u16 (n % 65536).toNat

/-- A yes or set indication is 1 (R180). -/
def flag (b : Bool) : Nat := if b then 1 else 0

/-- A one-byte flag. -/
def uFlag (b : Bool) : Bytes := u8 (flag b)

/-- A one-byte field that may be absent: all ones (R180). -/
def opt8 : Option Nat → Bytes
  | some n => u8 n
  | none => u8 255

/-- A two-byte field that may be absent: all ones (R180). -/
def opt16 : Option Nat → Bytes
  | some n => u16 n
  | none => u16 65535

/-- R180: a round stamp with tick, three bytes; absent is round 65535, tick 255. -/
def stampBytes : Option Stamp → Bytes
  | some t => u16 t.round ++ u8 t.tick
  | none => u16 65535 ++ u8 255

/-- R180: a set as a bitmap, bit 0 for the first member listed. -/
def bitmap (bs : List Bool) : Nat := bs.foldr (fun b acc => flag b + 2 * acc) 0

/-- The byte at an offset, as a number; 0 beyond the end. -/
def byteAt (p : Bytes) (i : Nat) : Nat := (p.getD i 0).toNat

/-- The two-byte number at an offset, most significant byte first. -/
def wordAt (p : Bytes) (i : Nat) : Nat := byteAt p i * 256 + byteAt p (i + 1)

/-- Whether bit `i` of a number is set. -/
def bitOf (n i : Nat) : Bool := n / 2 ^ i % 2 == 1

/-- The 8-bit sum of a run of bytes (R184, R188). -/
def byteSum (p : Bytes) : Nat := p.foldl (fun acc b => (acc + b.toNat) % 256) 0

/-- The check byte that makes the 8-bit sum of a run and itself 0 (R184, R188). -/
def checkByte (p : Bytes) : Byte := BitVec.ofNat 8 (256 - byteSum p)

/-- A value moved to the nearer limit of a range (00_scope.md, Arithmetic). -/
def clamp (lo hi n : Nat) : Nat := if n < lo then lo else if hi < n then hi else n

/-- A counter that stops at a limit. -/
def satSucc (limit n : Nat) : Nat := if n < limit then n + 1 else limit

/-! ## Codes (R180) -/

/-- Gas channel level. -/
def GasLevel.code : GasLevel → Nat
  | .normal => 0 | .advise => 1 | .alarm => 2 | .trip => 3

/-- Section level. -/
def SectionLevel.code : SectionLevel → Nat
  | .normal => 0 | .alert => 1 | .evacuate => 2

/-- R183: a level code in a cell 0; code 3 is read as EVACUATE, bits 7..2 are not read (log 26). -/
def sectionLevelOf (n : Nat) : SectionLevel :=
  match n % 4 with
  | 0 => .normal | 1 => .alert | _ => .evacuate

/-- The higher of two section levels. -/
def SectionLevel.sup (a b : SectionLevel) : SectionLevel := if a.code < b.code then b else a

/-- Channel status. -/
def ChannelStatus.code : ChannelStatus → Nat
  | .noData => 0 | .ok => 1 | .fault => 2

/-- Gas kind. -/
def GasKind.code : GasKind → Nat
  | .ch4 => 1 | .co => 2 | .co2 => 3 | .o2 => 4 | .airflow => 5

/-- The gas kind of a code. -/
def gasKindOf : Nat → Option GasKind
  | 1 => some .ch4 | 2 => some .co | 3 => some .co2 | 4 => some .o2 | 5 => some .airflow | _ => none

/-- R187: the code of a refuge head in a sensor reply. -/
def refugeKindCode : Nat := 6

/-- Kind maximum (00_scope.md, Gas kinds). -/
def GasKind.maximum : GasKind → Nat
  | .ch4 => 10000 | .co => 2000 | .co2 => 5000 | .o2 => 2500 | .airflow => 2000

/-- Direction of a kind: whether worse means higher. -/
def GasKind.rising : GasKind → Bool
  | .ch4 | .co | .co2 => true
  | .o2 | .airflow => false

/-- "Worse than" in the direction of the kind. -/
def GasKind.worse (k : GasKind) (a b : Nat) : Bool := if k.rising then b < a else a < b

/-- "Worse than or equal to" in the direction of the kind. -/
def GasKind.worseEq (k : GasKind) (a b : Nat) : Bool := if k.rising then b ≤ a else a ≤ b

/-- "Better than" in the direction of the kind. -/
def GasKind.better (k : GasKind) (a b : Nat) : Bool := k.worse b a

/-- Supply mode. -/
def SupplyMode.code : SupplyMode → Nat
  | .mains => 0 | .battery => 1 | .reserve => 2

/-- R183: a supply mode code in an UPLINK; code 3 is read as RESERVE, bits 7..2 are not read (log 26). -/
def supplyModeOf (n : Nat) : SupplyMode :=
  match n % 4 with
  | 0 => .mains | 1 => .battery | _ => .reserve

/-- Trunk state. -/
def TrunkState.code : TrunkState → Nat
  | .setup => 0 | .listen => 1 | .join => 2 | .carry => 3 | .holdover => 4 | .islandLead => 5 | .leading => 6 | .halted => 7

/-- Call priority. -/
def Priority.code : Priority → Nat
  | .routine => 0 | .urgent => 1 | .emergency => 2

/-- The priority of a code. -/
def priorityOf : Nat → Option Priority
  | 0 => some .routine | 1 => some .urgent | 2 => some .emergency | _ => none

/-- Call cause: 0..11 in table order; any other code as received (R183). -/
def CallCause.code : CallCause → Nat
  | .cleared => 0 | .rejected => 1 | .preempted => 2 | .noRoute => 3 | .noAnswer => 4 | .lineLost => 5
  | .evacuation => 6 | .supply => 7 | .budget => 8 | .stale => 9 | .noCells => 10 | .noEntry => 11
  | .other c => c

/-- The cause of a received code (R183: a code above 11 is acted on as any other and passed on unchanged). -/
def callCauseOf : Nat → CallCause
  | 0 => .cleared | 1 => .rejected | 2 => .preempted | 3 => .noRoute | 4 => .noAnswer | 5 => .lineLost
  | 6 => .evacuation | 7 => .supply | 8 => .budget | 9 => .stale | 10 => .noCells | 11 => .noEntry
  | c => .other c

/-- Vehicle kind. -/
def VehicleKind.code : VehicleKind → Nat
  | .diesel => 1 | .shuttle => 2 | .personnel => 3 | .service => 4

/-- The vehicle kind of a code. -/
def vehicleKindOf : Nat → Option VehicleKind
  | 1 => some .diesel | 2 => some .shuttle | 3 => some .personnel | 4 => some .service | _ => none

/-- Heading. -/
def Heading.code : Heading → Nat
  | .inbye => 1 | .outbye => 2 | .stopped => 3

/-- The heading of a code. -/
def headingOf : Nat → Option Heading
  | 1 => some .inbye | 2 => some .outbye | 3 => some .stopped | _ => none

/-- Order. -/
def Order.code : Order → Nat
  | .shutdown => 1 | .stop => 2 | .evacuate => 3 | .noEntry => 4 | .wait => 5 | .proceed => 6

/-- Role: 0 JUNCTION, 1 HEAD (R184). -/
def Role.code : Role → Nat
  | .junction => 0 | .head => 1

/-- Line: OUTBYE 0, INBYE 1 (the order of R29 and R38). -/
def Line.code : Line → Nat
  | .outbye => 0 | .inbye => 1

/-- Bus state, in the order of the opening table of Chapter 3. -/
def BusState.code : BusState → Nat
  | .idle => 0 | .polling => 1 | .releasing => 2 | .failed => 3

/-- Miss reason, in the order of R58. -/
def MissReason.code : MissReason → Nat
  | .noAck => 0 | .holdTimeout => 1 | .checkBad => 2 | .kindMismatch => 3 | .headFault => 4 | .range => 5 | .busFailed => 6

/-- Supervision state, in the order of 5.2. -/
def SupervisionState.code : SupervisionState → Nat
  | .off => 0 | .running => 1 | .late => 2 | .expired => 3

/-- Override state, in the order of R91. -/
def OverrideState.code : OverrideState → Nat
  | .none => 0 | .pending => 1 | .active => 2

/-- Override end reason, in the order of R91. -/
def EndReason.code : EndReason → Nat
  | .window => 0 | .expired => 1 | .cancelledSp => 2 | .cancelledSurface => 3 | .evacuation => 4

/-- Refuge state (R182). -/
def RefugeState.code : RefugeState → Nat
  | .unused => 0 | .vacant => 1 | .doorOpen => 2 | .occupied => 3 | .noResponse => 4

/-- Call entry state, FREE 0 first (R121). -/
def CallState.code : CallState → Nat
  | .requested => 1 | .ringing => 2 | .connected => 3

/-- Call role, in the order of R121. -/
def CallRole.code : CallRole → Nat
  | .origin => 0 | .transit => 1 | .destination => 2

/-- Block role, in the order of R146. -/
def BlockRole.code : BlockRole → Nat
  | .none => 0 | .member => 1 | .waiting => 2

/-- Outbye request, in the order of R146. -/
def OutbyeRequest.code : OutbyeRequest → Nat
  | .none => 0 | .requested => 1 | .granted => 2

/-- Block direction, in the order of R157. -/
def BlockDirection.code : BlockDirection → Nat
  | .free => 0 | .inbyeBound => 1 | .outbyeBound => 2

/-- Discard reason, in the order of R144. -/
def DiscardReason.code : DiscardReason → Nat
  | .length => 0 | .timeout => 1 | .check => 2 | .type => 3 | .field => 4

/-- R184: refusal causes 1..11 in the order of R171. -/
def RefusalCause.code : RefusalCause → Nat
  | .badFrame => 1 | .unknownCommand => 2 | .denied => 3 | .badParam => 4 | .wrongState => 5 | .busy => 6
  | .noEntry => 7 | .noCells => 8 | .stillActive => 9 | .late => 10 | .coverage => 11

/-- R59: alert-at level, coded in list order (log 37). -/
def AlertAt.code : AlertAt → Nat
  | .advise => 0 | .alarm => 1 | .trip => 2 | .never => 3

/-- The alert-at level of a code. -/
def alertAtOf : Nat → Option AlertAt
  | 0 => some .advise | 1 => some .alarm | 2 => some .trip | 3 => some .never | _ => none

/-- R59: evacuate-at level, coded in list order (log 37). -/
def EvacuateAt.code : EvacuateAt → Nat
  | .alarm => 0 | .trip => 1 | .never => 2

/-- The evacuate-at level of a code. -/
def evacuateAtOf : Nat → Option EvacuateAt
  | 0 => some .alarm | 1 => some .trip | 2 => some .never | _ => none

/-- R103: whether a channel level is at or above an alert-at level. -/
def AlertAt.met (a : AlertAt) (l : GasLevel) : Bool :=
  match a with
  | .advise => 1 ≤ l.code
  | .alarm => 2 ≤ l.code
  | .trip => 3 ≤ l.code
  | .never => false

/-- R103: whether a channel level is at or above an evacuate-at level. -/
def EvacuateAt.met (a : EvacuateAt) (l : GasLevel) : Bool :=
  match a with
  | .alarm => 2 ≤ l.code
  | .trip => 3 ≤ l.code
  | .never => false

/-! ## Notice kinds (R186, 9.4) -/

/-- R186: notice kind codes. -/
def NoticeKind.code : NoticeKind → Nat
  | .trip => 1 | .evacuate => 2 | .supervisionLate => 3
  | .levelChange => 16 | .channelFault => 17 | .overrideState => 18 | .supplyChange => 19 | .alertChange => 20
  | .refugeEvent => 21 | .callIncoming => 22 | .callState => 23 | .blockOverdue => 24 | .vehicleEvent => 25
  | .tableFull => 26 | .trunkState => 27 | .lineEvent => 28 | .deliveryWaiting => 29 | .commandDone => 30

/-- 9.4: the maskable kinds are those with codes 16..30; the index of one in the bitmaps of R186. -/
def NoticeKind.maskIndex (k : NoticeKind) : Option Nat := if 16 ≤ k.code then some (k.code - 16) else none

/-- 9.4: whether a kind is maskable. -/
def NoticeKind.maskable (k : NoticeKind) : Bool := 16 ≤ k.code

/-- Pad or cut notice data to its 6 bytes (R186). -/
def noticeData (p : Bytes) : Bytes := (p ++ List.replicate 6 0).take 6

/-! ## Cells (R181, R182) -/

def kIdle : Nat := 0
def kMarker : Nat := 1
def kUplink : Nat := 2
def kCallSetup : Nat := 16
def kCallAlerting : Nat := 17
def kCallConnect : Nat := 18
def kCallRefused : Nat := 19
def kCallClear : Nat := 20
def kLevelChange : Nat := 32
def kTripReport : Nat := 33
def kOverrideAsk : Nat := 34
def kSupervisionLate : Nat := 35
def kRefugeCall : Nat := 36
def kRefugeReport : Nat := 37
def kBlockRequest : Nat := 48
def kBlockGrant : Nat := 49
def kBlockExit : Nat := 50
def kCommand : Nat := 64
def kCommandReply : Nat := 65
def kVoice : Nat := 80
def kSilence : Nat := 81
def kReadingReport : Nat := 96
def kVehicleEvent : Nat := 97
def kMessage : Nat := 98

/-- R182: the class and the shortest and longest payload of a known kind (IDLE is no kind of the table of R20). -/
def kindInfo : Nat → Option (CellClass × Nat × Nat)
  | 1 => some (.alarm, 7, 7)
  | 2 => some (.alarm, 5, 5)
  | 16 => some (.signal, 9, 9)
  | 17 => some (.signal, 3, 3)
  | 18 => some (.signal, 3, 3)
  | 19 => some (.signal, 4, 4)
  | 20 => some (.signal, 4, 4)
  | 32 => some (.signal, 12, 12)
  | 33 => some (.signal, 9, 9)
  | 34 => some (.signal, 10, 10)
  | 35 => some (.signal, 6, 6)
  | 36 => some (.signal, 7, 7)
  | 37 => some (.signal, 8, 24)
  | 48 => some (.signal, 3, 3)
  | 49 => some (.signal, 2, 2)
  | 50 => some (.signal, 3, 3)
  | 64 => some (.signal, 4, 24)
  | 65 => some (.signal, 4, 24)
  | 80 => some (.call, 24, 24)
  | 81 => some (.call, 0, 0)
  | 96 => some (.data, 16, 16)
  | 97 => some (.data, 9, 16)
  | 98 => some (.data, 0, 24)
  | _ => none

/-- R181: class codes. -/
def CellClass.code : CellClass → Nat
  | .alarm => 0 | .signal => 1 | .call => 2 | .data => 3

/-- The class of bits 7..6 of byte 1. -/
def cellClassOf (n : Nat) : CellClass :=
  match n % 4 with
  | 0 => .alarm | 1 => .signal | 2 => .call | _ => .data

/-- R20: the class the CS uses: of the table for a known kind, of the header otherwise. -/
def Cell.classOf (c : Cell) : CellClass :=
  match kindInfo c.kind with
  | some (cls, _, _) => cls
  | none => c.cls

/-- R181: one step of the CRC division, most significant bit first, polynomial x^16 + x^12 + x^5 + 1. -/
def crcBit (r : BitVec 16) : BitVec 16 := if r.msb then (r <<< 1) ^^^ 0x1021#16 else r <<< 1

/-- R181: one byte of the CRC division. -/
def crcByte (r : BitVec 16) (b : Byte) : BitVec 16 :=
  let r0 := r ^^^ (b.zeroExtend 16 <<< 8)
  crcBit (crcBit (crcBit (crcBit (crcBit (crcBit (crcBit (crcBit r0)))))))

/-- R181: the CRC of a run of bytes, register preset to all ones, no final inversion. -/
def crc (p : Bytes) : BitVec 16 := p.foldl crcByte 0xFFFF#16

/-- R181: the CRC of a received cell is good when the remainder over all 32 bytes is 0. -/
def crcGood (raw : Bytes) : Bool := crc raw == 0#16

/-- R181: the header's payload length field, 0..31. -/
def rawLength (raw : Bytes) : Nat := byteAt raw 1 % 32

/-- R181: a received cell's fields. Unassigned bits and the bytes after the payload are not read. -/
def decodeCell (raw : Bytes) : Cell :=
  { kind := byteAt raw 0
    cls := cellClassOf (byteAt raw 1 / 64)
    src := byteAt raw 2 % 64
    dst := byteAt raw 3 % 64
    hop := byteAt raw 4 % 64
    stamp := byteAt raw 5
    payload := ((raw.drop 6).take 24).take (rawLength raw) }

/-- R180, R181: bytes 0..29 of a cell as sent; bits 7..6 of bytes 2 to 4 are not assigned and go out as 0. -/
def cellBody (c : Cell) : Bytes :=
  u8 c.kind ++ u8 (c.cls.code * 64 + c.payload.length) ++ u8 (c.src % 64) ++ u8 (c.dst % 64) ++ u8 (c.hop % 64) ++ u8 c.stamp
    ++ (c.payload ++ List.replicate 24 0).take 24

/-- R181: the 32 bytes of a cell as sent, the CRC last. -/
def encodeCell (c : Cell) : Bytes := cellBody c ++ u16 (crc (cellBody c)).toNat

/-- R35: a cell's header as CELL_TAKE returns it, the six bytes of R181. -/
def cellHeader (c : Cell) : Bytes := (cellBody c).take 6

/-- R25: whether a DATA cell is a READING_REPORT naming CH4, CO or O2. -/
def reserveReport (c : Cell) : Bool :=
  c.kind == kReadingReport && (byteAt c.payload 1 == 1 || byteAt c.payload 1 == 2 || byteAt c.payload 1 == 4)

/-! ## Radio frames (R188) -/

/-- R188: the ORDER frame answering a vehicle: sync byte, length, body, check. -/
def orderFrame (id : Nat) (o : Order) : Bytes :=
  let body := u8 4 ++ u8 2 ++ u16 id ++ u8 o.code
  u8 126 ++ body ++ [checkByte body]

/-- R188: the fields of a good BEACON. -/
structure Beacon where
  id : Nat
  kind : VehicleKind
  heading : Heading
  echo : Nat
  methane : Option Nat
deriving DecidableEq, Repr

/-- R144, R188: how the receiver judges the bytes after a sync byte: a discard reason, or a beacon. The tests are taken
in the order of the table of R144; bytes fewer or more than the length byte and a check byte ask for are discarded with CHECK
(log 22). -/
def judgeFrame (f : Bytes) : DiscardReason ⊕ Beacon :=
  let len := byteAt f 0
  if len == 0 || 16 < len then .inl .length
  else if byteAt f 1 == 1 && len != 8 then .inl .length
  else if f.length != len + 2 || byteSum f != 0 then .inl .check
  else if byteAt f 1 != 1 then .inl .type
  else
    let id := wordAt f 2
    match vehicleKindOf (byteAt f 4), headingOf (byteAt f 5) with
    | some k, some h =>
      if id == 0 || 4095 < id || 6 < byteAt f 6 then .inl .field
      else .inr { id := id, kind := k, heading := h, echo := byteAt f 6,
                  methane := if wordAt f 7 == 65535 then none else some (wordAt f 7) }
    | _, _ => .inl .field

end Sys2Proof
end

