-- ==== Sys2Proof/Machine/State.lean ====
section
/-! DEFINITION. The state of the TL4320, block by block as 00_scope.md lists the blocks, as plain data; the reasons a step
could stop; and the state right after reset. INVENTORY.md lists every field with the rule that names it. -/

namespace Sys2Proof.Machine

/-- Faults. No meaning of this model raises one: the part answers every command. -/
inductive Fault
  /-- Raised by nobody (kept so that the type is not empty). Safe. -/
  | none
deriving DecidableEq, Repr

/-- Refusals. -/
inductive Refusal
  /-- Raised by an arm of exec for a row that has no meaning yet. Safe. -/
  | notModelled (mnemonic : String)
deriving DecidableEq, Repr

/-! ## Time Base -/

/-- R15: the five trunk parameters. -/
structure TrunkParams where
  joinCount : Nat
  holdoverLimit : Nat
  listenTimeout : Nat
  noiseFactor : Nat
  staleLimit : Nat
deriving DecidableEq, Repr

/-- R15: defaults. -/
def TrunkParams.default : TrunkParams :=
  { joinCount := 8, holdoverLimit := 40, listenTimeout := 100, noiseFactor := 4, staleLimit := 100 }

/-- R5: the flags a marker carries. -/
structure MarkerFlags where
  holdover : Bool
  island : Bool
deriving DecidableEq, Repr

/-- R9: the candidate marker: its round number, and the ticks since its arrival. -/
structure Candidate where
  round : Nat
  age : Nat
deriving DecidableEq, Repr

/-- R11: the rejoin run: count, run lead, and the round number and age in ticks of its last marker. -/
structure RejoinRun where
  count : Nat
  lead : Nat
  round : Nat
  age : Nat
deriving DecidableEq, Repr

/-- R16, R168: the pending trunk command, with who issued it. -/
structure PendingTrunk where
  cmd : TrunkCommand
  src : Source
  tag : Byte
deriving DecidableEq, Repr

/-- The Time Base (Chapter 1). -/
structure TimeBase where
  role : Role
  address : Nat
  addressInvalid : Bool
  running : Nat
  tick : Nat
  /-- R2, R6: ticks since the last round start or trimming marker; the expected tick 0 lies at 256 -/
  phaseAge : Nat
  /-- R10: phase age until which the marker of the round already started in HOLDOVER may come -/
  lateUntil : Option Nat
  trunk : TrunkState
  lead : Option Nat
  epoch : Nat
  flags : MarkerFlags
  params : TrunkParams
  joinCnt : Nat
  runLead : Nat
  holdoverCnt : Nat
  quietCnt : Nat
  listenAge : Nat
  candidate : Option Candidate
  rejoin : RejoinRun
  pendingCmd : Option PendingTrunk
  tripStamp : Option Stamp
  refugeStamps : Vector (Option Stamp) 4
deriving DecidableEq, Repr

/-! ## Cell Switch and Trunk Line Interfaces -/

/-- R24: the outgoing queues of a line, oldest first. -/
structure OutQueues where
  signal : List Cell
  data : List Cell
deriving DecidableEq, Repr

/-- R31: holding state of a DATA queue and its period count. -/
structure Holding where
  holding : Bool
  period : Nat
deriving DecidableEq, Repr

/-- R32: flow-control parameters. -/
structure HoldParams where
  high : Nat
  low : Nat
  length : Nat
deriving DecidableEq, Repr

/-- R28: the drop set of a line. -/
structure DropSet where
  kindUnknown : Bool
  hopExceeded : Bool
  roundStale : Bool
deriving DecidableEq, Repr

/-- 2.9: the status of a line, with the carrier state the Trunk Line Interface reports. -/
structure LineStatus where
  lineUp : Bool
  carrierLost : Bool
  crcErrors : Bool
  signalLost : Bool
  dataDropped : Bool
  holdReceived : Bool
  deliveryOverflow : Bool
  filtered : Nat
  neighbour : Option Nat
  nbTripOut : Option Bool
  nbMode : Option SupplyMode
  /-- carrier present on the line -/
  carrier : Bool
  /-- carrier passed to absent in the round in progress -/
  lostThisRound : Bool
  /-- a cell with a good CRC came in the round in progress -/
  goodCell : Bool
deriving DecidableEq, Repr

/-- R39: what the neighbour on a line last sent, and its age. -/
structure Remote where
  level : SectionLevel
  age : Nat
deriving DecidableEq, Repr

/-- The Cell Switch (Chapter 2). -/
structure CellSwitch where
  queues : PerLine OutQueues
  holding : PerLine Holding
  /-- the announcement pending for the cell 0 of a line (R32) -/
  announce : PerLine (Option Nat)
  holdParams : HoldParams
  held : PerLine Nat
  dropSet : PerLine DropSet
  status : PerLine LineStatus
  remote : PerLine Remote
  safetyQ : List Cell
  generalQ : List Cell
  supplyMode : SupplyMode
  /-- the MODEL's output field: the cells of the round in progress on each line (log 29) -/
  sent : PerLine (List Cell)
  /-- the MODEL's own: cells built at a round start whose positions are not yet filled (R21, log 29) -/
  staging : Option (List (Line × Cell))
deriving DecidableEq, Repr

/-! ## Sensor Bus Masters -/

/-- 3.1: the target of a poll. -/
inductive Target | chan (c : Fin 16) | refuge (r : Fin 4)
deriving DecidableEq, Repr

/-- R52: a poll in a bus's list. -/
structure Poll where
  target : Target
  addr : Nat
deriving DecidableEq, Repr

/-- The transaction in flight, and whether its completion is to be discarded (R54). -/
structure InFlight where
  poll : Poll
  discarded : Bool
deriving DecidableEq, Repr

/-- R42, R43: what a master puts on its bus in a transaction: the start condition, the address byte, an acknowledgement or
none after a reply byte, and the stop condition. -/
inductive BusSign | start | address (byte : Byte) | ack | noAck | stop
deriving DecidableEq, Repr

/-- One Sensor Bus Master (opening table of Chapter 3). -/
structure BusMaster where
  state : BusState
  list : List Poll
  inFlight : Option InFlight
  started : Nat
  release : Nat
  holdTotal : Nat
  /-- R43: a stop condition is owed until the head lets go of the clock -/
  owesStop : Bool
  /-- R53: the mode last reported, and the mode in use -/
  modeTold : SupplyMode
  modeInUse : SupplyMode
  /-- the pin: both lines high, as last sampled -/
  linesHigh : Bool
  /-- the MODEL's output field: what the master put on the bus since the last transaction started (R42, R187, log 29) -/
  wire : List BusSign
deriving DecidableEq, Repr

/-! ## Gas Channel Unit -/

/-- R59, R61: what only a bus channel stores. -/
structure PollConfig where
  bus : Bus
  addr : Nat
  zero : Nat
  span : Nat
  interval : Nat
  phase : Nat
  missLimit : Nat
deriving DecidableEq, Repr

/-- R59: a channel's configuration in force. -/
structure ChannelConfig where
  kind : GasKind
  poll : Option PollConfig
  window : Nat
  report : Nat
  adviseSet : Nat
  alarmSet : Nat
  tripSet : Nat
  adviseClear : Nat
  alarmClear : Nat
  tripClear : Nat
  confirm : Nat
  failSafe : Bool
  vote : Bool
  riseLimit : Nat
  binding : Option (Fin 4)
  alertAt : AlertAt
  evacuateAt : EvacuateAt
deriving DecidableEq, Repr

/-- R58: a channel record. A channel is configured when it holds a configuration. -/
structure Channel where
  enabled : Bool
  cfg : Option ChannelConfig
  status : ChannelStatus
  level : GasLevel
  history : List Nat
  last : Option Nat
  average : Option Nat
  rise : Int
  overRange : Bool
  underRange : Bool
  saturated : Bool
  warmup : Bool
  skipped : Bool
  confirm : Nat
  miss : Nat
  missReason : Option MissReason
  stamp : Option Stamp
  report : Nat
  silence : Nat
deriving DecidableEq, Repr

/-- R58: a channel record after every reset. -/
def Channel.reset : Channel :=
  { enabled := false, cfg := none, status := .noData, level := .normal, history := [], last := none, average := none,
    rise := 0, overRange := false, underRange := false, saturated := false, warmup := false, skipped := false, confirm := 0,
    miss := 0, missReason := none, stamp := none, report := 0, silence := 0 }

/-- The Gas Channel Unit (Chapter 4). -/
structure GasUnit where
  channels : Vector Channel 16
  nodeMethane : GasLevel
  supplyMode : SupplyMode
deriving DecidableEq, Repr

/-! ## Trip Unit and Supply Monitor -/

/-- R80: the persisting cause set. -/
structure CauseSet where
  gas : Bool
  fault : Bool
  supervision : Bool
  supply : Bool
deriving DecidableEq, Repr

/-- R80: no persisting cause. -/
def CauseSet.empty : CauseSet := { gas := false, fault := false, supervision := false, supply := false }

/-- R82: a set of causes of both kinds. -/
structure TripCauses where
  persisting : CauseSet
  manual : Bool
  restart : Bool
deriving DecidableEq, Repr

/-- R82: no cause. -/
def TripCauses.empty : TripCauses := { persisting := .empty, manual := false, restart := false }

/-- R82: the trip record (its stamp is the Time Base's trip stamp). -/
structure TripRecord where
  capture : TripCauses
  channel : Option (Fin 16)
  later : TripCauses
deriving DecidableEq, Repr

/-- R87: the supervision machine. -/
structure Supervision where
  state : SupervisionState
  period : Option Nat
  count : Nat
deriving DecidableEq, Repr

/-- R91: the override record; the channel set as the bitmap of R180. -/
structure Override where
  state : OverrideState
  set : BitVec 16
  duration : Option Nat
  window : Nat
  durCount : Nat
  lastEnd : Option EndReason
deriving DecidableEq, Repr

/-- R98: the Supply Monitor. -/
structure SupplyMonitor where
  mode : SupplyMode
  absentRun : Nat
  presentRun : Nat
  lowRun : Nat
  highRun : Nat
  enter : Nat
  leave : Nat
  lastMains : Bool
  lastBattery : Nat
deriving DecidableEq, Repr

/-- The Trip Unit (Chapter 5). -/
structure TripUnit where
  latch : Bool
  causes : CauseSet
  record : Option TripRecord
  sup : Supervision
  ovr : Override
  supply : SupplyMonitor
deriving DecidableEq, Repr

/-! ## Section Alarm Unit -/

/-- R102: the local cause set. -/
structure LocalCauses where
  gasAlert : Bool
  supervision : Bool
  refugeCall : Bool
  manualAlert : Bool
  gasEvacuate : Bool
deriving DecidableEq, Repr

/-- R102: what a channel taking part was last handed over as. -/
structure ChannelInput where
  level : GasLevel
  status : ChannelStatus
  alertAt : AlertAt
  evacuateAt : EvacuateAt
  binding : Option (Fin 4)
deriving DecidableEq, Repr

/-- R56: the four fields of a refuge reading. -/
structure RefugeFields where
  doorOpen : Bool
  occupants : Nat
  pressed : Bool
  plantFault : Bool
deriving DecidableEq, Repr

/-- R114: a refuge record. -/
structure Refuge where
  head : Option (Bus × Nat)
  state : RefugeState
  fields : Option RefugeFields
  miss : Nat
  called : Bool
  report : Nat
deriving DecidableEq, Repr

/-- R114: a refuge record after every reset. -/
def Refuge.reset : Refuge :=
  { head := none, state := .unused, fields := none, miss := 0, called := false, report := 0 }

/-- The Section Alarm Unit (Chapter 6). -/
structure AlarmUnit where
  causes : LocalCauses
  holders : PerPort Bool
  supLate : Bool
  covered : BitVec 16
  inputs : Vector (Option ChannelInput) 16
  latch : Bool
  level : SectionLevel
  sentInbye : SectionLevel
  sentOutbye : SectionLevel
  announce : Nat
  pulse : Nat
  modeTold : SupplyMode
  modeInUse : SupplyMode
  refuges : Vector Refuge 4
deriving DecidableEq, Repr

/-! ## Call Table Unit -/

/-- R121: one side of a call entry; the neighbour's address is absent where no neighbour report gave one (log 8). -/
structure CallSide where
  line : Line
  addr : Option Nat
  index : Option Nat
deriving DecidableEq, Repr

/-- R138: a VOICE or SILENCE cell held in a relay slot. -/
inductive RelayCell | voice (payload : Bytes) | silence
deriving DecidableEq, Repr

/-- R121: a call entry that is not FREE. -/
structure Call where
  state : CallState
  role : CallRole
  origin : Nat
  originIdx : Nat
  priority : Priority
  up : Option CallSide
  far : Option CallSide
  farAddr : Nat
  caller : Nat
  callee : Option Nat
  timer : Nat
  silence : PerLine Nat
  connected : Option Stamp
  underrun : Nat
  overrun : Nat
  tx : Option Bytes
  rx : Option Bytes
  relay : PerLine (Option RelayCell)
deriving DecidableEq, Repr

/-- The Call Table Unit (Chapter 7). A FREE entry is `none`. -/
structure CallUnit where
  entries : Vector (Option Call) 12
  recency : List (Fin 12)
  budgetSet : Nat
  supplyMode : SupplyMode
  level : SectionLevel
deriving DecidableEq, Repr

/-! ## Vehicle Unit -/

/-- R146: a vehicle entry in use. -/
structure Vehicle where
  id : Nat
  kind : VehicleKind
  heading : Heading
  /-- INBYE or OUTBYE, or absent -/
  first : Option Line
  firstStamp : Stamp
  lastHeard : Nat
  unheard : Nat
  order : Order
  echoOk : Bool
  manualStop : Bool
  methane : Option Nat
  role : BlockRole
  request : OutbyeRequest
  resend : Nat
deriving DecidableEq, Repr

/-- R144, R145: the radio port. -/
structure Radio where
  /-- FRAME, or HUNT -/
  inFrame : Bool
  frameAge : Nat
  beacons : Nat
  discards : Nat
  lastReason : Option DiscardReason
  orders : List Bytes
  /-- the MODEL's output field: the last ORDER frame sent (log 29) -/
  lastSent : Bytes
deriving DecidableEq, Repr

/-- R156: the five values of BLOCK_CONFIGURE. -/
structure BlockConfig where
  governs : Bool
  outbyeGoverned : Bool
  convoy : Nat
  transit : Nat
  presence : Nat
deriving DecidableEq, Repr

/-- R157: a member of the roadway block. -/
structure Member where
  id : Nat
  round : Nat
  age : Nat
  overdue : Bool
deriving DecidableEq, Repr

/-- R157: a wait entry; a LOCAL entry has direction INBYE, a REMOTE entry direction OUTBYE. -/
structure Wait where
  id : Nat
  remote : Bool
deriving DecidableEq, Repr

/-- The Vehicle Unit (Chapter 8). A free entry is `none`. -/
structure VehicleUnit where
  entries : Vector (Option Vehicle) 16
  tableFull : Bool
  level : SectionLevel
  methane : GasLevel
  radio : Radio
  cfg : BlockConfig
  dir : BlockDirection
  members : List Member
  waits : List Wait
deriving DecidableEq, Repr

/-! ## Port Interface -/

/-- R184: a response. -/
structure Response where
  tag : Byte
  status : Nat
  data : Bytes
deriving DecidableEq, Repr

/-- 9.4: a notice: kind, stamp and 6 data bytes. -/
structure Notice where
  kind : NoticeKind
  stamp : Stamp
  data : Bytes
deriving DecidableEq, Repr

/-- R165: what the Port Interface holds for a port. The sets of maskable kinds are the bitmaps of R186. -/
structure PortState where
  slot : Option Response
  slotRead : Bool
  responseLost : Bool
  noticeOverflow : Bool
  queue : List Notice
  enabled : BitVec 16
  high : BitVec 16
  /-- the MODEL's output field: the bytes last clocked out by a response read (log 29) -/
  lastRead : Bytes
deriving DecidableEq, Repr

/-- The Port Interface (Chapter 9). -/
structure PortUnit where
  ports : PerPort PortState
  /-- R178: the reset-cause record -/
  powerOn : Bool
  external : Bool
deriving DecidableEq, Repr

/-! ## The whole -/

/-- The state of the part, and the queue of commands waiting. -/
structure State where
  tb : TimeBase
  cs : CellSwitch
  sbm : PerBus BusMaster
  gcu : GasUnit
  tu : TripUnit
  sau : AlarmUnit
  ctu : CallUnit
  vu : VehicleUnit
  pi : PortUnit
  pending : List Instr
deriving DecidableEq, Repr

/-! ## Reset values -/

/-- R3: whether a strapping is valid for a role. -/
def strapsValid (role : Role) (straps : Nat) : Bool :=
  match role with
  | .head => straps == 0
  | .junction => 1 ≤ straps && straps ≤ 62

/-- R3: the trunk state a strapping gives. -/
def bootTrunk (role : Role) (straps : Nat) : TrunkState :=
  if strapsValid role straps then
    match role with
    | .head => .leading
    | .junction => .listen
  else .setup

/-- 9.6: the Time Base after reset (R1, R3, R15, R16, R18). The trip stamp is that of the restart trip. -/
def TimeBase.boot (role : Role) (straps : Nat) : TimeBase :=
  { role := role, address := straps, addressInvalid := !strapsValid role straps, running := 0, tick := 0,
    phaseAge := 256, lateUntil := none, trunk := bootTrunk role straps,
    lead := if bootTrunk role straps = .leading then some 0 else none, epoch := 0,
    flags := { holdover := false, island := false }, params := .default, joinCnt := 0, runLead := 0, holdoverCnt := 0,
    quietCnt := 0, listenAge := 0, candidate := none, rejoin := { count := 0, lead := 0, round := 0, age := 0 },
    pendingCmd := none, tripStamp := some { round := 0, tick := 0 }, refugeStamps := Vector.replicate 4 none }

/-- R28: the drop set after every reset. -/
def DropSet.default : DropSet := { kindUnknown := true, hopExceeded := true, roundStale := false }

/-- R36: the status of a line after every reset. -/
def LineStatus.reset : LineStatus :=
  { lineUp := false, carrierLost := false, crcErrors := false, signalLost := false, dataDropped := false,
    holdReceived := false, deliveryOverflow := false, filtered := 0, neighbour := none, nbTripOut := none,
    nbMode := none, carrier := false, lostThisRound := false, goodCell := false }

/-- 9.6: the Cell Switch after reset (R24, R28, R31 to R34, R36, R39). -/
def CellSwitch.boot : CellSwitch :=
  { queues := ⟨⟨[], []⟩, ⟨[], []⟩⟩, holding := ⟨⟨false, 0⟩, ⟨false, 0⟩⟩, announce := ⟨none, none⟩,
    holdParams := { high := 36, low := 12, length := 20 }, held := ⟨0, 0⟩, dropSet := ⟨.default, .default⟩,
    status := ⟨.reset, .reset⟩, remote := ⟨⟨.normal, 0⟩, ⟨.normal, 0⟩⟩, safetyQ := [], generalQ := [],
    supplyMode := .mains, sent := ⟨[], []⟩, staging := none }

/-- Opening table of Chapter 3: a Sensor Bus Master after every reset. -/
def BusMaster.boot : BusMaster :=
  { state := .idle, list := [], inFlight := none, started := 0, release := 0, holdTotal := 0, owesStop := false,
    modeTold := .mains, modeInUse := .mains, linesHigh := true, wire := [] }

/-- 9.6: the Gas Channel Unit after reset (R58, R76, R79). -/
def GasUnit.boot : GasUnit :=
  { channels := Vector.replicate 16 Channel.reset, nodeMethane := .normal, supplyMode := .mains }

/-- 9.6: the Trip Unit after reset, before the restart trip (R80, R87, R91, R98). -/
def TripUnit.boot : TripUnit :=
  { latch := false, causes := .empty, record := none, sup := { state := .off, period := none, count := 0 },
    ovr := { state := .none, set := 0#16, duration := none, window := 0, durCount := 0, lastEnd := none },
    supply := { mode := .mains, absentRun := 0, presentRun := 0, lowRun := 0, highRun := 0, enter := 560, leave := 600,
                lastMains := true, lastBattery := 0 } }

/-- R102: the Section Alarm Unit after every reset. -/
def AlarmUnit.boot : AlarmUnit :=
  { causes := { gasAlert := false, supervision := false, refugeCall := false, manualAlert := false, gasEvacuate := false },
    holders := ⟨false, false⟩, supLate := false, covered := 0#16, inputs := Vector.replicate 16 none, latch := false,
    level := .normal, sentInbye := .normal, sentOutbye := .normal, announce := 0, pulse := 0, modeTold := .mains,
    modeInUse := .mains, refuges := Vector.replicate 4 Refuge.reset }

/-- R121 to R123: the Call Table Unit after every reset. -/
def CallUnit.boot : CallUnit :=
  { entries := Vector.replicate 12 none, recency := [], budgetSet := 8, supplyMode := .mains, level := .normal }

/-- R144, R146, R156, R157: the Vehicle Unit after every reset. ORDER frames still waiting for the radio port are dropped
(log 5). -/
def VehicleUnit.boot : VehicleUnit :=
  { entries := Vector.replicate 16 none, tableFull := false, level := .normal, methane := .normal,
    radio := { inFrame := false, frameAge := 0, beacons := 0, discards := 0, lastReason := none, orders := [], lastSent := [] },
    cfg := { governs := false, outbyeGoverned := false, convoy := 2, transit := 2400, presence := 100 },
    dir := .free, members := [], waits := [] }

/-- R165: a port after every reset, before the restart trip posts TRIP: every maskable kind enabled, and the groups of
the table of 9.4 (the first six kinds HIGH, the rest LOW). -/
def PortState.boot : PortState :=
  { slot := none, slotRead := true, responseLost := false, noticeOverflow := false, queue := [], enabled := 0x7FFF#16,
    high := 0x003F#16, lastRead := [] }

/-- R84: the trip record of the restart trip. -/
def restartRecord : TripRecord :=
  { capture := { persisting := .empty, manual := false, restart := true }, channel := none, later := .empty }

/-- R84, R186: the TRIP notice of the restart trip: latch set and RESTART, nothing later, no channel, stamp 0. -/
def restartNotice : Notice :=
  { kind := .trip, stamp := { round := 0, tick := 0 }, data := [0xA0#8, 0x00#8, 0xFF#8, 0x00#8, 0x00#8, 0x00#8] }

/-- R84, R182: the TRIP_REPORT SET of the restart trip, from a node's own address: SET, stamp 0, RESTART, nothing later,
no channel, no persisting cause, MAINS. -/
def restartReport (address : Nat) : Cell :=
  { kind := 33, cls := .signal, src := address, dst := 0, hop := 0, stamp := 0,
    payload := [0x01#8, 0x00#8, 0x00#8, 0x00#8, 0x20#8, 0x00#8, 0xFF#8, 0x00#8, 0x00#8] }

/-- The machine right after a power-on reset of a junction strapped to address 1 (the strapping is a DESIGN CHOICE,
log 4): every block at its reset value (9.6) and the restart trip made (R84), its TRIP notice queued at both ports and its
TRIP_REPORT in the OUTBYE SIGNAL queue. Machine/Reset.lean makes the same state from the rules (test_reset_is_power_on). -/
def State.reset : State :=
  { tb := .boot .junction 1
    cs := { CellSwitch.boot with queues := ⟨⟨[restartReport 1], []⟩, ⟨[], []⟩⟩ }
    sbm := ⟨.boot, .boot⟩
    gcu := .boot
    tu := { TripUnit.boot with latch := true, record := some restartRecord }
    sau := .boot
    ctu := .boot
    vu := .boot
    pi := { ports := ⟨{ PortState.boot with queue := [restartNotice] }, { PortState.boot with queue := [restartNotice] }⟩,
            powerOn := true, external := false }
    pending := [] }

end Sys2Proof.Machine
end

