-- ==== Sys2Proof/Machine/Ops.lean ====
section
/-! DEFINITION. The named operations the blocks share: block updates, stamps (R18), notices (R172 to R174), line
indications (R36, R37), cell building, placing and delivery (R19, R23 to R25, R34), responses (R167, R170). -/

namespace Sys2Proof.Machine

/-! ## Block updates -/

def State.updTb (f : TimeBase → TimeBase) (s : State) : State := { s with tb := f s.tb }
def State.updCs (f : CellSwitch → CellSwitch) (s : State) : State := { s with cs := f s.cs }
def State.updGcu (f : GasUnit → GasUnit) (s : State) : State := { s with gcu := f s.gcu }
def State.updTu (f : TripUnit → TripUnit) (s : State) : State := { s with tu := f s.tu }
def State.updSau (f : AlarmUnit → AlarmUnit) (s : State) : State := { s with sau := f s.sau }
def State.updCtu (f : CallUnit → CallUnit) (s : State) : State := { s with ctu := f s.ctu }
def State.updVu (f : VehicleUnit → VehicleUnit) (s : State) : State := { s with vu := f s.vu }
def State.updPi (f : PortUnit → PortUnit) (s : State) : State := { s with pi := f s.pi }

/-- Update one Sensor Bus Master. -/
def State.updBus (b : Bus) (f : BusMaster → BusMaster) (s : State) : State :=
  { s with sbm := s.sbm.set b (f (s.sbm.get b)) }

/-- Update one port of the Port Interface. -/
def State.updPort (p : Port) (f : PortState → PortState) (s : State) : State :=
  s.updPi fun u => { u with ports := u.ports.set p (f (u.ports.get p)) }

/-- Update the status of one line. -/
def State.updStatus (l : Line) (f : LineStatus → LineStatus) (s : State) : State :=
  s.updCs fun c => { c with status := c.status.set l (f (c.status.get l)) }

/-- Update the outgoing queues of one line. -/
def State.updQueues (l : Line) (f : OutQueues → OutQueues) (s : State) : State :=
  s.updCs fun c => { c with queues := c.queues.set l (f (c.queues.get l)) }

/-- Replace one item of a table. -/
def vset {α : Type} {n : Nat} (v : Vector α n) (i : Fin n) (x : α) : Vector α n := v.set i.val x i.isLt

/-- Replace one channel record. -/
def State.setChannel (i : Fin 16) (c : Channel) (s : State) : State :=
  s.updGcu fun g => { g with channels := vset g.channels i c }

/-- One channel record. -/
def State.channel (s : State) (i : Fin 16) : Channel := s.gcu.channels.get i

/-- Replace one refuge record. -/
def State.setRefuge (i : Fin 4) (r : Refuge) (s : State) : State :=
  s.updSau fun a => { a with refuges := vset a.refuges i r }

/-- One refuge record. -/
def State.refuge (s : State) (i : Fin 4) : Refuge := s.sau.refuges.get i

/-- Replace one call entry. -/
def State.setCall (i : Fin 12) (e : Option Call) (s : State) : State :=
  s.updCtu fun c => { c with entries := vset c.entries i e }

/-- One call entry. -/
def State.call (s : State) (i : Fin 12) : Option Call := s.ctu.entries.get i

/-- Replace one vehicle entry. -/
def State.setVehicle (i : Fin 16) (e : Option Vehicle) (s : State) : State :=
  s.updVu fun v => { v with entries := vset v.entries i e }

/-- One vehicle entry. -/
def State.vehicle (s : State) (i : Fin 16) : Option Vehicle := s.vu.entries.get i

/-- The channels in ascending number. -/
def allChannels : List (Fin 16) := [0, 1, 2, 3, 4, 5, 6, 7, 8, 9, 10, 11, 12, 13, 14, 15]

/-- The refuges in ascending number. -/
def allRefuges : List (Fin 4) := [0, 1, 2, 3]

/-- The call entries in ascending index. -/
def allCalls : List (Fin 12) := [0, 1, 2, 3, 4, 5, 6, 7, 8, 9, 10, 11]

/-- The vehicle entries in ascending index. -/
def allVehicles : List (Fin 16) := allChannels

/-- Apply an action to each item in turn. -/
def forEach {α : Type} (xs : List α) (f : α → State → State) (s : State) : State := xs.foldl (fun t x => f x t) s

/-- Both lines, OUTBYE first (log 47). -/
def bothLines (f : Line → State → State) (s : State) : State := f .inbye (f .outbye s)

/-! ## Time (R1, R18) -/

/-- R18: the event stamp: the running count and tick in force. -/
def State.now (s : State) : Stamp := { round := s.tb.running, tick := s.tb.tick }

/-- R144: a frame is discarded: it is counted, its reason kept, and the receiver returns to HUNT. -/
def Radio.discard (reason : DiscardReason) (r : Radio) : Radio :=
  { r with inFrame := false, frameAge := 0, discards := satSucc 65535 r.discards, lastReason := some reason }

/-- R144: `n` ticks pass at the radio port; a frame in progress that has had its 64 ticks is discarded with TIMEOUT. -/
def Radio.ticks (n : Nat) (r : Radio) : Radio :=
  if r.inFrame then
    if Config.radioTimeoutTicks ≤ r.frameAge + n then r.discard .timeout else { r with frameAge := r.frameAge + n }
  else r

/-- R1: `n` ticks pass: the tick count stops at 255; the ages reckoned in ticks advance (R2, R9, R11, R144). -/
def advanceTicks (n : Nat) (s : State) : State :=
  (s.updTb fun t => { t with
      tick := min 255 (t.tick + n), phaseAge := t.phaseAge + n,
      candidate := t.candidate.map fun c => { c with age := c.age + n },
      rejoin := { t.rejoin with age := t.rejoin.age + n } }).updVu fun v => { v with radio := v.radio.ticks n }

/-- Whether the node is a head. -/
def State.isHead (s : State) : Bool := s.tb.role = .head

/-- R4: SETUP and HALTED, in which nothing is sent and only cells for this node are consumed. -/
def State.quiet (s : State) : Bool := s.tb.trunk = .setup || s.tb.trunk = .halted

/-! ## Notices (R172 to R174) -/

/-- R173: whether an arriving notice updates a queued one. -/
def coalesces (n q : Notice) : Bool :=
  match n.kind with
  | .trip | .evacuate | .supervisionLate | .deliveryWaiting => q.kind = n.kind
  | .lineEvent => q.kind = .lineEvent && q.data.head? = n.data.head?
  | _ => false

/-- Replace the first item that meets a test. -/
def replaceFirst {α : Type} (p : α → Bool) (x : α) : List α → List α
  | [] => []
  | y :: ys => if p y then x :: ys else y :: replaceFirst p x ys

/-- Remove the last (newest) item that meets a test. -/
def removeLast {α : Type} (p : α → Bool) (xs : List α) : List α := (xs.reverse.eraseP p).reverse

/-- R176: whether a bitmap of maskable kinds holds a kind. -/
def holdsKind (m : BitVec 16) (k : NoticeKind) : Bool :=
  match k.maskIndex with
  | some i => m.getLsbD i
  | none => false

/-- R174: whether a queued notice is in group LOW at the port. -/
def lowNotice (ps : PortState) (q : Notice) : Bool := q.kind.maskable && !holdsKind ps.high q.kind

/-- R172: how many maskable notices a queue holds. -/
def maskableCount (q : List Notice) : Nat := (q.filter fun n => n.kind.maskable).length

/-- R172 to R174: a notice arrives at a port. -/
def PortState.post (n : Notice) (ps : PortState) : PortState :=
  if n.kind.maskable && !holdsKind ps.enabled n.kind then ps
  else if ps.queue.any (coalesces n) then { ps with queue := replaceFirst (coalesces n) n ps.queue }
  else if !n.kind.maskable || maskableCount ps.queue < Config.maskableCapacity then { ps with queue := ps.queue ++ [n] }
  else if holdsKind ps.high n.kind && ps.queue.any (lowNotice ps) then
    { ps with queue := removeLast (lowNotice ps) ps.queue ++ [n], noticeOverflow := true }
  else { ps with noticeOverflow := true }

/-- Post a notice to one port, with the stamp in force (R18). -/
def post (p : Port) (k : NoticeKind) (data : Bytes) (s : State) : State :=
  s.updPort p (PortState.post { kind := k, stamp := s.now, data := noticeData data })

/-- Post a notice to both ports. -/
def postBoth (k : NoticeKind) (data : Bytes) (s : State) : State := post .cp k data (post .sp k data s)

/-! ## Line indications (2.9) -/

/-- Whether an indication is latched. -/
def LineStatus.latched (st : LineStatus) : Indication → Bool
  | .carrierLost => st.carrierLost
  | .crcErrors => st.crcErrors
  | .signalLost => st.signalLost
  | .dataDropped => st.dataDropped
  | .holdReceived => st.holdReceived
  | .deliveryOverflow => st.deliveryOverflow

/-- Latch an indication. -/
def LineStatus.setInd (st : LineStatus) : Indication → LineStatus
  | .carrierLost => { st with carrierLost := true }
  | .crcErrors => { st with crcErrors := true }
  | .signalLost => { st with signalLost := true }
  | .dataDropped => { st with dataDropped := true }
  | .holdReceived => { st with holdReceived := true }
  | .deliveryOverflow => { st with deliveryOverflow := true }

/-- The latched indications as a bitmap, in the order of the table of 2.9. -/
def LineStatus.indBitmap (st : LineStatus) : Nat :=
  bitmap [st.carrierLost, st.crcErrors, st.signalLost, st.dataDropped, st.holdReceived, st.deliveryOverflow]

/-- R37: post LINE_EVENT: the line, LINE_UP and the latched indications held at that instant. -/
def postLineEvent (l : Line) (s : State) : State :=
  let st := s.cs.status.get l
  postBoth .lineEvent (u8 l.code ++ uFlag st.lineUp ++ u8 st.indBitmap) s

/-- R36, R37: an indication is set; LINE_EVENT is posted when it passes from clear to set. -/
def latchInd (l : Line) (i : Indication) (s : State) : State :=
  if (s.cs.status.get l).latched i then s else postLineEvent l (s.updStatus l fun st => st.setInd i)

/-- R28: one more filtered cell, stopping at 255. -/
def addFiltered (l : Line) (s : State) : State :=
  s.updStatus l fun st => { st with filtered := satSucc 255 st.filtered }

/-! ## Cells built at this node (R19, R23 to R25, R34) -/

/-- R19: the CS completes the header. -/
def buildCell (kind dst : Nat) (payload : Bytes) (s : State) : Cell :=
  { kind := kind
    cls := match kindInfo kind with
      | some (cls, _, _) => cls
      | none => .alarm
    src := s.tb.address, dst := dst, hop := 0, stamp := s.tb.running % 256, payload := payload }

/-- R24: whether a queued cell is a READING_REPORT of the same source and channel. -/
def coalescesReport (c q : Cell) : Bool :=
  c.kind == kReadingReport && q.kind == kReadingReport && q.src == c.src && byteAt q.payload 0 == byteAt c.payload 0

/-- R24: a cell joins the queue of its class on a line, replaces a queued report, or is dropped. ALARM and CALL cells
enter no queue (R23). -/
def joinQueue (l : Line) (c : Cell) (s : State) : State :=
  let q := s.cs.queues.get l
  match c.classOf with
  | .signal =>
    if q.signal.length < Config.signalCapacity then s.updQueues l fun q => { q with signal := q.signal ++ [c] }
    else latchInd l .signalLost s
  | .data =>
    if q.data.any (coalescesReport c) then s.updQueues l fun q => { q with data := replaceFirst (coalescesReport c) c q.data }
    else if q.data.length < Config.dataCapacity then s.updQueues l fun q => { q with data := q.data ++ [c] }
    else latchInd l .dataDropped s
  | _ => s

/-- R25: whether a DATA cell is refused while the supply mode is RESERVE. -/
def reserveRefuses (c : Cell) (s : State) : Bool :=
  s.cs.supplyMode = .reserve && c.classOf = .data && !reserveReport c

/-- R25: a cell built at this node arrives at its queue: refused at the source, with nothing latched, or taken. -/
def joinLocal (l : Line) (c : Cell) (s : State) : State := if reserveRefuses c s then s else joinQueue l c s

/-- R21: a cell built by an action of a round start is staged until the positions of the round are filled; otherwise it
joins its queue. -/
def placeCell (l : Line) (c : Cell) (s : State) : State :=
  match s.cs.staging with
  | some cells => s.updCs fun x => { x with staging := some (cells ++ [(l, c)]) }
  | none => joinLocal l c s

/-- R20, R34: whether a kind goes to the Safety delivery queue (the other delivered kinds go to the General queue). -/
def safetyKind (k : Nat) : Bool :=
  k == kLevelChange || k == kTripReport || k == kOverrideAsk || k == kSupervisionLate || k == kReadingReport

/-- R34: latch an indication on the line of arrival, or on both lines for a cell built at this node (R23): OUTBYE's LINE_EVENT is
posted first (log 47). -/
def latchArrival (from? : Option Line) (i : Indication) (s : State) : State :=
  match from? with
  | some l => latchInd l i s
  | none => bothLines (fun l => latchInd l i) s

/-- The delivery queue of a cell. -/
def deliveryQueue (safety : Bool) (s : State) : List Cell := if safety then s.cs.safetyQ else s.cs.generalQ

/-- Replace a delivery queue. -/
def setDeliveryQueue (safety : Bool) (q : List Cell) (s : State) : State :=
  s.updCs fun c => if safety then { c with safetyQ := q } else { c with generalQ := q }

/-- R34: a cell is delivered to its delivery queue. -/
def deliver (from? : Option Line) (c : Cell) (s : State) : State :=
  let safety := safetyKind c.kind
  let q := deliveryQueue safety s
  if q.length < Config.deliveryCapacity then
    let s1 := setDeliveryQueue safety (q ++ [c]) s
    if q.isEmpty then post (if safety then .sp else .cp) .deliveryWaiting [] s1 else s1
  else
    match c.classOf with
    | .data => latchArrival from? .deliveryOverflow s
    | _ =>
      if q.any (fun d => d.classOf = .data) then
        latchArrival from? .deliveryOverflow (setDeliveryQueue safety (q.eraseP (fun d => d.classOf = .data) ++ [c]) s)
      else latchArrival from? .signalLost s

/-- R23: whether a destination is this node: its own address or, at a head whatever its straps, node 0 (log 44). The
address 63 names the adjacent node at every node, one strapped to 63 among them. -/
def ownDest (dst : Nat) (s : State) : Bool := dst != 63 && (dst = s.tb.address || (s.isHead && dst = 0))

/-- R23: the line a destination other than this node lies on. -/
def onwardLine (dst : Nat) (s : State) : Line :=
  if s.isHead then .inbye else if dst < s.tb.address then .outbye else .inbye

/-- R23, R25: a block builds a cell for a node address. A DATA cell refused at the source is neither queued nor
delivered. -/
def sendTo (kind dst : Nat) (payload : Bytes) (s : State) : State :=
  let c := buildCell kind dst payload s
  if ownDest dst s then (if reserveRefuses c s then s else deliver none c s)
  else placeCell (onwardLine dst s) c s

/-- R23: a block builds a cell for the adjacent node across a line; at the head the line is INBYE. -/
def sendAdjacent (l : Line) (kind : Nat) (payload : Bytes) (s : State) : State :=
  placeCell (if s.isHead then .inbye else l) (buildCell kind 63 payload s) s

/-! ## Responses (R166, R167, R170, R184) -/

/-- What an owning block answers: status and data. -/
structure Answer where
  status : Nat
  data : Bytes
deriving DecidableEq, Repr

/-- R184: DONE. -/
def done (data : Bytes) : Answer := { status := 0, data := data }

/-- R184: ACCEPTED. -/
def accepted (data : Bytes) : Answer := { status := 1, data := data }

/-- R184: REFUSED, the cause first and any data the refusal carries after it. -/
def refusedWith (c : RefusalCause) (data : Bytes) : Answer := { status := 2, data := u8 c.code ++ data }

/-- R184: REFUSED with the cause alone. -/
def refused (c : RefusalCause) : Answer := refusedWith c []

/-- R184: a response as bytes. -/
def responseBytes (r : Response) : Bytes :=
  let body := r.tag :: u8 r.status ++ u8 r.data.length ++ r.data
  body ++ [checkByte body]

/-- R184: what a read of an empty slot returns. -/
def emptySlotBytes : Bytes := [0x00#8, 0xFF#8, 0x00#8, 0x01#8]

/-- R170: the COMMAND_REPLY payload: tag, status, data length before the cut, the first 20 data bytes, check. -/
def replyPayload (tag : Byte) (a : Answer) : Bytes :=
  let body := tag :: u8 a.status ++ u8 a.data.length ++ a.data.take 20
  body ++ [checkByte body]

/-- R167, R170: the response to a command: into the port's slot, or in a COMMAND_REPLY cell for node 0. -/
def respond (src : Source) (tag : Byte) (a : Answer) (s : State) : State :=
  match src.port? with
  | some p => s.updPort p fun ps => { ps with
      responseLost := ps.responseLost || !ps.slotRead
      slot := some { tag := tag, status := a.status, data := a.data }, slotRead := false }
  | none => sendTo kCommandReply 0 (replyPayload tag a) s

/-- R166: a record whose parameters are at most 32 bytes, from a source, is refused without its right, and is otherwise
executed; the answer is responded. -/
def command (src : Source) (tag : Byte) (params : Bytes) (right : Bool) (body : State → State × Answer) (s : State) : State :=
  if 32 < params.length then respond src tag (refused .badFrame) s
  else if !right then respond src tag (refused .denied) s
  else respond src tag (body s).2 (body s).1

/-- R185: one page of a read: 40 bytes for a port, 20 for the surface. -/
def pageOf (src : Source) (page : Nat) (content : Bytes) : Bytes :=
  let size := match src with
    | .surface => 20
    | _ => 40
  (content.drop (page * size)).take size

end Sys2Proof.Machine
end

