-- ==== Sys2Proof/Machine/Calls.lean ====
section
/-! DEFINITION. The Call Table Unit's shared operations (Chapter 7): reservations and budget (R122, R123), admission (R125),
clearing (R132, R133), the signalling cells (R127 to R131), timers (R135), voice carriage (R136 to R138), and the hand-overs
(R140, R142, R143). -/

namespace Sys2Proof.Machine

/-! ## Lines, counts, budget (R121 to R123) -/

/-- R121: the side of an entry that lies on a line. -/
def Call.sideOn (e : Call) (l : Line) : Option CallSide :=
  match e.up with
  | some u => if u.line = l then some u else
    match e.far with
    | some f => if f.line = l then some f else none
    | none => none
  | none =>
    match e.far with
    | some f => if f.line = l then some f else none
    | none => none

/-- R121: whether an entry uses a line. -/
def Call.uses (e : Call) (l : Line) : Bool := (e.sideOn l).isSome

/-- Whether entry `i` is not FREE and uses a line. -/
def entryUses (s : State) (l : Line) (i : Fin 12) : Bool :=
  match s.call i with
  | some e => e.uses l
  | none => false

/-- R122: the reservation count of a line. -/
def reservations (s : State) (l : Line) : Nat := (allCalls.filter (entryUses s l)).length

/-- R123: the budget in force. -/
def budgetInForce (s : State) : Nat :=
  match s.ctu.supplyMode with
  | .mains => s.ctu.budgetSet
  | .battery => min s.ctu.budgetSet 4
  | .reserve => min s.ctu.budgetSet 2

/-- R122: an entry joins, or moves to, the newest end of the recency list. -/
def touchRecency (i : Fin 12) (s : State) : State :=
  s.updCtu fun c => { c with recency := c.recency.filter (fun j => j != i) ++ [i] }

/-- R122, R132: an entry is freed. -/
def freeCall (i : Fin 12) (s : State) : State :=
  (s.setCall i none).updCtu fun c => { c with recency := c.recency.filter fun j => j != i }

/-- Update an entry that is not FREE. -/
def modCall (i : Fin 12) (f : Call → Call) (s : State) : State :=
  match s.call i with
  | some e => s.setCall i (some (f e))
  | none => s

/-! ## Notices (R141) -/

/-- R141: CALL_STATE to the CP for an endpoint entry: index, reference, role, new state, state before (the rest is beyond
the sixth byte). State codes: FREE 0 first. -/
def postCallState (i : Fin 12) (e : Call) (new before : Nat) (s : State) : State :=
  match e.role with
  | .transit => s
  | _ => post .cp .callState (u8 i.val ++ u8 e.origin ++ u8 e.originIdx ++ u8 e.role.code ++ u8 new ++ u8 before) s

/-- R141: CALL_INCOMING to the CP. -/
def postCallIncoming (i : Fin 12) (e : Call) (s : State) : State :=
  post .cp .callIncoming
    (u8 i.val ++ u8 e.origin ++ u8 e.originIdx ++ u8 e.priority.code ++ u16 e.caller ++ u16 (e.callee.getD 0)) s

/-! ## Clearing (R132, R133) -/

/-- R132: the CALL_CLEAR of an entry on one line. -/
def sendClear (e : Call) (cause : CallCause) (addr : Nat) (l : Line) (s : State) : State :=
  if e.uses l then sendAdjacent l kCallClear (u8 e.origin ++ u8 e.originIdx ++ u8 cause.code ++ u8 addr) s else s

/-- R132, R133: an entry is cleared: CALL_CLEAR on each line it uses but the one excepted, CALL_STATE for an endpoint,
the entry freed. -/
def clearCall (i : Fin 12) (cause : CallCause) (addr : Nat) (except? : Option Line) (s : State) : State :=
  match s.call i with
  | some e =>
    let s1 := bothLines (fun l t => if except? = some l then t else sendClear e cause addr l t) s
    freeCall i (postCallState i e 0 e.state.code s1)
  | none => s

/-- R132: an entry is cleared for a cause of this node's own. -/
def clearOwn (i : Fin 12) (cause : CallCause) (s : State) : State := clearCall i cause s.tb.address none s

/-- R143: every entry freed at TRUNK_HALT: CALL_STATE for endpoints, no CALL_CLEAR. -/
def haltCall (i : Fin 12) (s : State) : State :=
  match s.call i with
  | some e => freeCall i (postCallState i e 0 e.state.code s)
  | none => s

/-! ## Choosing by priority and recency (R125, R142) -/

/-- The priority code of an entry; above every priority for a FREE one. -/
def callPriority (s : State) (i : Fin 12) : Nat :=
  match s.call i with
  | some e => e.priority.code
  | none => 3

/-- R125, R142: among candidates listed newest first, the newest of those of the lowest priority. -/
def newestLowest (s : State) (newestFirst : List (Fin 12)) : Option (Fin 12) :=
  let low := newestFirst.foldl (fun m i => min m (callPriority s i)) 3
  newestFirst.find? fun i => callPriority s i == low

/-- The entries that use a line and are not among the chosen, newest first. -/
def candidatesOn (s : State) (l : Line) (chosen : List (Fin 12)) : List (Fin 12) :=
  s.ctu.recency.reverse.filter fun i => entryUses s l i && !chosen.contains i

/-- R125 step 1: the victims after one more line is looked at; none if the test fails with NO_CELLS. -/
def victimOn (s : State) (p : Priority) (l : Line) (chosen : List (Fin 12)) : Option (List (Fin 12)) :=
  if (allCalls.filter fun i => entryUses s l i && !chosen.contains i).length < budgetInForce s then some chosen
  else match newestLowest s (candidatesOn s l chosen) with
    | some i => if callPriority s i < p.code then some (chosen ++ [i]) else none
    | none => none

/-- R125 step 1 over a set of lines, OUTBYE before INBYE. -/
def victims (s : State) (p : Priority) (out inb : Bool) : Option (List (Fin 12)) :=
  let v1 := if out then victimOn s p .outbye [] else some []
  match v1 with
  | some c => if inb then victimOn s p .inbye c else some c
  | none => none

/-- The lowest-numbered FREE entry. -/
def freeEntry (s : State) : Option (Fin 12) := allCalls.find? fun i => (s.call i).isNone

/-- R125: the admission test: NO_CELLS, NO_ENTRY, or the state with the victims cleared and the entry to take. -/
def admitCall (p : Priority) (out inb : Bool) (s : State) : RefusalCause ⊕ (State × Fin 12) :=
  match victims s p out inb with
  | none => .inl .noCells
  | some [] =>
    match freeEntry s with
    | some i => .inr (s, i)
    | none => .inl .noEntry
  | some vs =>
    let s1 := forEach vs (fun i t => clearOwn i .preempted t) s
    match freeEntry s1 with
    | some i => .inr (s1, i)
    | none => .inl .noEntry

/-- R121: an entry as it is made. -/
def newCall (state : CallState) (role : CallRole) (origin originIdx : Nat) (p : Priority) (up far : Option CallSide)
    (farAddr caller : Nat) (callee : Option Nat) : Call :=
  { state := state, role := role, origin := origin, originIdx := originIdx, priority := p, up := up, far := far,
    farAddr := farAddr, caller := caller, callee := callee, timer := 0, silence := ⟨0, 0⟩, connected := none,
    underrun := 0, overrun := 0, tx := none, rx := none, relay := ⟨none, none⟩ }

/-- R122: a new entry takes its place, at the newest end of the recency list. -/
def makeCall (i : Fin 12) (e : Call) (s : State) : State := touchRecency i (s.setCall i (some e))

/-- R128: the CALL_SETUP cell of an entry. -/
def setupPayload (origin originIdx sender dest : Nat) (p : Priority) (caller : Nat) (callee : Option Nat) : Bytes :=
  u8 origin ++ u8 originIdx ++ u8 sender ++ u8 dest ++ u8 p.code ++ u16 caller ++ u16 (callee.getD 0)

/-- The neighbour address of a line, from its neighbour report (log 8). -/
def neighbourOf (s : State) (l : Line) : Option Nat := (s.cs.status.get l).neighbour

/-! ## Received signalling (R127 to R131, R133, R183) -/

/-- R183: whether a reference is in range. -/
def refOk (payload : Bytes) : Bool := byteAt payload 0 ≤ 62 && byteAt payload 1 ≤ 11

/-- R121: the entry that holds a reference. There is at most one, since both ways to make an entry clear an older one first. -/
def findRef (origin idx : Nat) (s : State) : Option (Fin 12) :=
  allCalls.find? fun i => match s.call i with
    | some e => e.origin == origin && e.originIdx == idx
    | none => false

/-- R127: whether a side lies on a line and names a neighbour. -/
def sideMatches (side : Option CallSide) (l : Line) (src : Nat) : Bool :=
  match side with
  | some x => x.line = l && x.addr = some src
  | none => false

/-- R127: the entry matched by a cell that comes from the far side. -/
def matchFar (l : Line) (src : Nat) (payload : Bytes) (s : State) : Option (Fin 12) :=
  match findRef (byteAt payload 0) (byteAt payload 1) s with
  | some i => match s.call i with
    | some e => if sideMatches e.far l src then some i else none
    | none => none
  | none => none

/-- R127: the entry matched by a CALL_CLEAR, on either side. -/
def matchAny (l : Line) (src : Nat) (payload : Bytes) (s : State) : Option (Fin 12) :=
  match findRef (byteAt payload 0) (byteAt payload 1) s with
  | some i => match s.call i with
    | some e => if sideMatches e.up l src || sideMatches e.far l src then some i else none
    | none => none
  | none => none

/-- R127: an unmatched CALL_ALERTING or CALL_CONNECT is answered with a CALL_CLEAR of cause STALE. -/
def answerStale (l : Line) (payload : Bytes) (s : State) : State :=
  sendAdjacent l kCallClear
    (u8 (byteAt payload 0) ++ u8 (byteAt payload 1) ++ u8 CallCause.stale.code ++ u8 s.tb.address) s

/-- The call cause of an admission refusal. -/
def admissionCause : RefusalCause → CallCause
  | .noEntry => .noEntry
  | _ => .noCells

/-- R128: a setup is refused on its line of arrival. -/
def refuseSetup (l : Line) (payload : Bytes) (cause : CallCause) (s : State) : State :=
  sendAdjacent l kCallRefused
    (u8 (byteAt payload 0) ++ u8 (byteAt payload 1) ++ u8 cause.code ++ u8 s.tb.address) s

/-- R121, R128 step 1: the entry that already holds a reference is cleared with cause STALE before another is made under it. -/
def clearRef (origin idx : Nat) (s : State) : State :=
  match findRef origin idx s with
  | some i => clearOwn i .stale s
  | none => s

/-- R128 steps 2 to 4: the setup, once no entry holds its reference. A callee handset above 999, for which R183 lists no
treatment, is kept and passed on as it came (log 45). -/
def handleSetup (l : Line) (src : Nat) (payload : Bytes) (p : Priority) (s : State) : State :=
  let dest := byteAt payload 3
  let isDest := dest == s.tb.address
  let onward := onwardLine dest s
  let caller := wordAt payload 5
  let callee := if wordAt payload 7 = 0 then none else some (wordAt payload 7)
  if s.tb.trunk = .listen || s.tb.trunk = .join || 62 < dest || (!isDest && onward = l) then refuseSetup l payload .noRoute s
  else if p = .routine && s.ctu.level = .evacuate then refuseSetup l payload .evacuation s
  else if s.ctu.supplyMode = .reserve && p != .emergency then refuseSetup l payload .supply s
  else
    let up := some { line := l, addr := some src, index := some (byteAt payload 2) : CallSide }
    match admitCall p (l = .outbye || (!isDest && onward = .outbye)) (l = .inbye || (!isDest && onward = .inbye)) s with
    | .inl c => refuseSetup l payload (admissionCause c) s
    | .inr (s1, i) =>
      if isDest then
        let e := newCall .ringing .destination (byteAt payload 0) (byteAt payload 1) p up none (byteAt payload 0) caller callee
        let s2 := postCallIncoming i e (makeCall i e s1)
        sendAdjacent l kCallAlerting (u8 e.origin ++ u8 e.originIdx ++ u8 i.val) s2
      else
        let e := newCall .requested .transit (byteAt payload 0) (byteAt payload 1) p up
          (some { line := onward, addr := neighbourOf s1 onward, index := none }) dest caller callee
        sendAdjacent onward kCallSetup (setupPayload e.origin e.originIdx i.val dest p caller callee) (makeCall i e s1)

/-- R128, R183: a CALL_SETUP received on a line. In SETUP and HALTED the CTU discards it (7.4). -/
def callSetup (l : Line) (src : Nat) (payload : Bytes) (s : State) : State :=
  if s.quiet || !refOk payload || 11 < byteAt payload 2 || wordAt payload 5 = 0 || 999 < wordAt payload 5 then s
  else match priorityOf (byteAt payload 4) with
    | some p => handleSetup l src payload p (clearRef (byteAt payload 0) (byteAt payload 1) s)
    | none => s

/-- Record the far-side neighbour index of an entry. -/
def setFarIndex (i : Fin 12) (idx : Nat) (s : State) : State :=
  modCall i (fun e => { e with far := e.far.map fun f => { f with index := some idx } }) s

/-- The upstream line of an entry, if it has one. -/
def upLine (s : State) (i : Fin 12) : Option Line :=
  match s.call i with
  | some e => e.up.map CallSide.line
  | none => none

/-- Build a reference-and-own-index cell for an entry's upstream line. -/
def sendUpstream (kind : Nat) (i : Fin 12) (s : State) : State :=
  match s.call i, upLine s i with
  | some e, some l => sendAdjacent l kind (u8 e.origin ++ u8 e.originIdx ++ u8 i.val) s
  | _, _ => s

/-- R129: a CALL_ALERTING received on a line. -/
def callAlerting (l : Line) (src : Nat) (payload : Bytes) (s : State) : State :=
  if s.quiet || !refOk payload || 11 < byteAt payload 2 then s
  else match matchFar l src payload s with
    | none => answerStale l payload s
    | some i =>
      let s1 := setFarIndex i (byteAt payload 2) s
      match s1.call i with
      | some e =>
        if e.state = .requested then
          let s2 := modCall i (fun e => { e with state := .ringing, timer := 0 }) s1
          match e.role with
          | .transit => sendUpstream kCallAlerting i s2
          | _ => postCallState i e CallState.ringing.code CallState.requested.code s2
        else s1
      | none => s1

/-- R131: an entry enters CONNECTED. -/
def connectCall (i : Fin 12) (s : State) : State :=
  touchRecency i (modCall i (fun e => { e with
    state := .connected, timer := 0, silence := ⟨0, 0⟩, connected := some s.now }) s)

/-- R131: a CALL_CONNECT received on a line. -/
def callConnect (l : Line) (src : Nat) (payload : Bytes) (s : State) : State :=
  if s.quiet || !refOk payload || 11 < byteAt payload 2 then s
  else match matchFar l src payload s with
    | none => answerStale l payload s
    | some i =>
      let s1 := setFarIndex i (byteAt payload 2) s
      match s1.call i with
      | some e =>
        if e.state = .connected then s1
        else
          let s2 := connectCall i s1
          match e.role with
          | .transit => sendUpstream kCallConnect i s2
          | _ => postCallState i e CallState.connected.code e.state.code s2
      | none => s1

/-- R133: a CALL_REFUSED received on a line. -/
def callRefused (l : Line) (src : Nat) (payload : Bytes) (s : State) : State :=
  if s.quiet || !refOk payload then s
  else match matchFar l src payload s with
    | none => s
    | some i =>
      match s.call i with
      | some e =>
        match e.role, e.up.map CallSide.line with
        | .transit, some u => freeCall i (sendAdjacent u kCallRefused (payload.take 4) s)
        | _, _ => clearCall i (callCauseOf (byteAt payload 2)) (byteAt payload 3) (some l) s
      | none => s

/-- R133: a CALL_CLEAR received on a line. -/
def callCleared (l : Line) (src : Nat) (payload : Bytes) (s : State) : State :=
  if s.quiet || !refOk payload then s
  else match matchAny l src payload s with
    | none => s
    | some i => clearCall i (callCauseOf (byteAt payload 2)) (byteAt payload 3) (some l) s

/-! ## Timers (R135) -/

/-- R135: the limit of the state timer, and the cause, by role and state. -/
def timerLimit (e : Call) : Option (Nat × CallCause) :=
  match e.role, e.state with
  | .origin, .requested => some (200, .noRoute)
  | .transit, .requested => some (220, .noRoute)
  | .destination, .ringing => some (600, .noAnswer)
  | .origin, .ringing => some (640, .noAnswer)
  | .transit, .ringing => some (640, .noAnswer)
  | _, _ => none

/-- R135: whether an entry's state timer reaches its limit at the next round start. -/
def stateTimeoutDue (s : State) (i : Fin 12) : Option CallCause :=
  match s.call i with
  | some e => match timerLimit e with
    | some (n, c) => if n ≤ e.timer + 1 then some c else none
    | none => none
  | none => none

/-- R135: a round start's work on the state timer of an entry in REQUESTED or RINGING. -/
def stateTimerTick (i : Fin 12) (s : State) : State :=
  match stateTimeoutDue s i with
  | some c => clearOwn i c s
  | none => modCall i (fun e => if e.state = .connected then e else { e with timer := e.timer + 1 }) s

/-- R135: whether a silence count of a CONNECTED entry reaches 40 at the next round start. -/
def lossDue (s : State) (i : Fin 12) : Bool :=
  match s.call i with
  | some e => e.state = .connected
      && ((e.uses .outbye && Config.callSilenceLimit ≤ e.silence.outbye + 1)
        || (e.uses .inbye && Config.callSilenceLimit ≤ e.silence.inbye + 1))
  | none => false

/-- R135: a round start's work on the silence counts of a CONNECTED entry. -/
def silenceTick (i : Fin 12) (s : State) : State :=
  if lossDue s i then clearOwn i .lineLost s
  else modCall i (fun e =>
    if e.state = .connected then { e with silence :=
      { outbye := if e.uses .outbye then e.silence.outbye + 1 else e.silence.outbye
        inbye := if e.uses .inbye then e.silence.inbye + 1 else e.silence.inbye } }
    else e) s

/-- R135: the timers of every entry at a round start, in ascending index. -/
def ctuRound (s : State) : State := forEach allCalls (fun i t => silenceTick i (stateTimerTick i t)) s

/-! ## Voice carriage (R136 to R138) -/

/-- R121: whether an entry is an endpoint. -/
def Call.endpoint (e : Call) : Bool := e.role != .transit

/-- R136: the CALL cell an entry supplies for a line, and the entry after it. With the neighbour index absent it sends
SILENCE with destination field 63 and its buffer stays (log 20). -/
def callCellFor (e : Call) (l : Line) (addr stamp : Nat) : Option (Cell × Call) :=
  match e.sideOn l with
  | none => none
  | some side =>
    let cell (kind dst : Nat) (p : Bytes) : Cell :=
      { kind := kind, cls := .call, src := addr, dst := dst, hop := 0, stamp := stamp, payload := p }
    match side.index with
    | none => some (cell kSilence 63 [], e)
    | some idx =>
      if e.endpoint then
        match e.tx with
        | some p => some (cell kVoice idx p, { e with tx := none })
        | none => some (cell kSilence idx [], { e with underrun := satSucc 65535 e.underrun })
      else
        match e.relay.get l with
        | some (.voice p) => some (cell kVoice idx p, { e with relay := e.relay.set l none })
        | some .silence => some (cell kSilence idx [], { e with relay := e.relay.set l none })
        | none => some (cell kSilence idx [], { e with underrun := satSucc 65535 e.underrun })

/-- R21, R136: the CALL cells of a line, in ascending entry index, with the entries after them. -/
def callCells (l : Line) : List (Fin 12) → State → List Cell × State
  | [], s => ([], s)
  | i :: is, s =>
    match s.call i with
    | some e =>
      if e.state = .connected then
        match callCellFor e l s.tb.address (s.tb.running % 256) with
        | some (c, e') =>
          let r := callCells l is (s.setCall i (some e'))
          (c :: r.1, r.2)
        | none => callCells l is s
      else callCells l is s
    | none => callCells l is s

/-- R137, R138: a matched CALL cell at its entry: VOICE with its payload, or SILENCE. -/
def takeCallCell (e : Call) (l : Line) (voice : Option Bytes) : Call :=
  let e1 := { e with silence := e.silence.set l 0 }
  if e1.endpoint then
    match voice with
    | some p => { e1 with rx := some p, overrun := if e1.rx.isSome then satSucc 65535 e1.overrun else e1.overrun }
    | none => e1
  else
    let r := match voice with
      | some p => RelayCell.voice p
      | none => .silence
    { e1 with
      relay := e1.relay.set l.other (some r)
      overrun := if (e1.relay.get l.other).isSome then satSucc 65535 e1.overrun else e1.overrun }

/-- R137: a CALL cell received on a line is matched by entry index; a cell that does not match is discarded. -/
def callCell (l : Line) (src index : Nat) (voice : Option Bytes) (s : State) : State :=
  if s.quiet then s
  else if h : index < 12 then
    match s.call ⟨index, h⟩ with
    | some e =>
      if e.state = .connected && (sideMatches e.up l src || sideMatches e.far l src) then
        s.setCall ⟨index, h⟩ (some (takeCallCell e l voice))
      else s
    | none => s
  else s

/-! ## Hand-overs (R140, R142, R143) -/

/-- R142, R124: entries are cleared on a line until its reservation count is within the budget; `n` bounds the clears. -/
def shedLine (cause : CallCause) (l : Line) : Nat → State → State
  | 0, s => s
  | n + 1, s =>
    if reservations s l ≤ budgetInForce s then s
    else match newestLowest s (candidatesOn s l []) with
      | some i => shedLine cause l n (clearOwn i cause s)
      | none => s

/-- R142, R124: both lines are brought within the budget, OUTBYE first. -/
def shed (cause : CallCause) (s : State) : State := shedLine cause .inbye 12 (shedLine cause .outbye 12 s)

/-- R142: the Supply Monitor hands the CTU a supply mode. -/
def ctuSupplyMode (m : SupplyMode) (s : State) : State := shed .supply (s.updCtu fun c => { c with supplyMode := m })

/-- R140: the Section Alarm Unit hands the CTU a section level; a rise to EVACUATE clears every ROUTINE entry. -/
def ctuSectionLevel (l : SectionLevel) (s : State) : State :=
  let before := s.ctu.level
  let s1 := s.updCtu fun c => { c with level := l }
  if before != .evacuate && l = .evacuate then
    forEach allCalls (fun i t => match t.call i with
      | some e => if e.priority = .routine then clearOwn i .evacuation t else t
      | none => t) s1
  else s1

/-- R143: every entry cleared with LINE_LOST, in ascending index, at entry to LISTEN, JOIN or ISLAND_LEAD. -/
def ctuTrunkLost (s : State) : State := forEach allCalls (fun i t => clearOwn i .lineLost t) s

/-- R143: every entry freed at TRUNK_HALT. -/
def ctuHalt (s : State) : State := forEach allCalls haltCall s

end Sys2Proof.Machine
end

