-- ==== Sys2Proof/Machine/Trip.lean ====
section
/-! DEFINITION. The Trip Unit's shared operations (Chapter 5): the vote and the persisting cause set (R80), the latch and the
trip record (R81, R82), their reports (R83, R86), and the Supply Monitor's runs (R98, R99). -/

namespace Sys2Proof.Machine

/-! ## Cause sets (R80, R82) -/

/-- Whether a persisting cause set is not empty. -/
def CauseSet.any (c : CauseSet) : Bool := c.gas || c.fault || c.supervision || c.supply

/-- The causes of a set that another does not hold. -/
def CauseSet.minus (a b : CauseSet) : CauseSet :=
  { gas := a.gas && !b.gas, fault := a.fault && !b.fault, supervision := a.supervision && !b.supervision,
    supply := a.supply && !b.supply }

/-- The causes of either set. -/
def CauseSet.union (a b : CauseSet) : CauseSet :=
  { gas := a.gas || b.gas, fault := a.fault || b.fault, supervision := a.supervision || b.supervision,
    supply := a.supply || b.supply }

/-- R180: the byte of a trip cause set. -/
def TripCauses.byte (c : TripCauses) : Nat :=
  bitmap [c.persisting.gas, c.persisting.fault, c.persisting.supervision, c.persisting.supply, c.manual, c.restart]

/-- R180: the byte of a persisting cause set. -/
def CauseSet.byte (c : CauseSet) : Nat := bitmap [c.gas, c.fault, c.supervision, c.supply]

/-- The causes of a set that another does not hold. -/
def TripCauses.minus (a b : TripCauses) : TripCauses :=
  { persisting := a.persisting.minus b.persisting, manual := a.manual && !b.manual, restart := a.restart && !b.restart }

/-- The causes of either set. -/
def TripCauses.union (a b : TripCauses) : TripCauses :=
  { persisting := a.persisting.union b.persisting, manual := a.manual || b.manual, restart := a.restart || b.restart }

/-- Whether a trip cause set is not empty. -/
def TripCauses.any (c : TripCauses) : Bool := c.persisting.any || c.manual || c.restart

/-! ## The vote (R80) -/

/-- R96: the covered set: the channel set of an ACTIVE override. -/
def coveredSet (s : State) : BitVec 16 := if s.tu.ovr.state = .active then s.tu.ovr.set else 0#16

/-- Whether a channel is covered by an ACTIVE override. -/
def isCovered (s : State) (i : Fin 16) : Bool := (coveredSet s).getLsbD i.val

/-- R80: whether a channel votes. -/
def votes (s : State) (i : Fin 16) : Bool :=
  match (s.channel i).cfg with
  | some c => (s.channel i).enabled && c.vote && !isCovered s i
  | none => false

/-- R80: whether a channel makes GAS a member. -/
def gasVote (s : State) (i : Fin 16) : Bool := votes s i && (s.channel i).level = .trip

/-- R80: whether a channel makes FAULT a member. -/
def faultVote (s : State) (i : Fin 16) : Bool :=
  votes s i && (match (s.channel i).cfg with | some c => c.failSafe | none => false)
    && ((s.channel i).status = .fault || (s.channel i).status = .noData)

/-- R80: the persisting cause set the state of the blocks gives. -/
def computeCauses (s : State) : CauseSet :=
  { gas := allChannels.any (gasVote s)
    fault := allChannels.any (faultVote s)
    supervision := s.tu.sup.state = .expired
    supply := s.tu.supply.mode = .reserve }

/-! ## The latch and the record (R81 to R83) -/

/-- R81: TRIP_OUT is energised while the latch is clear. -/
def State.tripOut (s : State) : Bool := !s.tu.latch

/-- The trip record's fields as notices and cells carry them; no causes and no channel while it is absent. -/
def recordOf (s : State) : TripRecord := s.tu.record.getD { capture := .empty, channel := none, later := .empty }

/-- R83, R186: post the TRIP notice: latch and capture causes, later causes, trip channel, trip stamp. -/
def postTrip (s : State) : State :=
  postBoth .trip (u8 (128 * flag s.tu.latch + (recordOf s).capture.byte) ++ u8 (recordOf s).later.byte
    ++ opt8 ((recordOf s).channel.map Fin.val) ++ stampBytes s.tb.tripStamp) s

/-- R83, R86, R182: build a TRIP_REPORT: SET (1) or RESET (2), with TRIP_OUT energised in bit 2. -/
def sendTripReport (flags : Nat) (s : State) : State :=
  sendTo kTripReport 0
    (u8 (flags + 4 * flag s.tripOut) ++ stampBytes s.tb.tripStamp ++ u8 (recordOf s).capture.byte
      ++ u8 (recordOf s).later.byte ++ opt8 ((recordOf s).channel.map Fin.val) ++ u8 s.tu.causes.byte
      ++ u8 s.tu.supply.mode.code) s

/-- R82, R83: the latch passes from clear to set: the record is captured with the stamp in force, and reported. -/
def captureTrip (manual restart : Bool) (s : State) : State :=
  let s1 := s.updTb fun t => { t with tripStamp := some s.now }
  let s2 := s1.updTu fun u => { u with
    latch := true
    record := some { capture := { persisting := u.causes, manual := manual, restart := restart }
                     channel := allChannels.find? (gasVote s), later := .empty } }
  sendTripReport 1 (postTrip s2)

/-- R82, R83: causes join the later causes unless already recorded; TRIP is posted again when one joins. -/
def addLater (c : TripCauses) (s : State) : State :=
  let r := recordOf s
  let new := c.minus (r.capture.union r.later)
  if new.any then postTrip (s.updTu fun u => { u with record := some { r with later := r.later.union new } }) else s

/-- R80 to R82: the persisting cause set is recomputed; a cause that appears sets the latch or joins the record. -/
def tuRecompute (s : State) : State :=
  let new := computeCauses s
  let appeared := new.minus s.tu.causes
  let s1 := s.updTu fun u => { u with causes := new }
  if appeared.any then
    if s.tu.latch then addLater { persisting := appeared, manual := false, restart := false } s1
    else captureTrip false false s1
  else s1

/-- R85: TRIP_MANUAL's effect on the latch and the record. -/
def tripManual (s : State) : State :=
  if s.tu.latch then addLater { persisting := .empty, manual := true, restart := false } s else captureTrip true false s

/-- R86: the latch is cleared with the persisting cause set empty: TRIP_REPORT RESET with the record as it stood, the
TRIP notice showing the latch clear, then the record and the trip stamp cleared. -/
def tripReset (s : State) : State :=
  let s1 := s.updTu fun u => { u with latch := false }
  let s2 := postTrip (sendTripReport 2 s1)
  (s2.updTu fun u => { u with record := none }).updTb fun t => { t with tripStamp := none }

/-- R85, R177: the latch, and the trip record in the order of R82, as a response carries them; an absent record is all
ones. -/
def tripRecordBytes (s : State) : Bytes :=
  stampBytes s.tb.tripStamp ++ opt8 (s.tu.record.map fun r => r.capture.byte)
    ++ opt8 ((recordOf s).channel.map Fin.val) ++ opt8 (s.tu.record.map fun r => r.later.byte)

/-! ## Coverage (R60, R64, R92) -/

/-- R92: whether a channel is configured, enabled, a bus channel of kind CH4 with the VOTE flag, outside a set. -/
def uncoveredVoter (set : BitVec 16) (i : Fin 16) (c : Channel) : Bool :=
  i.val < 15 && c.enabled && !set.getLsbD i.val
    && match c.cfg with
      | some f => f.kind = .ch4 && f.vote
      | none => false

/-- R60, R64: whether the override leaves no uncovered voting CH4 bus channel once channel `i` is as given. -/
def coverageLost (s : State) (i : Fin 16) (c : Channel) : Bool :=
  s.tu.ovr.state != .none
    && !(allChannels.any fun j => uncoveredVoter s.tu.ovr.set j (if j = i then c else s.channel j))

/-! ## Supply Monitor (R98, R99) -/

/-- R98: the four runs brought up to date with a sample. -/
def SupplyMonitor.sample (m : SupplyMonitor) (mains : Bool) (battery : Nat) : SupplyMonitor :=
  let judged := m.mode != .mains
  { m with
    lastMains := mains, lastBattery := battery
    absentRun := if mains then 0 else satSucc 255 m.absentRun
    presentRun := if mains then satSucc 255 m.presentRun else 0
    lowRun := if judged && battery < m.enter then satSucc 255 m.lowRun else 0
    highRun := if judged && m.leave ≤ battery && !mains then satSucc 255 m.highRun else 0 }

/-- R99: the mode the runs call for; none if the mode is kept. -/
def SupplyMonitor.change (m : SupplyMonitor) : Option SupplyMode :=
  match m.mode with
  | .mains => if 2 ≤ m.absentRun then some .battery else none
  | .battery => if 20 ≤ m.presentRun then some .mains else if 4 ≤ m.lowRun then some .reserve else none
  | .reserve => if 20 ≤ m.presentRun then some .mains else if 20 ≤ m.highRun then some .battery else none

/-- R98: after a mode change every run starts from 0 at the next sample. -/
def SupplyMonitor.enterMode (m : SupplyMonitor) (mode : SupplyMode) : SupplyMonitor :=
  { m with mode := mode, absentRun := 0, presentRun := 0, lowRun := 0, highRun := 0 }

end Sys2Proof.Machine
end

