-- ==== Sys2Proof/Machine/Vehicles.lean ====
section
/-! DEFINITION. The Vehicle Unit's shared operations (Chapter 8): orders (R152, R153), the wait list and granting (R157,
R158), outbye requests (R159), departures (R150), exits (R161), overdue members (R162) and the hand-overs (R153, R163). -/

namespace Sys2Proof.Machine

/-! ## Looking up -/

/-- The entry in use that holds a vehicle id (R146: at most one). -/
def findVehicle (id : Nat) (s : State) : Option (Fin 16) :=
  allVehicles.find? fun i => match s.vehicle i with
    | some v => v.id == id
    | none => false

/-- Update an entry in use. -/
def modVehicle (i : Fin 16) (f : Vehicle → Vehicle) (s : State) : State :=
  match s.vehicle i with
  | some v => s.setVehicle i (some (f v))
  | none => s

/-! ## Orders (R152) -/

/-- R152: the line of the order table that applies to an entry. -/
def orderLine (s : State) (v : Vehicle) : Nat :=
  if v.kind = .diesel && s.vu.methane = .trip then 1
  else if v.manualStop then 2
  else if s.vu.level = .evacuate then 3
  else if v.kind = .diesel && s.vu.methane = .alarm && v.heading != .outbye then 4
  else if v.heading = .inbye && s.vu.cfg.governs then 5
  else if v.heading = .outbye && s.vu.cfg.outbyeGoverned then 6
  else 7

/-- R152: the order the table gives an entry with the block role and outbye request it holds. At line 3 the table goes
before the bullet on re-derivations, also where the outbye block is not governed (log 45). -/
def orderOf (s : State) (v : Vehicle) : Order :=
  match orderLine s v with
  | 1 => .shutdown
  | 2 => .stop
  | 3 => if v.heading != .inbye && (v.request = .granted || !s.vu.cfg.outbyeGoverned) then .evacuate else .wait
  | 4 => .noEntry
  | 5 => if v.role = .member then .proceed else .wait
  | 6 => if v.request = .granted then .proceed else .wait
  | _ => .proceed

/-- R153: an entry's order is derived again with the block role and request it holds; a change sets echo-ok to no. -/
def deriveOrder (i : Fin 16) (s : State) : State :=
  modVehicle i (fun v => if orderOf s v = v.order then v else { v with order := orderOf s v, echoOk := false }) s

/-! ## Granting (R157) -/

/-- R157: the convoy limit in force. -/
def convoyInForce (s : State) : Nat := if s.vu.level = .evacuate then Config.evacuationConvoy else s.vu.cfg.convoy

/-- R157: the direction of a wait entry. -/
def Wait.dir (w : Wait) : BlockDirection := if w.remote then .outbyeBound else .inbyeBound

/-- R157: whether the oldest wait entry can be granted. -/
def grantable (s : State) (w : Wait) : Bool :=
  (s.vu.dir = .free || s.vu.dir = w.dir) && s.vu.members.length < convoyInForce s

/-- R157: the wait entry leaves the list and joins the members. A member already holding the id gives way (log 21). -/
def grantOne (w : Wait) (rest : List Wait) (s : State) : State :=
  let s1 := s.updVu fun u => { u with
    waits := rest, dir := w.dir
    members := u.members.filter (fun m => m.id != w.id) ++ [{ id := w.id, round := s.tb.running, age := 0, overdue := false }] }
  if w.remote then sendAdjacent .inbye kBlockGrant (u16 w.id) s1
  else match findVehicle w.id s1 with
    | some i => deriveOrder i (modVehicle i (fun v => { v with role := .member }) s1)
    | none => s1

/-- R157: granting, for as long as the oldest wait entry can be granted; `n` bounds the wait entries looked at. -/
def grantLoop : Nat → State → State
  | 0, s => s
  | n + 1, s =>
    match s.vu.waits with
    | [] => s
    | w :: rest => if grantable s w then grantLoop n (grantOne w rest s) else s

/-- R157: granting is re-examined. -/
def reexamine (s : State) : State := grantLoop s.vu.waits.length s

/-! ## Leaving the wait list and the member list (R158, R161) -/

/-- R158: the LOCAL wait entry of a vehicle leaves the wait list. -/
def dropLocalWait (id : Nat) (s : State) : State :=
  s.updVu fun u => { u with waits := u.waits.filter fun w => w.remote || w.id != id }

/-- R158: a waiting vehicle whose derivation does not end at line 5 leaves the wait list; granting is re-examined. -/
def leaveIfPassed (i : Fin 16) (s : State) : State :=
  match s.vehicle i with
  | some v =>
    if v.role = .waiting && orderLine s v != 5 then
      reexamine (modVehicle i (fun v => { v with role := .none }) (dropLocalWait v.id s))
    else s
  | none => s

/-- R153: a re-derivation of an entry. -/
def rederive (i : Fin 16) (s : State) : State := deriveOrder i (leaveIfPassed i s)

/-- R153: every entry in use is derived again, in ascending index. -/
def rederiveAll (s : State) : State := forEach allVehicles rederive s

/-- R161: the members that hold an id leave the member list; their vehicle's entry takes block role none and is derived
again (R158); the direction becomes FREE with the last member. An entry that waits under the id goes on waiting (log 45). -/
def dropMember (id : Nat) (s : State) : State :=
  let s1 := s.updVu fun u =>
    let ms := u.members.filter fun m => m.id != id
    { u with members := ms, dir := if ms.isEmpty then .free else u.dir }
  match findVehicle id s1 with
  | some i => deriveOrder i (modVehicle i (fun v => if v.role = .member then { v with role := .none } else v) s1)
  | none => s1

/-- R161: an exit names an id: a member and a REMOTE wait entry that hold it are removed, and granting is re-examined
after a removal. An id held by neither is ignored. -/
def vehicleExit (id : Nat) (s : State) : State :=
  let isMember := s.vu.members.any fun m => m.id == id
  let isRemote := s.vu.waits.any fun w => w.remote && w.id == id
  if isMember || isRemote then
    let s1 := if isMember then dropMember id s else s
    reexamine (s1.updVu fun u => { u with waits := u.waits.filter fun w => !(w.remote && w.id == id) })
  else s

/-! ## Outbye requests (R159) -/

/-- R159: the BLOCK_REQUEST of a vehicle. -/
def sendRequest (v : Vehicle) (s : State) : State :=
  sendAdjacent .outbye kBlockRequest (u16 v.id ++ u8 v.kind.code) s

/-- R159: a request is released: BLOCK_EXIT with reason RELEASED. -/
def sendRelease (id : Nat) (s : State) : State := sendAdjacent .outbye kBlockExit (u8 1 ++ u16 id) s

/-- R159: an entry's request or grant is released and becomes NONE. -/
def releaseRequest (i : Fin 16) (s : State) : State :=
  match s.vehicle i with
  | some v => modVehicle i (fun v => { v with request := .none }) (sendRelease v.id s)
  | none => s

/-- R159: a request is started at a vehicle's own derivation that ends at line 3 (heading OUTBYE or STOPPED) or line 6,
when the outbye block is governed and the request is NONE. -/
def startRequest (i : Fin 16) (s : State) : State :=
  match s.vehicle i with
  | some v =>
    if s.vu.cfg.outbyeGoverned && v.request = .none
        && ((orderLine s v == 3 && v.heading != .inbye) || orderLine s v == 6) then
      sendRequest v (modVehicle i (fun v => { v with request := .requested, resend := 0 }) s)
    else s
  | none => s

/-- R158: a vehicle with block role none whose own derivation reaches line 5 is offered to the wait list; an id already
listed is not listed again (log 21). -/
def offer (i : Fin 16) (s : State) : State :=
  match s.vehicle i with
  | some v =>
    if orderLine s v == 5 && v.role = .none && s.vu.waits.length < Config.waitCapacity
        && !(s.vu.waits.any fun w => w.id == v.id) then
      reexamine ((modVehicle i (fun v => { v with role := .waiting }) s).updVu
        fun u => { u with waits := u.waits ++ [{ id := v.id, remote := false }] })
    else s
  | none => s

/-- R152: the derivation for a vehicle's own beacon. -/
def deriveOwn (i : Fin 16) (s : State) : State := deriveOrder i (startRequest i (offer i (leaveIfPassed i s)))

/-! ## Vehicle events (R151) -/

/-- R151: ARRIVED (0) or DEPARTED (1): the notice, and the cell. -/
def reportVehicle (reason : Nat) (v : Vehicle) (s : State) : State :=
  let s1 := postBoth .vehicleEvent (u8 reason ++ u16 v.id ++ u8 v.kind.code ++ u8 v.heading.code ++ u8 v.order.code) s
  sendTo kVehicleEvent 0
    (u8 reason ++ u16 v.id ++ u8 v.kind.code ++ u8 v.heading.code ++ u8 v.order.code
      ++ u8 (bitmap [v.echoOk, v.manualStop]) ++ opt16 v.methane ++ stampBytes (some v.firstStamp) ++ u16 v.lastHeard
      ++ u8 s1.vu.methane.code ++ u8 s1.vu.level.code) s1

/-- R151, R162, R182: OVERDUE (2) of a member: the notice carries the direction of R157, the cell 0 INBYE or 1 OUTBYE. -/
def reportOverdue (m : Member) (s : State) : State :=
  let s1 := postBoth .blockOverdue
    (u16 m.id ++ u8 s.vu.dir.code ++ u16 m.round ++ u16 m.age ++ u8 s.vu.members.length) s
  let s2 := postBoth .vehicleEvent (u8 2 ++ u16 m.id ++ u8 s1.vu.dir.code ++ u16 m.round) s1
  sendTo kVehicleEvent 0
    (u8 2 ++ u16 m.id ++ uFlag (s2.vu.dir = .outbyeBound) ++ u16 m.round ++ u16 m.age ++ u8 s2.vu.members.length) s2

/-! ## Per-round work (R150, R159, R162) -/

/-- R150: a vehicle departs. -/
def depart (i : Fin 16) (s : State) : State :=
  match s.vehicle i with
  | some v =>
    let s1 := if v.role = .waiting then reexamine (modVehicle i (fun v => { v with role := .none }) (dropLocalWait v.id s)) else s
    let s2 := if v.request = .requested then releaseRequest i s1 else s1
    match s2.vehicle i with
    | some v2 => ((reportVehicle 1 v2 s2).setVehicle i none).updVu fun u => { u with tableFull := false }
    | none => s2
  | none => s

/-- R150: whether an entry's unheard count reaches the presence timeout at the next round start. -/
def departureDue (s : State) (i : Fin 16) : Bool :=
  match s.vehicle i with
  | some v => s.vu.cfg.presence ≤ v.unheard + 1
  | none => false

/-- R150: a round start's work on the unheard count of an entry. -/
def unheardTick (i : Fin 16) (s : State) : State :=
  if departureDue s i then depart i (modVehicle i (fun v => { v with unheard := v.unheard + 1 }) s)
  else modVehicle i (fun v => { v with unheard := v.unheard + 1 }) s

/-- R159: whether an entry's resend count reaches 100 at the next round start. -/
def resendDue (s : State) (i : Fin 16) : Bool :=
  match s.vehicle i with
  | some v => v.request = .requested && Config.blockResendLimit ≤ v.resend + 1
  | none => false

/-- R159: a round start's work on the resend count of an entry. -/
def resendTick (i : Fin 16) (s : State) : State :=
  match s.vehicle i with
  | some v =>
    if v.request = .requested then
      if Config.blockResendLimit ≤ v.resend + 1 then sendRequest v (modVehicle i (fun v => { v with resend := 0 }) s)
      else modVehicle i (fun v => { v with resend := v.resend + 1 }) s
    else s
  | none => s

/-- R162: whether a member becomes overdue at the next round start. -/
def overdueDue (s : State) (m : Member) : Bool := !m.overdue && s.vu.cfg.transit ≤ m.age + 1

/-- R162: a round start's work on one member, named by its id. -/
def memberTick (id : Nat) (s : State) : State :=
  match s.vu.members.find? fun m => m.id == id with
  | some m =>
    if m.overdue then s
    else
      let m' := { m with age := m.age + 1, overdue := overdueDue s m }
      let s1 := s.updVu fun u => { u with members := replaceFirst (fun x => x.id == id) m' u.members }
      if m'.overdue then reportOverdue m' s1 else s1
  | none => s

/-- R162: a round start's work on the members that stood before it. -/
def membersRound (s : State) : State := forEach (s.vu.members.map Member.id) memberTick s

/-- R150, R159: the Vehicle Unit's work at a round start on its entries; a departure goes before a resend of the same entry,
which then does not come (log 3). -/
def vuRound (s : State) : State := forEach allVehicles (fun i t => resendTick i (unheardTick i t)) s

/-! ## Hand-overs (R153, R163) -/

/-- R163: every INBYE wait entry leaves the wait list; its vehicle takes block role none. -/
def dropInbyeWaits (s : State) : State :=
  let ids := (s.vu.waits.filter fun w => !w.remote).map Wait.id
  let s1 := s.updVu fun u => { u with waits := u.waits.filter fun w => w.remote }
  forEach ids (fun id t => match findVehicle id t with
    | some i => modVehicle i (fun v => if v.role = .waiting then { v with role := .none } else v) t
    | none => t) s1

/-- R153, R163: the Section Alarm Unit hands the Vehicle Unit a section level. -/
def vuSectionLevel (l : SectionLevel) (s : State) : State :=
  let before := s.vu.level
  let s1 := s.updVu fun u => { u with level := l }
  if before != .evacuate && l = .evacuate then rederiveAll (reexamine (dropInbyeWaits s1))
  else if before = .evacuate && l != .evacuate then rederiveAll (reexamine s1)
  else rederiveAll s1

/-- R76, R153: the Gas Channel Unit hands the Vehicle Unit a node methane level. -/
def vuMethane (l : GasLevel) (s : State) : State := rederiveAll (s.updVu fun u => { u with methane := l })

/-! ## Block protocol (R159 to R161, R183) -/

/-- R183: whether a vehicle id of the block protocol is in range. -/
def blockIdOk (id : Nat) : Bool := 1 ≤ id && id ≤ 4095

/-- R160: a BLOCK_REQUEST is handled as a new one: already listed, list full, or listed REMOTE. -/
def requestNew (id : Nat) (s : State) : State :=
  if s.vu.waits.any fun w => w.id == id then s
  else if Config.waitCapacity ≤ s.vu.waits.length then s
  else reexamine (s.updVu fun u => { u with waits := u.waits ++ [{ id := id, remote := true }] })

/-- R160: a BLOCK_REQUEST taken on a line. After the removal of an INBYE member the request is taken up at the third row
(log 45). -/
def blockRequest (l : Line) (payload : Bytes) (s : State) : State :=
  let id := wordAt payload 0
  if l = .outbye || !blockIdOk id then s
  else if !s.vu.cfg.governs then sendAdjacent .inbye kBlockGrant (u16 id) s
  else if s.vu.members.any fun m => m.id == id then
    if s.vu.dir = .outbyeBound then sendAdjacent .inbye kBlockGrant (u16 id) s
    else requestNew id (reexamine (dropMember id s))
  else requestNew id s

/-- R159: a BLOCK_GRANT taken on a line. -/
def blockGrant (l : Line) (payload : Bytes) (s : State) : State :=
  let id := wordAt payload 0
  if l = .inbye || !blockIdOk id then s
  else match findVehicle id s with
    | some i =>
      match (s.vehicle i).map Vehicle.request with
      | some .requested => rederive i (modVehicle i (fun v => { v with request := .granted }) s)
      | some .granted => s
      | _ => sendRelease id s
    | none => sendRelease id s

/-- R161: a BLOCK_EXIT taken on a line. -/
def blockExit (l : Line) (payload : Bytes) (s : State) : State :=
  let id := wordAt payload 1
  if l = .outbye || !blockIdOk id || 1 < byteAt payload 0 then s else vehicleExit id s

/-- R162: BLOCK_FORCE_CLEAR empties the member list; each member's vehicle takes block role none and is derived again;
granting is re-examined. -/
def forceClear (s : State) : State :=
  let s1 := s.updVu fun u => { u with members := [], dir := .free }
  reexamine (forEach allVehicles (fun i t => match (t.vehicle i).map Vehicle.role with
    | some .member => deriveOrder i (modVehicle i (fun v => { v with role := .none }) t)
    | _ => t) s1)

end Sys2Proof.Machine
end

