-- ==== Sys2Proof/Machine/Section.lean ====
section
/-! DEFINITION. The Section Alarm Unit's shared operations (Chapter 6): the local causes (R103, R104), the latch and the
section level (R107 to R109), strobe and sounder (R112), refuges (R115 to R120); and with them what its level and its causes
move: the node methane level (R76), supervision (R88, R90) and the override (R93, R94, R96, R97). -/

namespace Sys2Proof.Machine

/-! ## Node methane level (R76) -/

/-- R76: whether a channel counts in the node methane level. -/
def countsMethane (s : State) (i : Fin 16) : Bool :=
  match (s.channel i).cfg with
  | some c => (s.channel i).enabled && c.kind = .ch4 && !isCovered s i
  | none => false

/-- R76: the level a channel counts with: its held level, NORMAL in NO_DATA. -/
def Channel.countedLevel (c : Channel) : GasLevel := if c.status = .noData then .normal else c.level

/-- The higher of two channel levels. -/
def worseLevel (a b : GasLevel) : GasLevel := if a.code < b.code then b else a

/-- R76: the node methane level the channels give. -/
def methaneOf (s : State) : GasLevel :=
  (allChannels.filter (countsMethane s)).foldl (fun m i => worseLevel m (s.channel i).countedLevel) .normal

/-- R76: the node methane level is recomputed; a change is handed to the Vehicle Unit. -/
def recomputeMethane (s : State) : State :=
  let new := methaneOf s
  if new = s.gcu.nodeMethane then s else vuMethane new (s.updGcu fun g => { g with nodeMethane := new })

/-! ## Local causes (R103, R104) -/

/-- R103: whether a channel counts for the gas causes, as it was last handed over. -/
def inputCounts (s : State) (i : Fin 16) : Bool := (s.sau.inputs.get i).isSome && !s.sau.covered.getLsbD i.val

/-- R103: the level an input counts with: NORMAL in NO_DATA. -/
def ChannelInput.countedLevel (x : ChannelInput) : GasLevel := if x.status = .noData then .normal else x.level

/-- R103: whether a counting channel meets a test of its input. -/
def anyCounting (s : State) (p : ChannelInput → Bool) : Bool :=
  allChannels.any fun i => inputCounts s i && match s.sau.inputs.get i with
    | some x => p x
    | none => false

/-- R103, R104: the local cause set the inputs of the SAU give. -/
def localCausesOf (s : State) : LocalCauses :=
  { gasAlert := anyCounting s fun x => x.alertAt.met x.countedLevel
    supervision := s.sau.supLate
    refugeCall := allRefuges.any fun r => (s.refuge r).called
    manualAlert := s.sau.holders.sp || s.sau.holders.cp
    gasEvacuate := anyCounting s fun x => x.evacuateAt.met x.countedLevel }

/-- R103, R104, R107: the local cause set is recomputed; the latch is set when GAS_EVACUATE appears. -/
def takeCauses (s : State) : State :=
  let new := localCausesOf s
  s.updSau fun a => { a with causes := new, latch := a.latch || (new.gasEvacuate && !a.causes.gasEvacuate) }

/-- R104: the local cause level. -/
def LocalCauses.level (c : LocalCauses) : SectionLevel :=
  if c.gasEvacuate then .evacuate
  else if c.gasAlert || c.supervision || c.refugeCall || c.manualAlert then .alert else .normal

/-- R180: the local cause set as a bitmap, in the order R102 lists it. -/
def LocalCauses.byte (c : LocalCauses) : Nat :=
  bitmap [c.gasAlert, c.supervision, c.refugeCall, c.manualAlert, c.gasEvacuate]

/-! ## The section level (R108, R109) and the outputs (R112) -/

/-- The level a latch stands for. -/
def latchLevel (latch : Bool) : SectionLevel := if latch then .evacuate else .normal

/-- R109: the level as sent toward INBYE, in the marker. -/
def levelInbye (s : State) : SectionLevel :=
  (s.sau.causes.level.sup s.cs.remote.outbye.level).sup (latchLevel s.sau.latch)

/-- R109: the level as sent toward OUTBYE, in the UPLINK cell. -/
def levelOutbye (s : State) : SectionLevel :=
  (s.sau.causes.level.sup s.cs.remote.inbye.level).sup (latchLevel s.sau.latch)

/-- R108: the section level the four terms give. -/
def levelOf (s : State) : SectionLevel := (levelInbye s).sup s.cs.remote.inbye.level

/-- R112: whether the table of R112 gives the sounder sounding. -/
def AlarmUnit.sounding (a : AlarmUnit) : Bool :=
  match a.level with
  | .normal => false
  | .alert => 0 < a.announce
  | .evacuate => true

/-- R112: the strobe output. -/
def State.strobe (s : State) : Bool := s.sau.level != .normal

/-- R112: the sounder output. -/
def State.sounder (s : State) : Bool := s.sau.sounding && (s.sau.modeInUse != .reserve || s.sau.pulse == 0)

/-- R112: the section level changes: the announcement count is loaded or becomes 0, and the pulse count becomes 0 when the
sounder begins to sound. -/
def AlarmUnit.enterLevel (a : AlarmUnit) (l : SectionLevel) : AlarmUnit :=
  let b := { a with level := l, announce := if l = SectionLevel.alert then Config.announcementRounds else 0 }
  { b with pulse := if b.sounding && !a.sounding then 0 else a.pulse }

/-- R108, R186: the notice of a change of section level. -/
def postSectionLevel (before : SectionLevel) (s : State) : State :=
  postBoth (if s.sau.level = .evacuate then .evacuate else .alertChange)
    (u8 (s.sau.level.code + 4 * before.code + 16 * flag s.sau.latch) ++ u8 s.sau.causes.byte
      ++ u8 s.cs.remote.outbye.level.code ++ u8 s.cs.remote.inbye.level.code ++ u8 s.tb.epoch ++ u8 0) s

/-- R108, R109: the section level and the two levels as sent are derived again; a change of section level is posted and
handed to the Call Table Unit and the Vehicle Unit. -/
def deriveLevel (s : State) : State :=
  let before := s.sau.level
  let new := levelOf s
  let s1 := s.updSau fun a => { a with sentInbye := levelInbye s, sentOutbye := levelOutbye s }
  if new = before then s1
  else
    let s2 := s1.updSau fun a => a.enterLevel new
    vuSectionLevel new (ctuSectionLevel new (postSectionLevel before s2))

/-! ## The override (R91, R94, R96, R97) -/

/-- R97: the report of a change of override state. Where the new state is NONE the set is empty and the duration absent, and
the count is the one that was running (log 17). -/
def reportOverride (before : OverrideState) (s : State) : State :=
  let o := s.tu.ovr
  let count := match o.state, before with
    | .active, _ => o.durCount
    | .none, .active => o.durCount
    | _, _ => o.window
  let reason := if o.state = .none then o.lastEnd.map EndReason.code else none
  let body := u8 o.state.code ++ u8 before.code ++ u16 o.set.toNat ++ opt16 o.duration ++ u16 count ++ opt8 reason
  sendTo kOverrideAsk 0 (body ++ u8 s.tu.causes.byte) (postBoth .overrideState body s)

/-- R96: the covered set changes: the persisting cause set, the node methane level and the gas causes are recomputed. The
derivation of the section level follows. -/
def coverSet (s : State) : State :=
  let s1 := recomputeMethane (tuRecompute s)
  takeCauses (s1.updSau fun a => { a with covered := coveredSet s1 })

/-- R91, R94, R97: an override returns to NONE with an end reason; it is reported, and an override that was ACTIVE changes
the covered set after it, as the worked sequence of 5.3 has them (log 17). `derive` is the derivation of the section level. -/
def endOverrideWith (derive : State → State) (reason : EndReason) (s : State) : State :=
  let before := s.tu.ovr.state
  let s1 := s.updTu fun u => { u with ovr := { u.ovr with
    state := .none, set := 0#16, duration := none, lastEnd := some reason } }
  let s2 := reportOverride before s1
  if before = .active then derive (coverSet s2) else s2

/-- R94: a rise of the section level to EVACUATE, from `before`, ends a PENDING or ACTIVE override. -/
def evacuationEnd (before : SectionLevel) (s : State) : State :=
  if before != .evacuate && s.sau.level = .evacuate && s.tu.ovr.state != .none then endOverrideWith deriveLevel .evacuation s
  else s

/-- R94, R108: the section level is derived again, and a rise to EVACUATE ends an override. -/
def sauDerive (s : State) : State := evacuationEnd s.sau.level (deriveLevel s)

/-- R104, R107, R108: the causes are recomputed and the section level derived again. -/
def sauRecompute (s : State) : State := sauDerive (takeCauses s)

/-- R107: the EVACUATE latch is set by an event; the section level is derived again. -/
def setLatch (s : State) : State := sauDerive (s.updSau fun a => { a with latch := true })

/-- R93 to R95: an override ends. -/
def endOverride (reason : EndReason) (s : State) : State := endOverrideWith sauDerive reason s

/-- R93: whether the window count reaches 0 at the next round start. -/
def windowDue (s : State) : Bool := s.tu.ovr.state = .pending && s.tu.ovr.window ≤ 1

/-- R94: whether the duration count reaches 0 at the next round start. -/
def durationDue (s : State) : Bool := s.tu.ovr.state = .active && s.tu.ovr.durCount ≤ 1

/-- R93, R94: a round start's work on the override. -/
def overrideTick (s : State) : State :=
  match s.tu.ovr.state with
  | .none => s
  | .pending =>
    let s1 := s.updTu fun u => { u with ovr := { u.ovr with window := u.ovr.window - 1 } }
    if windowDue s then endOverride .window s1 else s1
  | .active =>
    let s1 := s.updTu fun u => { u with ovr := { u.ovr with durCount := u.ovr.durCount - 1 } }
    if durationDue s then endOverride .expired s1 else s1

/-! ## Supervision (R88 to R90) -/

/-- R90: the SUPERVISION_LATE content. -/
def supervisionBytes (before : SupervisionState) (s : State) : Bytes :=
  u8 s.tu.sup.state.code ++ u8 before.code ++ opt16 s.tu.sup.period ++ u16 s.tu.sup.count

/-- R90: a change of supervision state is reported; the Section Alarm Unit is told late or not late; the persisting causes
are recomputed. In that order: at entry to EXPIRED the report goes before that of the trip (log 45). -/
def supervisionChanged (before : SupervisionState) (s : State) : State :=
  let s1 := sendTo kSupervisionLate 0 (supervisionBytes before s) (postBoth .supervisionLate (supervisionBytes before s) s)
  let s2 := match s1.tu.sup.state with
    | .late => sauRecompute (s1.updSau fun a => { a with supLate := true })
    | .running => sauRecompute (s1.updSau fun a => { a with supLate := false })
    | _ => s1
  tuRecompute s2

/-- R88: whether the count reaches 0 at the next round start. -/
def lapseDue (s : State) : Bool := (s.tu.sup.state = .running || s.tu.sup.state = .late) && s.tu.sup.count ≤ 1

/-- R88: the period lapses. -/
def lapse (s : State) : State :=
  match s.tu.sup.state with
  | .running => supervisionChanged .running
      (s.updTu fun u => { u with sup := { u.sup with state := .late, count := u.sup.period.getD 0 } })
  | .late => supervisionChanged .late (s.updTu fun u => { u with sup := { u.sup with state := .expired, count := 0 } })
  | _ => s

/-- R88: a round start's work on the supervision count. -/
def supervisionTick (s : State) : State :=
  if lapseDue s then lapse s
  else match s.tu.sup.state with
    | .running | .late => s.updTu fun u => { u with sup := { u.sup with count := u.sup.count - 1 } }
    | _ => s

/-! ## Refuges (R114 to R120) -/

/-- R180: the two bytes of the refuge fields; all ones while absent. -/
def refugeFieldBytes : Option RefugeFields → Bytes
  | some f => u8 (128 * flag f.doorOpen + 64 * flag f.pressed + 32 * flag f.plantFault) ++ u8 f.occupants
  | none => u16 65535

/-- R116: post REFUGE_EVENT: refuge, state, state before, fields, call (the rest is beyond the sixth byte). -/
def postRefuge (r : Fin 4) (before : RefugeState) (s : State) : State :=
  let x := s.refuge r
  postBoth .refugeEvent
    (u8 r.val ++ u8 x.state.code ++ u8 before.code ++ refugeFieldBytes x.fields ++ uFlag x.called) s

/-- R116: the reasons of a REFUGE_REPORT. -/
structure RefugeReasons where
  state : Bool := false
  plant : Bool := false
  air : Bool := false
  ack : Bool := false
  periodic : Bool := false

/-- R182: the reasons byte. -/
def RefugeReasons.byte (x : RefugeReasons) : Nat := bitmap [x.state, x.plant, x.air, x.ack, x.periodic]

/-- R116: the channels bound to a refuge: those taking part that name it (log 25). -/
def boundChannels (s : State) (r : Fin 4) : List (Fin 16 × ChannelInput) :=
  allChannels.filterMap fun i => match s.sau.inputs.get i with
    | some x => if x.binding = some r then some (i, x) else none
    | none => none

/-- R182: the REFUGE_REPORT payload. -/
def refugeReportBytes (r : Fin 4) (reasons : RefugeReasons) (s : State) : Bytes :=
  let x := s.refuge r
  let bound := boundChannels s r
  u8 (64 * r.val + x.state.code) ++ u8 reasons.byte ++ refugeFieldBytes x.fields
    ++ u8 (flag x.called + 2 * flag s.sau.latch + 8 * bound.length) ++ stampBytes (s.tb.refugeStamps.get r)
    ++ bound.map fun p => BitVec.ofNat 8 (16 * p.1.val + 4 * p.2.level.code + p.2.status.code)

/-- R116: a REFUGE_REPORT is built for a record; its report count becomes 0. -/
def sendRefugeReport (r : Fin 4) (reasons : RefugeReasons) (s : State) : State :=
  let s1 := sendTo kRefugeReport 0 (refugeReportBytes r reasons s) s
  s1.setRefuge r { s1.refuge r with report := 0 }

/-- R18: capture the refuge stamp, or make it absent. -/
def setRefugeStamp (r : Fin 4) (x : Option Stamp) (s : State) : State :=
  s.updTb fun t => { t with refugeStamps := vset t.refugeStamps r x }

/-- R120: whether a bound counting channel stands at ALARM or TRIP. -/
def boundBad (s : State) (r : Fin 4) : Bool :=
  (boundChannels s r).any fun p => inputCounts s p.1 && 2 ≤ p.2.countedLevel.code

/-- R115: the state a reading gives. -/
def RefugeFields.state (f : RefugeFields) : RefugeState :=
  if f.doorOpen then .doorOpen else if f.occupants = 0 then .vacant else .occupied

/-- R116: whether the plant changed from OK to FAULT or from FAULT to OK. -/
def plantChanged (old new : Refuge) : Bool :=
  match old.fields, new.fields with
  | some a, some b => a.plantFault != b.plantFault
  | _, _ => false

/-- R116, R120: what a completion changed in a record is reported: one REFUGE_EVENT, and one REFUGE_REPORT that carries
every reason the completion gave (log 40). -/
def reportRefuge (r : Fin 4) (old : Refuge) (s : State) : State :=
  let new := s.refuge r
  let plant := plantChanged old new
  if new.state != old.state then
    let s1 := setRefugeStamp r (if new.state = .unused then none else some s.now) s
    sendRefugeReport r { state := true, plant := plant, air := new.state = .occupied && boundBad s1 r } (postRefuge r old.state s1)
  else if plant then sendRefugeReport r { plant := true } (postRefuge r old.state s)
  else s

/-- R117: a press of the call button. The REFUGE_EVENT gives as state before the state the reading left (log 45). -/
def press (r : Fin 4) (s : State) : State :=
  let x := s.refuge r
  let s1 := sauRecompute (s.setRefuge r { x with called := true })
  sendTo kRefugeCall 0
    (u8 r.val ++ u8 x.state.code ++ refugeFieldBytes x.fields ++ uFlag x.called ++ u16 s1.tb.running)
    (postRefuge r x.state s1)

/-- R115: a reading of a refuge head. -/
def refugeReading (r : Fin 4) (f : RefugeFields) (s : State) : State :=
  let old := s.refuge r
  let s1 := reportRefuge r old (s.setRefuge r { old with miss := 0, fields := some f, state := f.state })
  let wasPressed := match old.fields with
    | some o => o.pressed
    | none => false
  if f.pressed && !wasPressed then press r s1 else s1

/-- R115: a miss of a refuge head. -/
def refugeMiss (r : Fin 4) (s : State) : State :=
  let old := s.refuge r
  let n := satSucc Config.refugeMissLimit old.miss
  reportRefuge r old (s.setRefuge r { old with
    miss := n, state := if n = Config.refugeMissLimit then .noResponse else old.state })

/-- R120: whether a handed-over level rises as an air event asks. -/
def airRise (old new : GasLevel) : Bool :=
  (old.code < 2 && 2 ≤ new.code) || (old.code = 2 && new.code = 3)

/-- R120: a rise handed over by the Gas Channel Unit at an OCCUPIED refuge makes a notice and a report of its own. -/
def airEvent (i : Fin 16) (old new : Option ChannelInput) (s : State) : State :=
  match old, new with
  | some a, some b =>
    match b.binding with
    | some r =>
      if airRise a.countedLevel b.countedLevel && inputCounts s i && (s.refuge r).state = .occupied then
        sendRefugeReport r { air := true } (postRefuge r .occupied s)
      else s
    | none => s
  | _, _ => s

/-- R119: whether a record's report count reaches 200 at the next round start. -/
def refugeReportDue (s : State) (r : Fin 4) : Bool :=
  s.sau.latch && ((s.refuge r).state = .doorOpen || (s.refuge r).state = .occupied)
    && Config.refugeReportLimit ≤ (s.refuge r).report + 1

/-- R119: a round start's work on the report count of a record. -/
def refugeReportTick (r : Fin 4) (s : State) : State :=
  if refugeReportDue s r then sendRefugeReport r { periodic := true } s
  else if s.sau.latch && ((s.refuge r).state = .doorOpen || (s.refuge r).state = .occupied) then
    s.setRefuge r { s.refuge r with report := (s.refuge r).report + 1 }
  else s.setRefuge r { s.refuge r with report := 0 }

/-! ## Per-round work (R112, R119) -/

/-- R112: whether the announcement count reaches 0 at the next round start. -/
def announcementDue (s : State) : Bool := s.sau.announce = 1

/-- R112: a round start's work on the mode in use, the announcement count and the pulse count, as they stood before it. -/
def AlarmUnit.round (a : AlarmUnit) : AlarmUnit :=
  let entering := a.modeTold = .reserve && a.modeInUse != .reserve
  let b := { a with modeInUse := a.modeTold, announce := a.announce - 1 }
  if b.sounding && b.modeInUse = .reserve then
    { b with pulse := if entering then 0 else (b.pulse + 1) % 4 }
  else b

/-- R112, R119: the Section Alarm Unit's work at a round start. -/
def sauRound (s : State) : State := forEach allRefuges refugeReportTick (s.updSau AlarmUnit.round)

end Sys2Proof.Machine
end

