-- ==== Sys2Proof/Machine/Gas.lean ====
section
/-! DEFINITION. The Gas Channel Unit's shared operations (Chapter 4): the stages of a reading (R67 to R71), misses (R72), the
mobile channel (R73, R74), the reports and hand-overs (R75 to R79). -/

namespace Sys2Proof.Machine

/-! ## The stages of a reading (R67 to R71) -/

/-- R67: a calibrated value with its OVER and UNDER flags. -/
structure Calibrated where
  value : Nat
  overRange : Bool
  underRange : Bool
deriving DecidableEq, Repr

/-- R67 step 3: the product over 256, rounded to the nearest whole unit with a tie away from zero. -/
def roundProduct (p : Int) : Int :=
  let m : Int := ((p.natAbs + 128) / 256 : Nat)
  if p < 0 then -m else m

/-- R67: calibration of a raw count with a channel's zero and span, and the clamp to the kind range. -/
def calibrate (kind : GasKind) (zeroCount span raw : Nat) (saturated : Bool) : Calibrated :=
  let e := roundProduct (((raw : Int) - zeroCount) * span)
  { value := min e.toNat kind.maximum
    overRange := decide ((kind.maximum : Int) < e) || raw == 4095 || saturated
    underRange := decide (e < 0) }

/-- R58, R68: a value joins the history, a ring of 8, at its newest end. -/
def pushHistory (h : List Nat) (v : Nat) : List Nat := if h.length < 8 then h ++ [v] else h.drop (h.length - 7) ++ [v]

/-- R68: the average over the newest values within the window, a half rounded up; absent while the history is empty. -/
def averageOf (window : Nat) (h : List Nat) : Option Nat :=
  let n := min window h.length
  if n = 0 then none else some ((2 * (h.drop (h.length - n)).sum + n) / (2 * n))

/-- R69: the rise: the newest value minus the fifth from the newest end, negated for a falling kind. -/
def riseOf (kind : GasKind) (h : List Nat) : Int :=
  if h.length < 5 then 0
  else
    let d : Int := (h.getD (h.length - 1) 0 : Int) - (h.getD (h.length - 5) 0 : Int)
    if kind.rising then d else -d

/-- R69: the rise condition. -/
def riseCondition (limit : Nat) (rise : Int) : Bool := limit != 0 && decide ((limit : Int) ≤ rise)

/-- R70: whether a reading is at-trip. -/
def atTrip (c : ChannelConfig) (v : Calibrated) : Bool :=
  c.kind.worseEq v.value c.tripSet || (v.overRange && c.kind.rising) || (v.underRange && !c.kind.rising)

/-- R70: the confirm counter after a reading. -/
def confirmAfter (c : ChannelConfig) (v : Calibrated) (n : Nat) : Nat := if atTrip c v then satSucc 4 n else 0

/-- R71: the raise target. -/
def raiseTarget (c : ChannelConfig) (confirm avg : Nat) (rise : Int) : GasLevel :=
  if c.confirm ≤ confirm then .trip
  else if c.kind.worseEq avg c.alarmSet || riseCondition c.riseLimit rise then .alarm
  else if c.kind.worseEq avg c.adviseSet then .advise
  else .normal

/-- R71: the clear value of a level; no level lies below NORMAL. -/
def ChannelConfig.clearOf (c : ChannelConfig) : GasLevel → Nat
  | .normal => 0 | .advise => c.adviseClear | .alarm => c.alarmClear | .trip => c.tripClear

/-- The level one step below. -/
def levelBelow : GasLevel → GasLevel
  | .trip => .alarm | .alarm => .advise | _ => .normal

/-- R71: whether the level falls one step from where it stands. -/
def fallsFrom (c : ChannelConfig) (target : GasLevel) (avg : Nat) (rise : Int) (l : GasLevel) : Bool :=
  decide (target.code < l.code) && c.kind.better avg (c.clearOf l) && !(l = .alarm && riseCondition c.riseLimit rise)

/-- R71: the level falls one step at a time; at most `n` steps. -/
def fallLevel (c : ChannelConfig) (target : GasLevel) (avg : Nat) (rise : Int) : Nat → GasLevel → GasLevel
  | 0, l => l
  | n + 1, l => if fallsFrom c target avg rise l then fallLevel c target avg rise n (levelBelow l) else l

/-- R71: the level after a reading. -/
def levelAfter (c : ChannelConfig) (target : GasLevel) (avg : Nat) (rise : Int) (l : GasLevel) : GasLevel :=
  if l.code < target.code then target else fallLevel c target avg rise 3 l

/-- R73: the raise target of the mobile channel stops at ALARM. -/
def capTarget (mobile : Bool) (t : GasLevel) : GasLevel := if mobile && t = .trip then .alarm else t

/-- R72: the first reading in FAULT or NO_DATA returns the channel before its stages run. -/
def Channel.returned (c : Channel) : Channel :=
  if c.status = .ok then c else { c with status := .ok, history := [], average := none, confirm := 0 }

/-- R66, R68 to R71: a calibrated reading runs through the stages. -/
def Channel.read (c : Channel) (f : ChannelConfig) (mobile : Bool) (v : Calibrated) (saturated : Bool) (now : Stamp) : Channel :=
  let r := c.returned
  let h := pushHistory r.history v.value
  let avg := averageOf f.window h
  let rise := riseOf f.kind h
  let confirm := confirmAfter f v r.confirm
  { r with
    warmup := false, miss := 0, stamp := some now, last := some v.value, history := h, average := avg, rise := rise
    overRange := v.overRange, underRange := v.underRange, saturated := saturated, confirm := confirm
    level := levelAfter f (capTarget mobile (raiseTarget f confirm (avg.getD 0) rise)) (avg.getD 0) rise r.level }

/-- R72: a miss of a channel. -/
def Channel.missed (c : Channel) (limit : Nat) (reason : MissReason) : Channel :=
  let n := satSucc 255 c.miss
  { c with
    warmup := false, miss := n, missReason := some reason
    status := if reason = .headFault || limit ≤ n then .fault else c.status }

/-- R74: the mobile channel passes to NO_DATA by silence. -/
def Channel.silenced (c : Channel) : Channel :=
  { c with status := .noData, level := .normal, history := [], average := none, rise := 0, confirm := 0,
           silence := Config.mobileSilenceLimit }

/-! ## Reports and hand-overs (R75 to R78) -/

/-- R182: the reading flags byte. -/
def readingFlags (s : State) (i : Fin 16) : Nat :=
  let c := s.channel i
  bitmap [c.overRange, c.underRange, c.saturated, c.warmup, isCovered s i]

/-- The kind code of a channel, 0 while it is not configured. -/
def Channel.kindCode (c : Channel) : Nat :=
  match c.cfg with
  | some f => f.kind.code
  | none => 0

/-- R75: a change of level or status of a channel is reported; `old` is the record before. -/
def reportChannel (i : Fin 16) (old : Channel) (s : State) : State :=
  let c := s.channel i
  let s1 := if c.level = old.level then s else
    postBoth .levelChange
      (u8 i.val ++ u8 c.kindCode ++ u8 old.level.code ++ u8 c.level.code ++ u8 c.status.code ++ opt16 c.average) s
  let s2 := if c.level = old.level && c.status = old.status then s1 else
    sendTo kLevelChange 0
      (u8 i.val ++ u8 c.kindCode ++ u8 old.level.code ++ u8 c.level.code ++ u8 c.status.code ++ opt16 c.last
        ++ opt16 c.average ++ u8 (readingFlags s1 i) ++ opt8 (c.missReason.map MissReason.code)
        ++ u8 s1.gcu.nodeMethane.code) s1
  if (c.status = .fault) = (old.status = .fault) then s2 else
    postBoth .channelFault
      (u8 i.val ++ u8 c.status.code ++ opt8 (c.missReason.map MissReason.code) ++ u8 c.level.code) s2

/-- R78: what the Section Alarm Unit is handed for a channel; none where it does not take part. -/
def inputOf (c : Channel) : Option ChannelInput :=
  match c.cfg with
  | some f => if c.enabled then some { level := c.level, status := c.status, alertAt := f.alertAt,
                                       evacuateAt := f.evacuateAt, binding := f.binding } else none
  | none => none

/-- R78, R103, R120: a channel is handed to the Section Alarm Unit: gas causes, section level, air event. -/
def handToAlarm (i : Fin 16) (s : State) : State :=
  let old := s.sau.inputs.get i
  let new := inputOf (s.channel i)
  airEvent i old new (sauRecompute (s.updSau fun a => { a with inputs := vset a.inputs i new }))

/-- R66, R75 to R78: the end of an evaluation, or of a command on a channel: the node methane level, the reports, the Trip
Unit, the Section Alarm Unit (log 24). -/
def commitChannel (i : Fin 16) (c : Channel) (s : State) : State :=
  let s1 := recomputeMethane (s.setChannel i c)
  handToAlarm i (tuRecompute (reportChannel i (s.channel i) s1))

/-! ## Evaluations (R66, R72 to R74) -/

/-- R66: a reading of a configured and enabled bus channel. -/
def channelReading (i : Fin 16) (raw : Nat) (saturated : Bool) (s : State) : State :=
  let c := s.channel i
  match c.cfg with
  | some f =>
    match f.poll with
    | some p =>
      if c.enabled then commitChannel i (c.read f false (calibrate f.kind p.zero p.span raw saturated) saturated s.now) s else s
    | none => s
  | none => s

/-- R66, R72: a miss of a configured and enabled bus channel. -/
def channelMiss (i : Fin 16) (reason : MissReason) (s : State) : State :=
  let c := s.channel i
  match c.cfg with
  | some f =>
    match f.poll with
    | some p => if c.enabled then commitChannel i (c.missed p.missLimit reason) s else s
    | none => s
  | none => s

/-- R66: a WARMUP reply of a configured and enabled bus channel. -/
def channelWarmup (i : Fin 16) (s : State) : State :=
  let c := s.channel i
  match c.cfg with
  | some _ => if c.enabled then s.setChannel i { c with warmup := true } else s
  | none => s

/-- R73: the number of the mobile channel. -/
def mobile : Fin 16 := 15

/-- R73: a methane value of a beacon is handed to the Gas Channel Unit. -/
def mobileReading (value : Nat) (s : State) : State :=
  let c := s.channel mobile
  match c.cfg with
  | some f =>
    if c.enabled then
      let v : Calibrated :=
        { value := min value GasKind.ch4.maximum, overRange := decide (GasKind.ch4.maximum < value), underRange := false }
      commitChannel mobile ({ c with silence := 0 }.read f true v false s.now) s
    else s
  | none => s

/-- R74: whether the silence count runs. -/
def silenceRuns (s : State) : Bool :=
  let c := s.channel mobile
  c.cfg.isSome && c.enabled && c.status = .ok

/-- R74: whether the silence count reaches 100 at the next round start. -/
def silenceDue (s : State) : Bool := silenceRuns s && Config.mobileSilenceLimit ≤ (s.channel mobile).silence + 1

/-- R74: a round start's work on the silence count. -/
def mobileTick (s : State) : State :=
  let c := s.channel mobile
  if silenceDue s then commitChannel mobile c.silenced s
  else if silenceRuns s then s.setChannel mobile { c with silence := c.silence + 1 }
  else s

/-! ## Periodic reports (R79) -/

/-- R79: the READING_REPORT payload of a channel. -/
def readingReportBytes (i : Fin 16) (s : State) : Bytes :=
  let c := s.channel i
  let present (x : Option Nat) : Option Nat := if c.status = .noData then none else x
  u8 i.val ++ u8 c.kindCode ++ u8 c.status.code ++ u8 c.level.code ++ opt16 (present c.last) ++ opt16 (present c.average)
    ++ i16 c.rise ++ u8 (readingFlags s i) ++ u8 c.miss ++ u8 s.gcu.nodeMethane.code ++ stampBytes c.stamp

/-- R79: whether a channel's report count reaches its report interval at the next round start. -/
def reportDue (s : State) (i : Fin 16) : Bool :=
  let c := s.channel i
  match c.cfg with
  | some f => c.enabled && f.report != 0 && decide (f.report ≤ c.report + 1)
  | none => false

/-- R79: whether a report of a channel is withheld in RESERVE. -/
def reportWithheld (s : State) (i : Fin 16) : Bool :=
  match (s.channel i).cfg with
  | some f => s.gcu.supplyMode = .reserve && (f.kind = .co2 || f.kind = .airflow)
  | none => false

/-- R79: a round start's work on the report count of a channel. -/
def reportTick (i : Fin 16) (s : State) : State :=
  let c := s.channel i
  if reportDue s i then
    let s1 := s.setChannel i { c with report := 0 }
    if reportWithheld s i then s1 else sendTo kReadingReport 0 (readingReportBytes i s) s1
  else match c.cfg with
    | some f => if c.enabled && f.report != 0 then s.setChannel i { c with report := c.report + 1 } else s
    | none => s

/-- R74, R79: the Gas Channel Unit's work at a round start, beside the polls: the silence count, then the reports in
ascending channel number. -/
def gcuRound (s : State) : State := forEach allChannels reportTick (mobileTick s)

end Sys2Proof.Machine
end

