-- ==== Sys2Proof/Machine/Buses.lean ====
section
/-! DEFINITION. The Sensor Bus Masters' shared operations (Chapter 3): starting and completing transactions (R43 to R45),
release and failure (R46, R47), the poll schedule (R50 to R54), and the classing of completions (R55 to R57). -/

namespace Sys2Proof.Machine

/-- One Sensor Bus Master. -/
def State.bus (s : State) (b : Bus) : BusMaster := s.sbm.get b

/-! ## Classing a completion (R55, R56) -/

/-- R55, R56: the class of a completion, with what a reading or a miss carries. -/
inductive Completion
  | reading (raw : Nat) (saturated : Bool)
  | refuge (f : RefugeFields)
  | warmup
  | miss (reason : MissReason)
deriving DecidableEq, Repr

/-- R44: whether the four bytes of a reply sum to 255. -/
def replyGood (status high low check : Byte) : Bool :=
  (status.toNat + high.toNat + low.toNat + check.toNat) % 256 == 255

/-- R56, R180: the fields of a refuge reply. -/
def refugeFieldsOf (high low : Nat) : RefugeFields :=
  { doorOpen := bitOf high 7, occupants := low % 32, pressed := bitOf high 6, plantFault := bitOf high 5 }

/-- R55, R56: a completion is classed by the first row that applies; `kind` is the kind code the target asks for. -/
def classify (kind : Nat) : BusReply → Completion
  | .silent _ => .miss .noAck
  | .bytes status high low check hold =>
    if 16 < hold then .miss .holdTimeout
    else if !replyGood status high low check then .miss .checkBad
    else if status.toNat / 32 != kind then .miss .kindMismatch
    else if bitOf status.toNat 3 then .miss .headFault
    else if bitOf status.toNat 4 then .warmup
    else if kind = refugeKindCode then .refuge (refugeFieldsOf high.toNat low.toNat)
    else if 4095 < high.toNat * 256 + low.toNat then .miss .range
    else .reading (high.toNat * 256 + low.toNat) (bitOf status.toNat 2)

/-- R43: a completion whose hold, together with the hold total that stood before it, is the transaction's. -/
def heldReply (total : Nat) : BusReply → BusReply
  | .silent h => .silent (total + h)
  | .bytes status high low check h => .bytes status high low check (total + h)

/-- The clock hold of a completion. -/
def replyHold : BusReply → Nat
  | .silent h => h
  | .bytes _ _ _ _ h => h

/-- R42: what the master puts on the bus after the address byte: a stop condition where the head stays silent; otherwise an
acknowledgement of each of the first three bytes, none of the fourth, and a stop condition. -/
def replySigns : BusReply → List BusSign
  | .silent _ => [.stop]
  | .bytes _ _ _ _ _ => [.ack, .ack, .ack, .noAck, .stop]

/-- R43: whether the hold total of a transaction passed 16 ticks before it ended. A silent head is classed by R55's first
row whatever the hold (log 46). -/
def abandoned : BusReply → Bool
  | .silent _ => false
  | .bytes _ _ _ _ h => 16 < h

/-- R55, R56: the kind code a target asks for. -/
def targetKind (s : State) : Target → Nat
  | .chan i => (s.channel i).kindCode
  | .refuge _ => refugeKindCode

/-- R57: a class of completion is handed to the block that owns the target. -/
def handOver (t : Target) (c : Completion) (s : State) : State :=
  match t, c with
  | .chan i, .reading raw sat => channelReading i raw sat s
  | .chan i, .miss reason => channelMiss i reason s
  | .chan i, .warmup => channelWarmup i s
  | .refuge r, .refuge f => if (s.refuge r).state = .unused then s else refugeReading r f s
  | .refuge r, .miss _ => if (s.refuge r).state = .unused then s else refugeMiss r s
  | _, _ => s

/-! ## Transactions (R43, R45) -/

/-- R46: a bus enters RELEASING and sends its first release sequence. -/
def BusMaster.enterReleasing (m : BusMaster) : BusMaster := { m with state := .releasing, release := 1 }

/-- R46: a bus returns to IDLE with its lines high. -/
def BusMaster.toIdle (m : BusMaster) : BusMaster := { m with state := .idle, release := 0, linesHigh := true }

/-- R42, R187: the address byte of a read: the head address in bits 7..1, bit 0 set. -/
def addressByte (addr : Nat) : Byte := BitVec.ofNat 8 (2 * addr + 1)

/-- R42: what the master puts on the bus to start a transaction. A stop condition still owed goes out first: lines found high
say that the clock was let go (log 46). -/
def BusMaster.startSigns (m : BusMaster) (addr : Nat) : List BusSign :=
  (if m.owesStop then [.stop] else []) ++ [.start, .address (addressByte addr)]

/-- R42, R45: an IDLE bus with a pending poll and room in the round samples its lines and starts a transaction, or enters
RELEASING. -/
def BusMaster.start (m : BusMaster) (high : Bool) : BusMaster :=
  if m.state = .idle && m.started < Config.startsPerRound then
    match m.list with
    | [] => m
    | p :: rest =>
      if high then
        { m with linesHigh := true, state := .polling, list := rest, inFlight := some { poll := p, discarded := false },
                 started := m.started + 1, holdTotal := 0, owesStop := false, wire := m.startSigns p.addr }
      else { m with linesHigh := false }.enterReleasing
  else m

/-- R43, R45: a transaction ends: the bus is IDLE again, and the completion is handed over unless R54 discards it. `signs` is
what the master puts on the bus to end it; where that is nothing, a stop condition is owed. -/
def endTransaction (b : Bus) (hold : Nat) (signs : List BusSign) (c : Target → Completion) (s : State) : State :=
  match (s.bus b).inFlight with
  | none => s
  | some f =>
    let s1 := s.updBus b fun m => { m with
      state := .idle, inFlight := none, holdTotal := min 17 hold, owesStop := m.owesStop || signs.isEmpty
      wire := m.wire ++ signs }
    if f.discarded then s1 else handOver f.poll.target (c f.poll.target) s1

/-- R43: the hold total of a transaction in flight passes 16 ticks: the master abandons it. -/
def timeoutTransaction (b : Bus) (s : State) : State := endTransaction b 17 [] (fun _ => .miss .holdTimeout) s

/-- R42, R43, R55: a transaction in flight completes with what the bus brought. -/
def completeTransaction (b : Bus) (reply : BusReply) (s : State) : State :=
  let r := heldReply (s.bus b).holdTotal reply
  if abandoned r then timeoutTransaction b s
  else endTransaction b (replyHold r) (replySigns r) (fun t => classify (targetKind s t) r) s

/-- R43: the head of a transaction in flight holds the clock for a number of ticks, which the hold total gains; past 16 the
transaction is abandoned. -/
def holdClock (b : Bus) (ticks : Nat) (s : State) : State :=
  let total := (s.bus b).holdTotal + ticks
  if (s.bus b).inFlight.isNone then s
  else if 16 < total then timeoutTransaction b s
  else s.updBus b fun m => { m with holdTotal := total }

/-- R43: the head lets go of the clock, and the stop condition that was owed is sent. -/
def BusMaster.letGo (m : BusMaster) : BusMaster :=
  if m.owesStop then { m with owesStop := false, wire := m.wire ++ [.stop] } else m

/-! ## Release and failure (R46, R47) -/

/-- R46: a release sequence finishes and the lines are sampled. -/
def BusMaster.sampleRelease (m : BusMaster) (high : Bool) : BusMaster :=
  if m.state = .releasing then (if high then m.toIdle else { m with linesHigh := false }) else m

/-- R47: polls become BUS_FAILED misses, in order. -/
def failPolls (polls : List Poll) (s : State) : State :=
  forEach polls (fun p t => handOver p.target (.miss .busFailed) t) s

/-- R47: a bus enters FAILED; every pending poll becomes a miss. -/
def failBus (b : Bus) (s : State) : State :=
  let polls := (s.bus b).list
  failPolls polls (s.updBus b fun m => { m with state := .failed, list := [], linesHigh := false })

/-- R46, R47: the release step of a round start, with the lines as sampled. -/
def releaseStep (b : Bus) (high : Bool) (s : State) : State :=
  let m := s.bus b
  match m.state with
  | .releasing =>
    if high then s.updBus b BusMaster.toIdle
    else if 3 ≤ m.release then failBus b s
    else s.updBus b fun m => { m with release := m.release + 1, linesHigh := false }
  | .failed => if high then s.updBus b BusMaster.toIdle else s.updBus b fun m => { m with linesHigh := false }
  | _ => s

/-! ## The poll schedule (R50 to R54) -/

/-- R50: the effective interval of a channel; none while it is never due. -/
def effectiveInterval (mode : SupplyMode) (kind : GasKind) (interval : Nat) : Option Nat :=
  match mode with
  | .mains => some interval
  | .battery => some (2 * interval)
  | .reserve => if kind = .airflow || kind = .co2 then none else some (4 * interval)

/-- R50: the poll of a channel on a bus, if the channel is due. -/
def channelDue (s : State) (b : Bus) (i : Fin 16) : Option Poll :=
  let c := s.channel i
  match c.cfg with
  | some f =>
    match f.poll with
    | some p =>
      match effectiveInterval (s.bus b).modeInUse f.kind p.interval with
      | some n => if c.enabled && p.bus = b && i.val < 15 && (s.tb.running + p.phase) % n == 0 then
          some { target := .chan i, addr := p.addr } else none
      | none => none
    | none => none
  | none => none

/-- R51: the poll of a refuge record on a bus, if the record is due. -/
def refugeDue (s : State) (b : Bus) (r : Fin 4) : Option Poll :=
  match (s.refuge r).head with
  | some (b', a) => if b' = b && (s.tb.running + r.val) % 10 == 0 then some { target := .refuge r, addr := a } else none
  | none => none

/-- R52: the polls due on a bus: channels in ascending number, then refuge records. -/
def duePolls (s : State) (b : Bus) : List Poll :=
  allChannels.filterMap (channelDue s b) ++ allRefuges.filterMap (refugeDue s b)

/-- R52: whether a head address has its place in the list or in flight. -/
def BusMaster.holds (m : BusMaster) (addr : Nat) : Bool :=
  m.list.any (fun p => p.addr == addr) || (match m.inFlight with
    | some f => f.poll.addr == addr
    | none => false)

/-- R52: a due poll joins the list, or is dropped with SKIPPED set. -/
def joinPoll (b : Bus) (p : Poll) (s : State) : State :=
  if (s.bus b).holds p.addr then
    match p.target with
    | .chan i => s.setChannel i { s.channel i with skipped := true }
    | .refuge _ => s
  else s.updBus b fun m => { m with list := m.list ++ [p] }

/-- R47, R52: the polls due on a bus join its list, or are misses at once while it is FAILED. -/
def addDue (b : Bus) (s : State) : State :=
  if (s.bus b).state = .failed then failPolls (duePolls s b) s else forEach (duePolls s b) (joinPoll b) s

/-- R53: whether a poll is of an AIRFLOW or CO2 channel. -/
def reservePoll (s : State) (p : Poll) : Bool :=
  match p.target with
  | .chan i => match (s.channel i).cfg with
    | some f => f.kind = .airflow || f.kind = .co2
    | none => false
  | .refuge _ => false

/-- R53: the mode reported before a round start comes into use; entry to RESERVE removes AIRFLOW and CO2 polls. -/
def applyMode (b : Bus) (s : State) : State :=
  s.updBus b fun m => { m with
    modeInUse := m.modeTold
    list := if m.modeTold = .reserve && m.modeInUse != .reserve then m.list.filter (fun p => !reservePoll s p) else m.list }

/-- R45 to R53: a master's work at a round start. -/
def busRound (b : Bus) (high : Bool) (s : State) : State :=
  addDue b (releaseStep b high ((applyMode b s).updBus b fun m => { m with started := 0 }))

/-- R54: a command takes a target's pending poll from the lists, and discards a transaction in flight for it. -/
def BusMaster.drop (m : BusMaster) (t : Target) : BusMaster :=
  { m with
    list := m.list.filter fun p => p.target != t
    inFlight := m.inFlight.map fun f => if f.poll.target = t then { f with discarded := true } else f }

/-- R54: the same on both buses. -/
def dropPolls (t : Target) (s : State) : State := (s.updBus .one fun m => m.drop t).updBus .two fun m => m.drop t

end Sys2Proof.Machine
end

