-- ==== Sys2Proof/Machine/Trunk.lean ====
section
/-! DEFINITION. The Time Base's shared operations (Chapter 1): judging markers (R6), the trunk state machine (R7 to R11),
adoption (R9, R13), the pending command (R16, R17), the TRUNK_STATE notice (R14); and the taking of a cell 0 (R26, R33, R39). -/

namespace Sys2Proof.Machine

/-! ## Markers (R5, R182) -/

/-- R182: what a marker carries. -/
structure Marker where
  src : Nat
  round : Nat
  lead : Nat
  epoch : Nat
  level : SectionLevel
  flags : MarkerFlags
  hold : Option Nat
deriving DecidableEq, Repr

/-- R182, R183: the fields of a MARKER cell. -/
def markerOf (c : Cell) : Marker :=
  let p := c.payload
  { src := c.src, round := wordAt p 0 % 4096, lead := byteAt p 2, epoch := byteAt p 3, level := sectionLevelOf (byteAt p 4)
    flags := { holdover := bitOf (byteAt p 5) 0, island := bitOf (byteAt p 5) 1 }
    hold := if bitOf (byteAt p 5) 2 then some (byteAt p 6) else none }

/-- R6: whether two tick counts lie within 4 ticks either side. -/
def near (a b : Nat) : Bool := decide (a ≤ b + 4) && decide (b ≤ a + 4)

/-- R6: the round number after another. -/
def nextRound (n : Nat) : Nat := (n + 1) % 4096

/-- R6: whether the marker window of the next round is open. -/
def windowOpen (t : TimeBase) : Bool := near t.phaseAge 256

/-- R10: whether the marker of a round already started in HOLDOVER may still come (log 11). -/
def lateOpen (t : TimeBase) : Bool :=
  match t.lateUntil with
  | some k => t.trunk = .holdover && decide (t.phaseAge ≤ k)
  | none => false

/-- R6: whether a well-formed marker is timed and consistent for the round about to start. -/
def validEarly (t : TimeBase) (m : Marker) : Bool := windowOpen t && m.round == nextRound t.running

/-- R10: whether a well-formed marker is timed and consistent for the round already started. -/
def validLate (t : TimeBase) (m : Marker) : Bool := lateOpen t && m.round == t.running

/-- R6: whether a bad cell is a bad marker. -/
def inWindow (t : TimeBase) : Bool := windowOpen t || lateOpen t

/-! ## TRUNK_STATE (R14) and what a change of trunk state moves (R143) -/

/-- R14: the lead address a TRUNK_STATE notice carries. -/
def noticeLead (t : TimeBase) : Option Nat :=
  match t.trunk with
  | .listen | .join | .setup | .halted => none
  | _ => t.lead

/-- R14: post TRUNK_STATE: new state, state before, lead address, received flags, running count. -/
def postTrunk (before : TrunkState) (s : State) : State :=
  postBoth .trunkState
    (u8 s.tb.trunk.code ++ u8 before.code ++ opt8 (noticeLead s.tb)
      ++ u8 (bitmap [s.tb.flags.holdover, s.tb.flags.island]) ++ u16 s.tb.running) s

/-- R14, R143: what has changed in the Time Base since `old` is announced, and the Call Table Unit acts on a change of
trunk state: TRUNK_STATE is posted before the CALL_STATE of each call it ends (log 47). -/
def trunkChanged (old : TimeBase) (s : State) : State :=
  let new := s.tb
  let s1 :=
    if new.trunk != old.trunk || new.lead != old.lead || (new.trunk = .carry && new.flags != old.flags) then postTrunk old.trunk s
    else s
  if new.trunk = old.trunk then s1
  else match new.trunk with
    | .listen | .join | .islandLead => ctuTrunkLost s1
    | .halted => ctuHalt s1
    | _ => s1

/-! ## Steps of the trunk state machine (R7 to R11) -/

/-- R11: no rejoin run. -/
def noRun : RejoinRun := { count := 0, lead := 0, round := 0, age := 0 }

/-- R11: entry to ISLAND_LEAD. -/
def enterIsland (t : TimeBase) : TimeBase :=
  { t with trunk := .islandLead, lead := some t.address, candidate := none, rejoin := noRun }

/-- R9: entry to HOLDOVER, with a candidate or none. -/
def enterHoldover (t : TimeBase) (c : Option Candidate) : TimeBase :=
  { t with trunk := .holdover, holdoverCnt := 0, candidate := c, lateUntil := none }

/-- R9: a marker is adopted and the node is in CARRY (the epoch is adopted by `adoptEpoch`). -/
def enterCarry (t : TimeBase) (m : Marker) : TimeBase :=
  { t with trunk := .carry, lead := some m.lead, flags := m.flags, candidate := none, rejoin := noRun, lateUntil := none }

/-- R7, R8: a run of the hunt starts at a marker. -/
def startRun (t : TimeBase) (m : Marker) : TimeBase := { t with trunk := .join, joinCnt := 1, runLead := m.lead }

/-- R13, R40, R110: an epoch other than the one held is adopted, clearing or silently; the level is derived when the
marker's own level has been taken (log 9). -/
def adoptEpoch (m : Marker) (clearing : Bool) (s : State) : State :=
  if m.epoch = s.tb.epoch then s
  else
    let s1 := s.updTb fun t => { t with epoch := m.epoch }
    let s2 := s1.updCs fun c => { c with remote := ⟨⟨.normal, 0⟩, ⟨.normal, 0⟩⟩ }
    if clearing then s2.updSau fun a => { a with latch := a.causes.gasEvacuate } else s2

/-- R7: the hunt counts of a round start in LISTEN or JOIN; `quiet` says that OUTBYE showed no carrier throughout. -/
def huntCounts (quiet : Bool) (t : TimeBase) : TimeBase :=
  { t with listenAge := t.listenAge + 1, quietCnt := if quiet then t.quietCnt + 1 else 0 }

/-- R7: whether a hunt limit is reached. -/
def huntOver (t : TimeBase) : Bool :=
  decide (t.params.listenTimeout ≤ t.quietCnt) || decide (t.params.listenTimeout * t.params.noiseFactor ≤ t.listenAge)

/-- R7, R8: at a round start in LISTEN or JOIN, reaching a limit enters ISLAND_LEAD. -/
def huntLimit (t : TimeBase) : TimeBase :=
  if (t.trunk = .listen || t.trunk = .join) && huntOver t then enterIsland t else t

/-- R7, R10: what a round start from own timing does to the trunk state machine. -/
def ownStep (quiet : Bool) (t : TimeBase) : TimeBase :=
  match t.trunk with
  | .listen | .join => huntLimit (huntCounts quiet t)
  | .holdover =>
    let t1 := { t with holdoverCnt := t.holdoverCnt + 1 }
    if t.params.holdoverLimit ≤ t1.holdoverCnt then enterIsland t1 else t1
  | _ => t

/-- R8, R9: what a round start at the close of the marker window does. -/
def closeStep (quiet : Bool) (t : TimeBase) : TimeBase :=
  match t.trunk with
  | .carry => enterHoldover t none
  | .join => huntLimit { huntCounts quiet t with joinCnt := 0 }
  | _ => t

/-! ## The pending trunk command (R16, R17, R168) -/

/-- R184: the code of a trunk command. -/
def TrunkCommandCode : TrunkCommand → Nat
  | .start => 2 | .halt => 3 | .setup => 4

/-- R17: what a trunk command does to the Time Base. -/
def applyCommand (c : TrunkCommand) (t : TimeBase) : TimeBase :=
  match c with
  | .start =>
    { t with trunk := match t.role with
               | .head => .leading
               | .junction => .listen
             quietCnt := 0, listenAge := 0, joinCnt := 0, holdoverCnt := 0, rejoin := noRun, candidate := none
             lateUntil := none
             lead := match t.role with
               | .head => some 0
               | .junction => none }
  | .halt =>
    { t with trunk := .halted, candidate := none, rejoin := noRun, lateUntil := none
             lead := match t.role with
               | .head => t.lead
               | .junction => none }
  | .setup => { t with trunk := .setup }

/-- R168: COMMAND_DONE to the port that issued a trunk command: code, tag, trunk state. -/
def postDone (p : PendingTrunk) (s : State) : State :=
  match p.src.port? with
  | some q => post q .commandDone (u8 (TrunkCommandCode p.cmd) ++ [p.tag] ++ u8 s.tb.trunk.code) s
  | none => s

/-- R14, R17: the end of the trunk work of a round start: a pending command takes the place of the transition (log 12), and
what has changed since `old` is announced, then COMMAND_DONE (log 47). -/
def finishTrunk (old : TimeBase) (s : State) : State :=
  match old.pendingCmd with
  | none => trunkChanged old s
  | some p =>
    let s1 := s.updTb fun t => { applyCommand p.cmd t with pendingCmd := none }
    postDone p (trunkChanged old s1)

/-- R17: the pending command applied from the state in force, at a round start from own timing or at the close of a
window; `step` is the transition it takes the place of. -/
def trunkStep (step : TimeBase → TimeBase) (s : State) : State :=
  match s.tb.pendingCmd with
  | none => finishTrunk s.tb (s.updTb step)
  | some _ => finishTrunk s.tb s

/-! ## Taking a cell 0 (R26, R33, R39) -/

/-- R33: a hold request taken on a line. -/
def takeHold (l : Line) (hold : Option Nat) (s : State) : State :=
  match hold with
  | none => s
  | some 0 => s.updCs fun c => { c with held := c.held.set l 0 }
  | some n => latchInd l .holdReceived (s.updCs fun c => { c with held := c.held.set l n })

/-- R39, R107: the level of a taken cell 0: taken when its epoch is the node's own; EVACUATE sets the latch; the section
level is derived again. -/
def takeLevel (l : Line) (epoch : Nat) (level : SectionLevel) (s : State) : State :=
  if epoch = s.tb.epoch then
    let s1 := s.updCs fun c => { c with remote := c.remote.set l { level := level, age := 0 } }
    sauDerive (s1.updSau fun a => { a with latch := a.latch || level = .evacuate })
  else s

/-- R26: a taken MARKER at the Cell Switch. -/
def takeMarker (m : Marker) (s : State) : State :=
  let s1 := (takeHold .outbye m.hold s).updStatus .outbye fun st => { st with neighbour := some m.src }
  takeLevel .outbye m.epoch m.level s1

/-- R26, R183: a taken UPLINK at the Cell Switch. -/
def takeUplink (c : Cell) (s : State) : State :=
  let p := c.payload
  let flags := byteAt p 2
  let s1 := takeHold .inbye (if bitOf flags 2 then some (byteAt p 3) else none) s
  let s2 := s1.updStatus .inbye fun st => { st with
    neighbour := some c.src, nbTripOut := some (bitOf flags 3), nbMode := some (supplyModeOf (byteAt p 4)) }
  takeLevel .inbye (byteAt p 0) (sectionLevelOf (byteAt p 1)) s2

end Sys2Proof.Machine
end

