-- ==== Sys2Proof/Machine/Round.lean ====
section
/-! DEFINITION. The round start (R1, R2): the per-round work of every block in the order of log 3, the filling of the sixteen
positions of each line (R21, R22), and the events that produce a round start: own timing, the close of the marker window, and
a marker (R6 to R11). -/

namespace Sys2Proof.Machine

/-! ## Lines and remote levels (R36, R39) -/

/-- R36: whether the carrier passed from present to absent in the round just ended without having been noted yet. -/
def carrierPassed (st : LineStatus) : CarrierReport → Bool
  | .throughout => false
  | .partlyGone => !st.lostThisRound
  | _ => st.carrier && !st.lostThisRound

/-- Whether a line shows carrier now. -/
def carrierNow : CarrierReport → Bool
  | .throughout | .partlyNow => true
  | _ => false

/-- R36, R37: LINE_UP of a line is set or cleared from the round just ended, after CARRIER_LOST (log 47). -/
def lineRound (l : Line) (rep : CarrierReport) (s : State) : State :=
  let s1 := if carrierPassed (s.cs.status.get l) rep then latchInd l .carrierLost s else s
  let st := s1.cs.status.get l
  let up := decide (rep = .throughout) && !st.lostThisRound && st.goodCell
  let s2 := s1.updStatus l fun st => { st with
    lineUp := up, carrier := carrierNow rep, lostThisRound := false, goodCell := false }
  if up = st.lineUp then s2 else postLineEvent l s2

/-- R39: whether the remote age of a line reaches 40 at the next round start. -/
def remoteDue (s : State) (l : Line) : Bool := (s.cs.remote.get l).age + 1 = Config.remoteAgeLimit

/-- R39: a round start's work on the remote level and age of a line. -/
def remoteTick (l : Line) (s : State) : State :=
  let r := s.cs.remote.get l
  let age := satSucc Config.remoteAgeLimit r.age
  let level := if age = Config.remoteAgeLimit then SectionLevel.normal else r.level
  let s1 := s.updCs fun c => { c with remote := c.remote.set l { level := level, age := age } }
  if level = r.level then s1 else sauDerive s1

/-- R33: a round start's work on the held count of a line. -/
def heldTick (l : Line) (s : State) : State := s.updCs fun c => { c with held := c.held.set l (c.held.get l - 1) }

/-! ## Flow control (R31) -/

/-- R31, R32: an announcement for the queue of a line is made pending for the cell 0 toward its feeder. -/
def announceFor (l : Line) (n : Nat) (s : State) : State :=
  s.updCs fun c => { c with announce := c.announce.set l.other (some n) }

/-- R31: the holding state of a queue is replaced. -/
def setHolding (l : Line) (h : Holding) (s : State) : State :=
  s.updCs fun c => { c with holding := c.holding.set l h }

/-- R31: the DATA queue of a line is examined against the marks. The period count of a FREE queue is held at 0 (log 45). -/
def examineQueue (l : Line) (s : State) : State :=
  let h := s.cs.holding.get l
  let p := s.cs.holdParams
  let occ := (s.cs.queues.get l).data.length
  if h.holding then
    if occ ≤ p.low then announceFor l 0 (setHolding l { holding := false, period := 0 } s)
    else if h.period ≤ 1 then announceFor l p.length (setHolding l { holding := true, period := p.length } s)
    else setHolding l { holding := true, period := h.period - 1 } s
  else if p.high ≤ occ then announceFor l p.length (setHolding l { holding := true, period := p.length } s)
  else s

/-- R31: whether the period count of a queue reaches 0 above the low mark at the next round start. -/
def periodDue (s : State) (l : Line) : Bool :=
  (s.cs.holding.get l).holding && (s.cs.holding.get l).period ≤ 1 && s.cs.holdParams.low < (s.cs.queues.get l).data.length

/-! ## Filling the positions of a round (R4, R5, R21, R22) -/

/-- R4: whether the node sends on a line. -/
def sendsOn (s : State) (l : Line) : Bool := !s.quiet && !(s.isHead && l = .outbye)

/-- R19, R181: an IDLE cell. Its destination field is a free value (log 6). -/
def idleCell (s : State) : Cell :=
  { kind := kIdle, cls := .alarm, src := s.tb.address, dst := Config.idleDestination.toNat, hop := 0,
    stamp := s.tb.running % 256, payload := [] }

/-- R4: whether position 0 of a line carries a marker or an UPLINK cell. -/
def sendsCellZero (s : State) (l : Line) : Bool :=
  match l with
  | .outbye => true
  | .inbye => s.tb.trunk != .listen && s.tb.trunk != .join

/-- R5: the lead address of a marker sent. -/
def sentLead (t : TimeBase) : Nat :=
  match t.trunk with
  | .leading => 0
  | .islandLead => t.address
  | _ => t.lead.getD 255

/-- R5: the flags of a marker sent. -/
def sentFlags (t : TimeBase) : MarkerFlags :=
  match t.trunk with
  | .carry => t.flags
  | .holdover => { holdover := true, island := t.flags.island }
  | .islandLead => { holdover := false, island := true }
  | _ => { holdover := false, island := false }

/-- R22: the marker of a round. -/
def markerCell (s : State) : Cell :=
  let hold := s.cs.announce.inbye
  buildCell kMarker 63
    (u16 s.tb.running ++ u8 (sentLead s.tb) ++ u8 s.tb.epoch ++ u8 s.sau.sentInbye.code
      ++ u8 (bitmap [(sentFlags s.tb).holdover, (sentFlags s.tb).island, hold.isSome]) ++ u8 (hold.getD 0)) s

/-- R22: the UPLINK cell of a round. -/
def uplinkCell (s : State) : Cell :=
  let hold := s.cs.announce.outbye
  buildCell kUplink 63
    (u8 s.tb.epoch ++ u8 s.sau.sentOutbye.code ++ u8 (bitmap [false, false, hold.isSome, s.tripOut]) ++ u8 (hold.getD 0)
      ++ u8 s.cs.supplyMode.code) s

/-- R21, R22: the cell 0 of a line; a pending announcement is removed when the cell 0 carrying it is built. -/
def cellZero (l : Line) (s : State) : Cell × State :=
  if sendsCellZero s l then
    (match l with
      | .outbye => uplinkCell s
      | .inbye => markerCell s,
     s.updCs fun c => { c with announce := c.announce.set l none })
  else (idleCell s, s)

/-- R21: the sixteen positions: cell 0, CALL cells, SIGNAL cells, DATA cells unless held, IDLE cells. -/
def fillLine (l : Line) (held : Bool) (s : State) : State :=
  if sendsOn s l then
    let z := cellZero l s
    let v := callCells l allCalls z.2
    let room := 15 - v.1.length
    let q := v.2.cs.queues.get l
    let signal := q.signal.take room
    let data := if held then [] else q.data.take (room - signal.length)
    let used := z.1 :: v.1.take 15 ++ signal ++ data
    let s1 := v.2.updQueues l fun q => { signal := q.signal.drop signal.length, data := q.data.drop data.length }
    s1.updCs fun c => { c with sent := c.sent.set l (used ++ List.replicate (16 - used.length) (idleCell s1)) }
  else s.updCs fun c => { c with sent := c.sent.set l [] }

/-- R21, R25: the cells built by the actions of a round start join their queues once its positions are filled. -/
def releaseStaged (s : State) : State :=
  let cells := s.cs.staging.getD []
  forEach cells (fun p t => joinLocal p.1 p.2 t) (s.updCs fun c => { c with staging := none })

/-! ## Supply (R98, R99, R101) -/

/-- R101: a change of supply mode is posted and handed to the blocks. -/
def supplyChange (new : SupplyMode) (s : State) : State :=
  let before := s.tu.supply.mode
  let s1 := s.updTu fun u => { u with supply := u.supply.enterMode new }
  let s2 := postBoth .supplyChange (u8 new.code ++ u8 before.code ++ u16 s1.tu.supply.lastBattery ++ u16 s1.tb.running) s1
  let s3 := tuRecompute s2
  let s4 := (s3.updBus .one fun m => { m with modeTold := new }).updBus .two fun m => { m with modeTold := new }
  let s5 := ctuSupplyMode new (s4.updGcu fun g => { g with supplyMode := new })
  (s5.updCs fun c => { c with supplyMode := new }).updSau fun a => { a with modeTold := new }

/-- R98, R99: a sample, and the change of mode it may cause. -/
def supplySample (mains : Bool) (battery : Nat) (s : State) : State :=
  let s1 := s.updTu fun u => { u with supply := u.supply.sample mains battery }
  match s1.tu.supply.change with
  | some m => supplyChange m s1
  | none => s1

/-! ## The round start (R1, log 3) -/

/-- R1: a round starts: running count, tick 0, phase. -/
def openRound (running : Nat) (late : Option Nat) (s : State) : State :=
  s.updTb fun t => { t with running := running, tick := 0, phaseAge := 0, lateUntil := late }

/-- The counts of the Section Alarm Unit and of the block's members run first, as they stood before the round start: a count
that the rest of the round start loads runs from the next one (00_scope.md, log 3). -/
def countWork (s : State) : State := membersRound (sauRound s)

/-- The work of the lines and of the Cell Switch before the cells of a round are placed: LINE_UP, held counts, remote ages,
and the marker that produced the round start, if one did. The OUTBYE age, which a marker of the node's own epoch sets to 0,
does not gain one first (log 45); nor does either age where the marker brought a new epoch, `renewed`, which has set both to
0 (R40). -/
def lineWork (smp : Samples) (mk : Option Marker) (renewed : Bool) (s : State) : State :=
  let s1 := bothLines (fun l => lineRound l (smp.carrier.get l)) s
  let s2 := bothLines heldTick s1
  match mk with
  | none => remoteTick .inbye (remoteTick .outbye s2)
  | some m =>
    let s3 := if m.epoch = s2.tb.epoch then s2 else remoteTick .outbye s2
    takeMarker m (if renewed then s3 else remoteTick .inbye s3)

/-- The work of the field blocks at a round start. -/
def fieldWork (smp : Samples) (s : State) : State :=
  let s1 := busRound .two smp.busHigh.two (busRound .one smp.busHigh.one s)
  let s2 := overrideTick (supervisionTick (gcuRound s1))
  vuRound (ctuRound (supplySample smp.mains smp.battery s2))

/-- R21, R31: the DATA queues are examined and the positions of both lines filled; `held` says which lines were held. -/
def fillWork (held : PerLine Bool) (s : State) : State :=
  bothLines (fun l => fillLine l (held.get l)) (bothLines examineQueue s)

/-- The work of a round start, after its running count is set: `trunk` is the Time Base's own step, `mk` the marker that
produced the round start. -/
def roundWork (smp : Samples) (mk : Option Marker) (trunk : State → State) (s : State) : State :=
  let s1 := trunk (countWork (s.updCs fun c => { c with staging := some [] }))
  let held : PerLine Bool := ⟨0 < s1.cs.held.outbye, 0 < s1.cs.held.inbye⟩
  releaseStaged (fillWork held (fieldWork smp (lineWork smp mk (s1.tb.epoch != s.tb.epoch) s1)))

/-- R2: whether the round starts of a trunk state come from own timing. -/
def ownTimed (t : TimeBase) : Bool :=
  match t.trunk with
  | .carry => false
  | .join => t.joinCnt == 0
  | _ => true

/-- R7: whether OUTBYE showed no carrier throughout the round just ended. -/
def quietRound (smp : Samples) : Bool := smp.carrier.outbye = .absent

/-- R1, R2, R9: a round start from own timing, 256 ticks after the last; where the expected tick 0 has already passed, at
once (log 1, log 10, log 11, log 45). -/
def ownRound (smp : Samples) (s : State) : State :=
  if ownTimed s.tb then
    let s1 := advanceTicks (256 - s.tb.phaseAge) s
    let late := if s.tb.trunk = .holdover && s1.tb.phaseAge ≤ 260 then some (260 - s1.tb.phaseAge) else none
    roundWork smp none (trunkStep (ownStep (quietRound smp))) (openRound (nextRound s1.tb.running) late s1)
  else s

/-- R8, R9: the marker window closes with no valid marker taken: a round start at the close. -/
def closeWindow (smp : Samples) (s : State) : State :=
  if ownTimed s.tb then s
  else
    let s1 := advanceTicks (260 - s.tb.phaseAge) s
    roundWork smp none (trunkStep (closeStep (quietRound smp))) (openRound (nextRound s1.tb.running) none s1)

/-! ## Markers received (R6 to R11) -/

/-- R2: a marker produces a round start; `step` is what it does to the trunk state machine and the epoch. -/
def markerRound (smp : Samples) (m : Marker) (step : State → State) (s : State) : State :=
  roundWork smp (some m) (fun t => finishTrunk s.tb (step t)) (openRound m.round none s)

/-- R9, R13: a marker is adopted and the node is in CARRY; `clearing` is the kind of a change of epoch. -/
def adoptMarker (m : Marker) (clearing : Bool) (s : State) : State :=
  adoptEpoch m clearing (s.updTb fun t => enterCarry t m)

/-- R7, R8: a marker starts a run of the hunt. -/
def huntMarker (smp : Samples) (m : Marker) (s : State) : State :=
  markerRound smp m (fun t => t.updTb fun b => huntLimit (startRun (huntCounts (quietRound smp) b) m)) s

/-- R8: the hunt counts and the join count as a valid marker of the run leaves them. -/
def joinCounts (quiet : Bool) (t : TimeBase) : TimeBase := { huntCounts quiet t with joinCnt := t.joinCnt + 1 }

/-- R8: a marker in JOIN. A hunt limit reached at the round start goes before the join count. -/
def joinMarker (smp : Samples) (m : Marker) (s : State) : State :=
  if s.tb.joinCnt != 0 && validEarly s.tb m && m.lead = s.tb.runLead then
    let counts := joinCounts (quietRound smp)
    if s.tb.params.joinCount ≤ s.tb.joinCnt + 1 && !huntOver (counts s.tb) then
      markerRound smp m (fun t => adoptMarker m false (t.updTb counts)) s
    else markerRound smp m (fun t => t.updTb fun b => huntLimit (counts b)) s
  else huntMarker smp m s

/-- R9: a marker in CARRY. A stray one's TRUNK_STATE is posted before what its hold request and level bring (log 47). -/
def carryMarker (smp : Samples) (m : Marker) (s : State) : State :=
  if validEarly s.tb m then markerRound smp m (adoptMarker m (s.tb.lead = some m.lead)) s
  else takeMarker m (trunkChanged s.tb (s.updTb fun t => enterHoldover t (some { round := m.round, age := 0 })))

/-- R10: whether a marker confirms the candidate. -/
def confirms (t : TimeBase) (m : Marker) : Bool :=
  match t.candidate with
  | some c => near c.age 256 && m.round == nextRound c.round
  | none => false

/-- R10: a marker in HOLDOVER. One that is adopted with a round start of its own goes before the holdover limit due at that round
start: the node enters CARRY and not ISLAND_LEAD (log 13). -/
def holdoverMarker (smp : Samples) (m : Marker) (s : State) : State :=
  let clearing : Bool := s.tb.lead = some m.lead
  if validEarly s.tb m then markerRound smp m (adoptMarker m clearing) s
  else if validLate s.tb m then
    takeMarker m (trunkChanged s.tb (adoptMarker m clearing (s.updTb fun t => { t with phaseAge := 0 })))
  else if confirms s.tb m then markerRound smp m (adoptMarker m clearing) s
  else takeMarker m (s.updTb fun t => { t with candidate := some { round := m.round, age := 0 } })

/-- R11: whether a marker extends the rejoin run. -/
def extendsRun (t : TimeBase) (m : Marker) : Bool :=
  t.rejoin.count != 0 && near t.rejoin.age 256 && m.round == nextRound t.rejoin.round && m.lead == t.rejoin.lead

/-- R11: a marker in ISLAND_LEAD. -/
def islandMarker (smp : Samples) (m : Marker) (s : State) : State :=
  let n := if extendsRun s.tb m then s.tb.rejoin.count + 1 else 1
  if extendsRun s.tb m && s.tb.params.joinCount ≤ n then markerRound smp m (adoptMarker m false) s
  else takeMarker m (s.updTb fun t => { t with rejoin := { count := n, lead := m.lead, round := m.round, age := 0 } })

/-- R6: a well-formed marker, by the trunk state. -/
def markerEvent (smp : Samples) (m : Marker) (s : State) : State :=
  match s.tb.trunk with
  | .setup | .halted | .leading => takeMarker m s
  | .listen => huntMarker smp m s
  | .join => joinMarker smp m s
  | .carry => carryMarker smp m s
  | .holdover => holdoverMarker smp m s
  | .islandLead => islandMarker smp m s

/-- R6, R8, R9, R11: a cell with a bad CRC in the cell-0 position of OUTBYE, by the trunk state. -/
def badMarker (s : State) : State :=
  let t := s.tb
  match t.trunk with
  | .carry => if inWindow t then trunkChanged t (s.updTb fun t => enterHoldover t none) else s
  | .join => if inWindow t then s.updTb fun t => { t with joinCnt := 0 } else s
  | .islandLead => if near t.rejoin.age 256 then s.updTb fun t => { t with rejoin := noRun } else s
  | _ => s

/-- R36: a cell with a good CRC came on a line. -/
def markGood (l : Line) (s : State) : State := s.updStatus l fun st => { st with goodCell := true }

/-- R26 to R28: a cell with a bad CRC: CRC_ERRORS is latched, and unless it is taken for an IDLE cell, by a kind code of 0
(log 27), it counts as filtered. -/
def badCell (l : Line) (c : Cell) (s : State) : State :=
  let s1 := latchInd l .crcErrors s
  if c.kind = kIdle then s1 else addFiltered l s1

/-- R6, R26: a cell received in the cell-0 position of OUTBYE. At a bad one the LINE_EVENT of CRC_ERRORS is posted before the
TRUNK_STATE of the entry to HOLDOVER (log 47). -/
def cellZeroOutbye (raw : Bytes) (smp : Samples) (s : State) : State :=
  let c := decodeCell raw
  if s.isHead then s
  else if !crcGood raw then badMarker (badCell .outbye c s)
  else if c.kind == kIdle then markGood .outbye s
  else if c.kind == kMarker && rawLength raw == 7 && (markerOf c).lead < s.tb.address then
    markGood .outbye (markerEvent smp (markerOf c) s)
  else addFiltered .outbye (markGood .outbye s)

/-- R26: a cell received in the cell-0 position of INBYE. -/
def cellZeroInbye (raw : Bytes) (s : State) : State :=
  let c := decodeCell raw
  if !crcGood raw then badCell .inbye c s
  else if c.kind == kIdle then markGood .inbye s
  else if c.kind == kUplink && rawLength raw == 5 then takeUplink c (markGood .inbye s)
  else addFiltered .inbye (markGood .inbye s)

/-! ## Timed events of the trunk (R7, R10, R11) -/

/-- R7: whether OUTBYE has shown no carrier so far in the round in progress. -/
def quietNow (s : State) : Bool := !s.cs.status.outbye.carrier && !s.cs.status.outbye.lostThisRound

/-- R7: whether a hunt limit is reached at the next round start, the carrier of OUTBYE staying as it is. -/
def listenDue (s : State) : Bool :=
  (s.tb.trunk = .listen || s.tb.trunk = .join) && huntOver (huntCounts (quietNow s) s.tb)

/-- R10: whether the holdover limit is reached at the next round start. -/
def holdoverDue (s : State) : Bool := s.tb.trunk = .holdover && s.tb.params.holdoverLimit ≤ s.tb.holdoverCnt + 1

/-- R10: whether the window of the candidate has passed. -/
def candidateDue (s : State) : Bool :=
  match s.tb.candidate with
  | some c => s.tb.trunk = .holdover && 260 ≤ c.age
  | none => false

/-- R11: whether the window for the next marker of the rejoin run has passed. -/
def runLapseDue (s : State) : Bool := s.tb.trunk = .islandLead && s.tb.rejoin.count != 0 && 260 ≤ s.tb.rejoin.age

end Sys2Proof.Machine
end

