-- ==== Sys2Proof/Machine/PortsTrunk.lean ====
section
/-! DEFINITION. The port commands of the Time Base and the Cell Switch (Chapters 1 and 2), and what every port command
shares: rights (R171), parameter lengths (R184) and pages (R185). Each command is a `do…` on states, which its arm of exec and
the record dispatcher of Machine/Records.lean both use. -/

namespace Sys2Proof.Machine

/-- What a command does once its right is granted: the state after it, and the answer. -/
abbrev Body := State → State × Answer

/-- The outcome of a command of this model. -/
abbrev Result := Host.Outcome State Fault Refusal

/-- R171: a refusal; nothing changes. -/
def refuse (c : RefusalCause) : Body := fun s => (s, refused c)

/-- R184: a parameter length other than the fields require is refused with BAD_PARAM. -/
def sized (n : Nat) (params : Bytes) (body : Body) : Body := if params.length = n then body else refuse .badParam

/-- R185: a read with `n` parameter bytes and a page byte that may be left out. -/
def paged (n : Nat) (params : Bytes) (body : Nat → Body) : Body :=
  if params.length = n then body 0
  else if params.length = n + 1 then body (byteAt params n)
  else refuse .badParam

/-! ## Rights (R171) -/

/-- R171: SP only. -/
def spOnly (src : Source) : Bool := src = .sp
/-- R171: CP only. -/
def cpOnly (src : Source) : Bool := src = .cp
/-- R171: SURFACE only. -/
def surfaceOnly (src : Source) : Bool := src = .surface
/-- R171: SP and SURFACE. -/
def spSurface (src : Source) : Bool := src != .cp
/-- R171: CP and SURFACE. -/
def cpSurface (src : Source) : Bool := src != .sp
/-- R171: SP and CP. -/
def spCp (src : Source) : Bool := src != .surface

/-! ## Trunk commands (R15 to R17) -/

/-- R15: the five trunk parameters, clamped. -/
def clampTrunk (p : Bytes) : TrunkParams :=
  { joinCount := clamp 2 32 (byteAt p 0), holdoverLimit := clamp 4 400 (wordAt p 1), listenTimeout := clamp 20 2000 (wordAt p 3),
    noiseFactor := clamp 1 16 (byteAt p 5), staleLimit := clamp 10 200 (byteAt p 6) }

/-- R15: the five trunk parameters as TRUNK_CONFIGURE carries and answers them. -/
def trunkParamBytes (p : TrunkParams) : Bytes :=
  u8 p.joinCount ++ u16 p.holdoverLimit ++ u16 p.listenTimeout ++ u8 p.noiseFactor ++ u8 p.staleLimit

/-- R15: TRUNK_CONFIGURE. -/
def doTrunkConfigure (src : Source) (tag : Byte) (params : Bytes) (s : State) : State :=
  command src tag params (cpSurface src) (sized 7 params fun s =>
    if s.tb.pendingCmd.isSome then refuse .busy s
    else if s.tb.trunk != .setup then refuse .wrongState s
    else (s.updTb fun t => { t with params := clampTrunk params }, done (trunkParamBytes (clampTrunk params)))) s

/-- R16: whether a trunk state command is taken in the state in force. -/
def trunkTaken (c : TrunkCommand) (t : TimeBase) : Bool :=
  match c with
  | .start => (t.trunk = .setup && !t.addressInvalid) || t.trunk = .halted
  | .halt => t.trunk != .setup && t.trunk != .halted
  | .setup => t.trunk = .halted

/-- R16: a trunk state command becomes the pending trunk command. -/
def trunkCommand (c : TrunkCommand) (src : Source) (tag : Byte) (params : Bytes) (s : State) : State :=
  command src tag params (cpSurface src) (sized 0 params fun s =>
    if s.tb.pendingCmd.isSome then refuse .busy s
    else if !trunkTaken c s.tb then refuse .wrongState s
    else (s.updTb fun t => { t with pendingCmd := some { cmd := c, src := src, tag := tag } }, accepted [])) s

/-- R16: TRUNK_START. -/
def doTrunkStart (src : Source) (tag : Byte) (params : Bytes) (s : State) : State := trunkCommand .start src tag params s

/-- R16: TRUNK_HALT. -/
def doTrunkHalt (src : Source) (tag : Byte) (params : Bytes) (s : State) : State := trunkCommand .halt src tag params s

/-- R16: TRUNK_SETUP. -/
def doTrunkSetup (src : Source) (tag : Byte) (params : Bytes) (s : State) : State := trunkCommand .setup src tag params s

/-! ## Filter and flow control (R29, R32) -/

/-- R29: a drop set as a byte. -/
def DropSet.byte (d : DropSet) : Nat := bitmap [d.kindUnknown, d.hopExceeded, d.roundStale]

/-- R29: the drop set of a byte. -/
def dropSetOf (n : Nat) : DropSet := { kindUnknown := bitOf n 0, hopExceeded := bitOf n 1, roundStale := bitOf n 2 }

/-- The line of a code. -/
def lineOf : Nat → Option Line
  | 0 => some .outbye | 1 => some .inbye | _ => none

/-- R29: FILTER_SET. -/
def doFilterSet (src : Source) (tag : Byte) (params : Bytes) (s : State) : State :=
  command src tag params (cpOnly src) (sized 2 params fun s =>
    match lineOf (byteAt params 0) with
    | some l =>
      if 7 < byteAt params 1 then refuse .badParam s
      else (s.updCs fun c => { c with dropSet := c.dropSet.set l (dropSetOf (byteAt params 1)) },
            done (u8 (dropSetOf (byteAt params 1)).byte))
    | none => refuse .badParam s) s

/-- R32: the three flow-control parameters, clamped. -/
def clampHold (p : Bytes) : HoldParams :=
  let high := clamp 8 47 (byteAt p 0)
  { high := high, low := clamp 0 (high - 4) (byteAt p 1), length := clamp 1 255 (byteAt p 2) }

/-- R32: HOLD_CONFIGURE. -/
def doHoldConfigure (src : Source) (tag : Byte) (params : Bytes) (s : State) : State :=
  command src tag params (cpOnly src) (sized 3 params fun s =>
    let p := clampHold params
    (s.updCs fun c => { c with holdParams := p }, done (u8 p.high ++ u8 p.low ++ u8 p.length))) s

/-! ## Delivery queues, line status, messages (R35, R38, R41) -/

/-- R35: the oldest cell of a delivery queue is removed and answered, with the number that remain. -/
def takeCell (safety : Bool) : Body := fun s =>
  match deliveryQueue safety s with
  | [] => (s, done (u8 0))
  | c :: rest => (setDeliveryQueue safety rest s, done (cellHeader c ++ c.payload ++ u8 rest.length))

/-- R35, R166, R171: CELL_TAKE; the queue it names is tested before the right. Safety is 0, General is 1. -/
def doCellTake (src : Source) (tag : Byte) (params : Bytes) (s : State) : State :=
  if params.length = 0 || 1 < byteAt params 0 then command src tag params true (refuse .badParam) s
  else
    let safety := byteAt params 0 == 0
    command src tag params (src = if safety then .sp else .cp) (sized 1 params (takeCell safety)) s

/-- R38: what LINE_STATUS_READ returns of a line; TRIP_OUT energised is sent as 1, as in the UPLINK flag, and the
period count of a FREE DATA queue as 0 (log 45). -/
def lineStatusBytes (l : Line) (s : State) : Bytes :=
  let st := s.cs.status.get l
  let q := s.cs.queues.get l
  let h := s.cs.holding.get l
  uFlag st.lineUp ++ u8 st.indBitmap ++ u8 st.filtered ++ opt8 st.neighbour
    ++ (match l with
        | .outbye => []
        | .inbye => opt8 (st.nbTripOut.map flag) ++ opt8 (st.nbMode.map SupplyMode.code))
    ++ u8 q.signal.length ++ u8 q.data.length ++ uFlag h.holding ++ u8 h.period ++ u8 (s.cs.held.get l)
    ++ u8 (s.cs.dropSet.get l).byte ++ u8 (s.cs.remote.get l).level.code

/-- R38: the latched indications and the filtered count of a line are cleared. -/
def clearLine (l : Line) (s : State) : State :=
  s.updStatus l fun st => { st with carrierLost := false, crcErrors := false, signalLost := false, dataDropped := false,
                                    holdReceived := false, deliveryOverflow := false, filtered := 0 }

/-- R38: the lines a LINE_STATUS_READ names: OUTBYE 0, INBYE 1, both 2. -/
def linesOf : Nat → Option (List Line)
  | 0 => some [.outbye] | 1 => some [.inbye] | 2 => some [.outbye, .inbye] | _ => none

/-- R38, R185: LINE_STATUS_READ. -/
def doLineStatusRead (src : Source) (tag : Byte) (params : Bytes) (s : State) : State :=
  command src tag params true (paged 1 params fun page s =>
    match linesOf (byteAt params 0) with
    | some ls =>
      (if page = 0 then forEach ls clearLine s else s,
       done (pageOf src page (ls.flatMap fun l => lineStatusBytes l s)))
    | none => refuse .badParam s) s

/-- R41: MESSAGE_SEND. A destination that is this node, node 0 at any head among them (log 44), is BAD_PARAM. -/
def doMessageSend (src : Source) (tag : Byte) (params : Bytes) (s : State) : State :=
  command src tag params (cpOnly src) (fun s =>
    let dst := byteAt params 0
    let l := onwardLine dst s
    if params.length = 0 || 63 ≤ dst || ownDest dst s || 25 < params.length then refuse .badParam s
    else if s.cs.supplyMode = .reserve then refuse .wrongState s
    else if Config.dataCapacity ≤ (s.cs.queues.get l).data.length then refuse .noCells s
    else
      let s1 := sendTo kMessage dst (params.drop 1) s
      (s1, done (u8 (s1.cs.queues.get l).data.length))) s

/-! ## The arms of exec -/

def execTrunkConfigure (src : Source) (tag : Byte) (params : Bytes) (s : State) : Result := .next (doTrunkConfigure src tag params s)
def execTrunkStart (src : Source) (tag : Byte) (params : Bytes) (s : State) : Result := .next (doTrunkStart src tag params s)
def execTrunkHalt (src : Source) (tag : Byte) (params : Bytes) (s : State) : Result := .next (doTrunkHalt src tag params s)
def execTrunkSetup (src : Source) (tag : Byte) (params : Bytes) (s : State) : Result := .next (doTrunkSetup src tag params s)
def execFilterSet (src : Source) (tag : Byte) (params : Bytes) (s : State) : Result := .next (doFilterSet src tag params s)
def execHoldConfigure (src : Source) (tag : Byte) (params : Bytes) (s : State) : Result := .next (doHoldConfigure src tag params s)
def execCellTake (src : Source) (tag : Byte) (params : Bytes) (s : State) : Result := .next (doCellTake src tag params s)
def execLineStatusRead (src : Source) (tag : Byte) (params : Bytes) (s : State) : Result := .next (doLineStatusRead src tag params s)
def execMessageSend (src : Source) (tag : Byte) (params : Bytes) (s : State) : Result := .next (doMessageSend src tag params s)

end Sys2Proof.Machine
end

