-- ==== Sys2Proof/Machine/PortsGas.lean ====
section
/-! DEFINITION. The port commands of the Sensor Bus Masters and the Gas Channel Unit (R48, R59 to R65). -/

namespace Sys2Proof.Machine

/-- The bus of a number. -/
def busOf : Nat → Option Bus
  | 1 => some .one | 2 => some .two | _ => none

/-- R48: BUS_RELEASE's effect on a bus; `high` says whether both lines are high after the release sequence (log 16). -/
def releaseBus (b : Bus) (high : Bool) : Body := fun s =>
  let m := s.bus b
  match m.state with
  | .failed =>
    let s1 := s.updBus b fun m => m.enterReleasing.sampleRelease high
    (s1, done (u8 (s1.bus b).state.code))
  | .releasing => (s, done (u8 m.state.code ++ u8 m.release))
  | _ => refuse .wrongState s

/-- R48: BUS_RELEASE. -/
def doBusRelease (src : Source) (tag : Byte) (params : Bytes) (high : Bool) (s : State) : State :=
  command src tag params (spCp src) (sized 1 params fun s =>
    match busOf (byteAt params 0) with
    | some b => releaseBus b high s
    | none => refuse .badParam s) s

/-! ## CHANNEL_CONFIGURE (R59 to R62) -/

/-- The channel of a number. -/
def channelOf (n : Nat) : Option (Fin 16) := if h : n < 16 then some ⟨n, h⟩ else none

/-- R59: a window rounded down to 1, 2, 4 or 8. -/
def roundWindow (n : Nat) : Nat := if 8 ≤ n then 8 else if 4 ≤ n then 4 else if 2 ≤ n then 2 else 1

/-- R59: the default miss limit and its clamp. -/
def clampMiss (n : Nat) : Nat := if n = 0 then 3 else min 8 n

/-- R59: a refuge binding: none 0, refuge r r + 1 (log 37); the outer option is BAD_PARAM. -/
def bindingOf (n : Nat) : Option (Option (Fin 4)) :=
  if n = 0 then some none else if h : n - 1 < 4 then some (some ⟨n - 1, h⟩) else none

/-- R59, R61: the poll fields of a bus channel. -/
def pollConfigOf (p : Bytes) (b : Bus) : PollConfig :=
  let interval := clamp 1 64 (byteAt p 9)
  { bus := b, addr := byteAt p 3, zero := clamp 0 4095 (wordAt p 4), span := clamp 1 65535 (wordAt p 6),
    interval := interval, phase := byteAt p 10 % interval, missLimit := clampMiss (byteAt p 25) }

/-- R59 to R61: the configuration a CHANNEL_CONFIGURE gives a channel, after clamping; none where R59 refuses a field. -/
def configOf (ch : Fin 16) (p : Bytes) : Option ChannelConfig :=
  match gasKindOf (byteAt p 1), bindingOf (byteAt p 29), alertAtOf (byteAt p 30), evacuateAtOf (byteAt p 31) with
  | some kind, some binding, some alertAt, some evacuateAt =>
    let poll : Option (Option PollConfig) :=
      if ch = mobile then some none
      else match busOf (byteAt p 2) with
        | some b => if 1 ≤ byteAt p 3 && byteAt p 3 ≤ 127 then some (some (pollConfigOf p b)) else none
        | none => none
    match poll with
    | some poll =>
      some
        { kind := kind, poll := poll, window := roundWindow (byteAt p 8), report := byteAt p 11
          adviseSet := min kind.maximum (wordAt p 12), alarmSet := min kind.maximum (wordAt p 14)
          tripSet := min kind.maximum (wordAt p 16), adviseClear := min kind.maximum (wordAt p 18)
          alarmClear := min kind.maximum (wordAt p 20), tripClear := min kind.maximum (wordAt p 22)
          confirm := clamp 1 4 (byteAt p 24)
          failSafe := ch != mobile && bitOf (byteAt p 26) 0, vote := ch != mobile && bitOf (byteAt p 26) 1
          riseLimit := min 1000 (wordAt p 27), binding := binding, alertAt := alertAt, evacuateAt := evacuateAt }
    | none => none
  | _, _, _, _ => none

/-- R60 cases 3 and 4: the set values are in order, and no clear value is worse than its set value. -/
def ordered (c : ChannelConfig) : Bool :=
  !c.kind.worse c.adviseSet c.alarmSet && !c.kind.worse c.alarmSet c.tripSet
    && !c.kind.worse c.adviseClear c.adviseSet && !c.kind.worse c.alarmClear c.alarmSet && !c.kind.worse c.tripClear c.tripSet

/-- R59, R62: a configuration as CHANNEL_CONFIGURE and CHANNEL_READ answer it, without the channel; the fields that
channel 15 does not store are absent. -/
def configBytes (c : ChannelConfig) : Bytes :=
  u8 c.kind.code
    ++ (match c.poll with
        | some p => u8 (match p.bus with
            | .one => 1
            | .two => 2) ++ u8 p.addr ++ u16 p.zero ++ u16 p.span
        | none => u8 255 ++ u8 255 ++ u16 65535 ++ u16 65535)
    ++ u8 c.window ++ opt8 (c.poll.map PollConfig.interval) ++ opt8 (c.poll.map PollConfig.phase) ++ u8 c.report
    ++ u16 c.adviseSet ++ u16 c.alarmSet ++ u16 c.tripSet ++ u16 c.adviseClear ++ u16 c.alarmClear ++ u16 c.tripClear
    ++ u8 c.confirm ++ opt8 (c.poll.map PollConfig.missLimit) ++ u8 (bitmap [c.failSafe, c.vote]) ++ u16 c.riseLimit
    ++ u8 (match c.binding with
        | none => 0
        | some r => r.val + 1) ++ u8 c.alertAt.code ++ u8 c.evacuateAt.code

/-- R62: the record after an accepted CHANNEL_CONFIGURE. -/
def Channel.configured (c : Channel) (f : ChannelConfig) : Channel := { Channel.reset with enabled := c.enabled, cfg := some f }

/-- R60, R62: CHANNEL_CONFIGURE once its parameters have their length; the answer begins with the channel (log 45). -/
def configureChannel (params : Bytes) : Body := fun s =>
  match channelOf (byteAt params 0) with
  | none => refuse .badParam s
  | some i =>
    match configOf i params with
    | none => refuse .badParam s
    | some f =>
      if (i = mobile && f.kind != .ch4) || !ordered f then refuse .badParam s
      else if coverageLost s i ((s.channel i).configured f) then refuse .coverage s
      else (commitChannel i ((s.channel i).configured f) (dropPolls (.chan i) s), done (u8 i.val ++ configBytes f))

/-- R62: CHANNEL_CONFIGURE. -/
def doChannelConfigure (src : Source) (tag : Byte) (params : Bytes) (s : State) : State :=
  command src tag params (spOnly src) (sized 32 params (configureChannel params)) s

/-! ## Enabling, disabling, reading (R63 to R65) -/

/-- R63: CHANNEL_ENABLE's effect. -/
def enableChannel (i : Fin 16) : Body := fun s =>
  let c := s.channel i
  if c.cfg.isNone then refuse .wrongState s
  else if c.enabled then (s, done [])
  else (commitChannel i { c with enabled := true, report := 0, silence := if i = mobile then 0 else c.silence } s, done [])

/-- R63: CHANNEL_ENABLE. -/
def doChannelEnable (src : Source) (tag : Byte) (params : Bytes) (s : State) : State :=
  command src tag params (spOnly src) (sized 1 params fun s =>
    match channelOf (byteAt params 0) with
    | some i => enableChannel i s
    | none => refuse .badParam s) s

/-- R64: CHANNEL_DISABLE's effect. -/
def disableChannel (i : Fin 16) : Body := fun s =>
  let c := s.channel i
  if c.cfg.isNone then refuse .wrongState s
  else if !c.enabled then (s, done [])
  else if coverageLost s i { c with enabled := false } then refuse .coverage s
  else (commitChannel i { c with enabled := false } (dropPolls (.chan i) s), done [])

/-- R64: CHANNEL_DISABLE. -/
def doChannelDisable (src : Source) (tag : Byte) (params : Bytes) (s : State) : State :=
  command src tag params (spOnly src) (sized 1 params fun s =>
    match channelOf (byteAt params 0) with
    | some i => disableChannel i s
    | none => refuse .badParam s) s

/-- R65, R180: the state of a bus channel's bus, absent where the channel names none; channel 15 has none. -/
def busStateBytes (i : Fin 16) (s : State) : Bytes :=
  if i = mobile then []
  else opt8 ((((s.channel i).cfg.bind ChannelConfig.poll).map fun p => (s.bus p.bus).state.code))

/-- R65: what CHANNEL_READ returns of a channel. The silence count is sent for every channel, 0 of a bus channel (log 19). -/
def channelBytes (i : Fin 16) (s : State) : Bytes :=
  let c := s.channel i
  uFlag c.cfg.isSome ++ uFlag c.enabled
    ++ (match c.cfg with
        | some f => configBytes f
        | none => List.replicate 31 255)
    ++ u8 c.status.code ++ u8 c.level.code ++ u8 c.history.length ++ c.history.flatMap u16 ++ opt16 c.last ++ opt16 c.average
    ++ i16 c.rise ++ u8 (bitmap [c.overRange, c.underRange, c.saturated]) ++ uFlag c.warmup ++ uFlag c.skipped ++ u8 c.confirm
    ++ u8 c.miss ++ opt8 (c.missReason.map MissReason.code) ++ stampBytes c.stamp ++ u8 c.report ++ u8 c.silence
    ++ busStateBytes i s ++ uFlag (isCovered s i) ++ u8 s.gcu.nodeMethane.code

/-- R65, R185: CHANNEL_READ. -/
def doChannelRead (src : Source) (tag : Byte) (params : Bytes) (s : State) : State :=
  command src tag params true (paged 1 params fun page s =>
    match channelOf (byteAt params 0) with
    | some i =>
      (if page = 0 then s.setChannel i { s.channel i with skipped := false } else s,
       done (pageOf src page (channelBytes i s)))
    | none => refuse .badParam s) s

/-! ## The arms of exec -/

def execBusRelease (src : Source) (tag : Byte) (params : Bytes) (high : Bool) (s : State) : Result :=
  .next (doBusRelease src tag params high s)
def execChannelConfigure (src : Source) (tag : Byte) (params : Bytes) (s : State) : Result := .next (doChannelConfigure src tag params s)
def execChannelEnable (src : Source) (tag : Byte) (params : Bytes) (s : State) : Result := .next (doChannelEnable src tag params s)
def execChannelDisable (src : Source) (tag : Byte) (params : Bytes) (s : State) : Result := .next (doChannelDisable src tag params s)
def execChannelRead (src : Source) (tag : Byte) (params : Bytes) (s : State) : Result := .next (doChannelRead src tag params s)

end Sys2Proof.Machine
end

