-- ==== Sys2Proof/Machine/PortsAlarm.lean ====
section
/-! DEFINITION. The port commands of the Section Alarm Unit (R105, R106, R111, R113, R114, R118). -/

namespace Sys2Proof.Machine

/-- R105: the manual ALERT holders as a bitmap, SP first. -/
def holdersByte (s : State) : Nat := bitmap [s.sau.holders.sp, s.sau.holders.cp]

/-- R105: the answer to an accepted raise. -/
def raiseAnswer (s : State) : Answer := done (u8 s.sau.level.code ++ uFlag s.sau.latch ++ u8 (holdersByte s))

/-- R105: a port joins the manual ALERT holders, or leaves them (R106). -/
def setHolder (src : Source) (b : Bool) (s : State) : State :=
  match src.port? with
  | some p => sauRecompute (s.updSau fun a => { a with holders := a.holders.set p b })
  | none => s

/-- R105: ALARM_RAISE ALERT. -/
def doAlarmRaiseAlert (src : Source) (tag : Byte) (s : State) : State :=
  command src tag [] (spCp src) (fun s =>
    let s1 := setHolder src true s
    (s1, raiseAnswer s1)) s

/-- R105: ALARM_RAISE EVACUATE. -/
def doAlarmRaiseEvacuate (src : Source) (tag : Byte) (s : State) : State :=
  command src tag [] (spOnly src) (fun s =>
    let s1 := setLatch s
    (s1, raiseAnswer s1)) s

/-- R105: EVACUATE, from the surface. -/
def doEvacuate (src : Source) (tag : Byte) (params : Bytes) (s : State) : State :=
  command src tag params (surfaceOnly src) (sized 0 params fun s =>
    let s1 := setLatch s
    (s1, raiseAnswer s1)) s

/-- R106: the answer to ALERT_CLEAR. -/
def clearAnswer (s : State) : Answer := done (u8 (holdersByte s) ++ u8 s.sau.level.code)

/-- R106: ALERT_CLEAR OWN. -/
def doAlertClearOwn (src : Source) (tag : Byte) (s : State) : State :=
  command src tag [] (spCp src) (fun s =>
    let s1 := setHolder src false s
    (s1, clearAnswer s1)) s

/-- R106: ALERT_CLEAR BOTH. -/
def doAlertClearBoth (src : Source) (tag : Byte) (s : State) : State :=
  command src tag [] (spCp src) (fun s =>
    let s1 := sauRecompute (s.updSau fun a => { a with holders := ⟨false, false⟩ })
    (s1, clearAnswer s1)) s

/-- R111: the all-clear at the head: the latch cleared, the epoch raised and the remote levels set to NORMAL, the latch set
again under GAS_EVACUATE, the section level derived. -/
def allClear (s : State) : State :=
  let s1 := s.updTb fun t => { t with epoch := (t.epoch + 1) % 256 }
  let s2 := s1.updCs fun c => { c with remote := ⟨⟨.normal, 0⟩, ⟨.normal, 0⟩⟩ }
  sauDerive (s2.updSau fun a => { a with latch := a.causes.gasEvacuate })

/-- R111: ALL_CLEAR. -/
def doAllClear (src : Source) (tag : Byte) (params : Bytes) (s : State) : State :=
  command src tag params (s.isHead && spCp src) (sized 0 params fun s =>
    let s1 := allClear s
    (s1, done (u8 s1.tb.epoch ++ uFlag s1.sau.latch ++ u8 s1.sau.level.code))) s

/-- R113: SOUNDER_SILENCE. -/
def doSounderSilence (src : Source) (tag : Byte) (params : Bytes) (s : State) : State :=
  command src tag params (cpOnly src) (sized 0 params fun s =>
    if s.sau.level = .alert then (s.updSau fun a => { a with announce := 0 }, done (u8 s.sau.announce))
    else refuse .wrongState s) s

/-- The refuge of a number. -/
def refugeOf (n : Nat) : Option (Fin 4) := if h : n < 4 then some ⟨n, h⟩ else none

/-- R114: the head a REFUGE_CONFIGURE names: UNUSED is an absent bus and head address (log 38); the outer option is
BAD_PARAM. -/
def refugeHeadOf (bus addr : Nat) : Option (Option (Bus × Nat)) :=
  if bus = 255 && addr = 255 then some none
  else match busOf bus with
    | some b => if 1 ≤ addr && addr ≤ 127 then some (some (b, addr)) else none
    | none => none

/-- R114: a record as REFUGE_CONFIGURE answers it. -/
def refugeBytes (x : Refuge) : Bytes :=
  (match x.head with
    | some (b, a) => u8 (match b with
        | .one => 1
        | .two => 2) ++ u8 a
    | none => u8 255 ++ u8 255)
    ++ u8 x.state.code ++ refugeFieldBytes x.fields ++ u8 x.miss ++ uFlag x.called ++ u8 x.report

/-- R114: REFUGE_CONFIGURE's effect: the record set, its poll dropped, a change of state reported, the causes
recomputed, in this order (log 47). -/
def configureRefuge (r : Fin 4) (head : Option (Bus × Nat)) (s : State) : State :=
  let old := s.refuge r
  let new : Refuge := { Refuge.reset with head := head, state := if head.isSome then .noResponse else .unused }
  sauRecompute (reportRefuge r old (dropPolls (.refuge r) (s.setRefuge r new)))

/-- R114: REFUGE_CONFIGURE. -/
def doRefugeConfigure (src : Source) (tag : Byte) (params : Bytes) (s : State) : State :=
  command src tag params (cpOnly src) (sized 3 params fun s =>
    match refugeOf (byteAt params 0), refugeHeadOf (byteAt params 1) (byteAt params 2) with
    | some r, some head =>
      let s1 := configureRefuge r head s
      (s1, done (refugeBytes (s1.refuge r)))
    | _, _ => refuse .badParam s) s

/-- R118: REFUGE_ACK's effect on a record. -/
def ackRefuge (r : Fin 4) : Body := fun s =>
  let x := s.refuge r
  if x.state = .unused then refuse .wrongState s
  else if !x.called then (s, done (uFlag false))
  else
    let s1 := sauRecompute (s.setRefuge r { x with called := false })
    (sendRefugeReport r { ack := true } (postRefuge r x.state s1), done [])

/-- R118: REFUGE_ACK. -/
def doRefugeAck (src : Source) (tag : Byte) (params : Bytes) (s : State) : State :=
  command src tag params (cpSurface src) (sized 1 params fun s =>
    match refugeOf (byteAt params 0) with
    | some r => ackRefuge r s
    | none => refuse .badParam s) s

/-! ## The arms of exec -/

def execAlarmRaiseAlert (src : Source) (tag : Byte) (s : State) : Result := .next (doAlarmRaiseAlert src tag s)
def execAlarmRaiseEvacuate (src : Source) (tag : Byte) (s : State) : Result := .next (doAlarmRaiseEvacuate src tag s)
def execEvacuate (src : Source) (tag : Byte) (params : Bytes) (s : State) : Result := .next (doEvacuate src tag params s)
def execAlertClearOwn (src : Source) (tag : Byte) (s : State) : Result := .next (doAlertClearOwn src tag s)
def execAlertClearBoth (src : Source) (tag : Byte) (s : State) : Result := .next (doAlertClearBoth src tag s)
def execAllClear (src : Source) (tag : Byte) (params : Bytes) (s : State) : Result := .next (doAllClear src tag params s)
def execSounderSilence (src : Source) (tag : Byte) (params : Bytes) (s : State) : Result := .next (doSounderSilence src tag params s)
def execRefugeConfigure (src : Source) (tag : Byte) (params : Bytes) (s : State) : Result := .next (doRefugeConfigure src tag params s)
def execRefugeAck (src : Source) (tag : Byte) (params : Bytes) (s : State) : Result := .next (doRefugeAck src tag params s)

end Sys2Proof.Machine
end

