-- ==== Sys2Proof/Machine/PortsCalls.lean ====
section
/-! DEFINITION. The port commands of the Call Table Unit (R124, R126, R130, R134, R139, R141). -/

namespace Sys2Proof.Machine

/-- The call entry of an index. -/
def callOf (n : Nat) : Option (Fin 12) := if h : n < 12 then some ⟨n, h⟩ else none

/-! ## CALL_OPEN (R126) -/

/-- R126: a handset number is 1..999. -/
def handsetOk (n : Nat) : Bool := 1 ≤ n && n ≤ 999

/-- R126: a refuge handset forces EMERGENCY. -/
def forcedPriority (caller : Nat) (p : Priority) : Priority := if 990 ≤ caller then .emergency else p

/-- R126 cases 2 to 4. -/
def openBarred (p : Priority) (s : State) : Bool :=
  (s.tb.trunk = .setup || s.tb.trunk = .halted || s.tb.trunk = .listen || s.tb.trunk = .join)
    || (p = .routine && s.ctu.level = .evacuate) || (s.ctu.supplyMode = .reserve && p != .emergency)

/-- R126: the ORIGIN entry of an accepted CALL_OPEN, its CALL_SETUP and its CALL_STATE. R121: an entry that a received
CALL_SETUP made under the same reference is cleared first, with the cause R128 gives a duplicate (log 45). -/
def openEntry (i : Fin 12) (p : Priority) (l : Line) (caller dest : Nat) (callee : Option Nat) (s : State) : State :=
  let e := newCall .requested .origin s.tb.address i.val p none
    (some { line := l, addr := neighbourOf s l, index := none }) dest caller callee
  postCallState i e CallState.requested.code 0
    (sendAdjacent l kCallSetup (setupPayload e.origin i.val i.val dest p caller callee)
      (makeCall i e (clearRef s.tb.address i.val s)))

/-- R126: CALL_OPEN once its parameters have their length. -/
def openCall (params : Bytes) : Body := fun s =>
  let caller := wordAt params 0
  let dest := byteAt params 2
  let calleeN := wordAt params 3
  match priorityOf (byteAt params 5) with
  | none => refuse .badParam s
  | some p0 =>
    let p := forcedPriority caller p0
    let l := onwardLine dest s
    if !handsetOk caller || (calleeN != 0 && !handsetOk calleeN) || 62 < dest || dest = s.tb.address then refuse .badParam s
    else if openBarred p s then refuse .wrongState s
    else match admitCall p (l = .outbye) (l = .inbye) s with
      | .inl c => refuse c s
      | .inr (s1, i) =>
        (openEntry i p l caller dest (if calleeN = 0 then none else some calleeN) s1,
         accepted (u8 i.val ++ u8 s.tb.address ++ u8 i.val ++ u8 p.code))

/-- R126: CALL_OPEN. -/
def doCallOpen (src : Source) (tag : Byte) (params : Bytes) (s : State) : State :=
  command src tag params (cpOnly src) (sized 6 params (openCall params)) s

/-! ## Answering, rejecting, clearing (R130, R134) -/

/-- R130: whether an entry is a DESTINATION in RINGING. -/
def ringing (e : Option Call) : Bool :=
  match e with
  | some e => e.role = .destination && e.state = .ringing
  | none => false

/-- R130: CALL_ANSWER's effect. -/
def answerCall (i : Fin 12) (s : State) : State :=
  let s1 := sendUpstream kCallConnect i (connectCall i s)
  match s1.call i with
  | some e => postCallState i e CallState.connected.code CallState.ringing.code s1
  | none => s1

/-- R130: CALL_ANSWER. -/
def doCallAnswer (src : Source) (tag : Byte) (params : Bytes) (s : State) : State :=
  command src tag params (cpOnly src) (sized 1 params fun s =>
    match callOf (byteAt params 0) with
    | some i => if ringing (s.call i) then (answerCall i s, done []) else refuse .wrongState s
    | none => refuse .badParam s) s

/-- R130: CALL_REJECT. -/
def doCallReject (src : Source) (tag : Byte) (params : Bytes) (s : State) : State :=
  command src tag params (cpOnly src) (sized 1 params fun s =>
    match callOf (byteAt params 0) with
    | some i => if ringing (s.call i) then (clearOwn i .rejected s, done []) else refuse .wrongState s
    | none => refuse .badParam s) s

/-- R134: CALL_CLEAR. -/
def doCallClear (src : Source) (tag : Byte) (params : Bytes) (s : State) : State :=
  command src tag params (cpOnly src) (sized 1 params fun s =>
    match callOf (byteAt params 0) with
    | some i =>
      match s.call i with
      | none => refuse .wrongState s
      | some e => if e.role = .transit then refuse .denied s else (clearOwn i .cleared s, done [])
    | none => refuse .badParam s) s

/-! ## CALL_READ (R141) -/

/-- R121: a side of an entry: line, neighbour address, neighbour index; each absent where it is. -/
def sideBytes (x : Option CallSide) : Bytes :=
  match x with
  | some x => u8 x.line.code ++ opt8 x.addr ++ opt8 x.index
  | none => u8 255 ++ u8 255 ++ u8 255

/-- R121, R141: the fields of an entry in the order of R121, a flag for each buffer and slot in place of its contents. The
silence count of a line the entry does not use is sent as absent, a callee given as none as 0 (log 45). -/
def callBytes (e : Call) : Bytes :=
  u8 e.state.code ++ u8 e.role.code ++ u8 e.origin ++ u8 e.originIdx ++ u8 e.priority.code ++ sideBytes e.up ++ sideBytes e.far
    ++ u8 e.farAddr ++ u16 e.caller ++ u16 (e.callee.getD 0) ++ u16 e.timer
    ++ opt8 (if e.uses .outbye then some e.silence.outbye else none)
    ++ opt8 (if e.uses .inbye then some e.silence.inbye else none)
    ++ stampBytes e.connected ++ u16 e.underrun ++ u16 e.overrun
    ++ uFlag e.tx.isSome ++ uFlag e.rx.isSome ++ uFlag e.relay.outbye.isSome ++ uFlag e.relay.inbye.isSome

/-- R121: the fields of a FREE entry. Its callee is sent as absent, all ones (log 45). -/
def freeCallBytes : Bytes :=
  u8 0 ++ u8 255 ++ u8 255 ++ u8 255 ++ u8 255 ++ sideBytes none ++ sideBytes none ++ u8 255 ++ u16 65535 ++ u16 65535 ++ u16 0
    ++ u8 0 ++ u8 0 ++ stampBytes none ++ u16 0 ++ u16 0 ++ uFlag false ++ uFlag false ++ uFlag false ++ uFlag false

/-- R141: what CALL_READ returns. The place in the recency list counts from 0 at the oldest end. -/
def callReadBytes (i : Fin 12) (s : State) : Bytes :=
  (match s.call i with
    | some e => callBytes e
    | none => freeCallBytes)
    ++ opt8 (s.ctu.recency.idxOf? i) ++ u8 (reservations s .outbye) ++ u8 (reservations s .inbye) ++ u8 s.ctu.budgetSet
    ++ u8 (budgetInForce s)

/-- R141, R185: CALL_READ. -/
def doCallRead (src : Source) (tag : Byte) (params : Bytes) (s : State) : State :=
  command src tag params (cpOnly src) (paged 1 params fun page s =>
    match callOf (byteAt params 0) with
    | some i => (s, done (pageOf src page (callReadBytes i s)))
    | none => refuse .badParam s) s

/-! ## Voice (R139) -/

/-- R139: the entry VOICE_PUT and VOICE_TAKE are taken for: an endpoint in CONNECTED. -/
def voiceEntry (s : State) (i : Fin 12) : Option Call :=
  match s.call i with
  | some e => if e.endpoint && e.state = .connected then some e else none
  | none => none

/-- R139: VOICE_PUT. -/
def doVoicePut (src : Source) (tag : Byte) (params : Bytes) (s : State) : State :=
  command src tag params (cpOnly src) (sized 25 params fun s =>
    match callOf (byteAt params 0) with
    | some i =>
      match voiceEntry s i with
      | some e => (s.setCall i (some { e with tx := some (params.drop 1) }), done (u16 e.underrun))
      | none => refuse .wrongState s
    | none => refuse .badParam s) s

/-- R139: VOICE_TAKE. -/
def doVoiceTake (src : Source) (tag : Byte) (params : Bytes) (s : State) : State :=
  command src tag params (cpOnly src) (sized 1 params fun s =>
    match callOf (byteAt params 0) with
    | some i =>
      match voiceEntry s i with
      | some e => (s.setCall i (some { e with rx := none }), done (e.rx.getD [] ++ u16 e.overrun))
      | none => refuse .wrongState s
    | none => refuse .badParam s) s

/-! ## Budget (R124) -/

/-- How many entries are not FREE. -/
def callsInUse (s : State) : Nat := (allCalls.filter fun i => (s.call i).isSome).length

/-- R124: CALL_BUDGET_SET. -/
def doCallBudgetSet (src : Source) (tag : Byte) (params : Bytes) (s : State) : State :=
  command src tag params (cpOnly src) (sized 1 params fun s =>
    let s1 := shed .budget (s.updCtu fun c => { c with budgetSet := min 10 (byteAt params 0) })
    (s1, done (u8 s1.ctu.budgetSet ++ u8 (budgetInForce s1) ++ u8 (reservations s1 .outbye) ++ u8 (reservations s1 .inbye)
      ++ u8 (callsInUse s - callsInUse s1)))) s

/-! ## The arms of exec -/

def execCallOpen (src : Source) (tag : Byte) (params : Bytes) (s : State) : Result := .next (doCallOpen src tag params s)
def execCallAnswer (src : Source) (tag : Byte) (params : Bytes) (s : State) : Result := .next (doCallAnswer src tag params s)
def execCallReject (src : Source) (tag : Byte) (params : Bytes) (s : State) : Result := .next (doCallReject src tag params s)
def execCallClear (src : Source) (tag : Byte) (params : Bytes) (s : State) : Result := .next (doCallClear src tag params s)
def execCallRead (src : Source) (tag : Byte) (params : Bytes) (s : State) : Result := .next (doCallRead src tag params s)
def execVoicePut (src : Source) (tag : Byte) (params : Bytes) (s : State) : Result := .next (doVoicePut src tag params s)
def execVoiceTake (src : Source) (tag : Byte) (params : Bytes) (s : State) : Result := .next (doVoiceTake src tag params s)
def execCallBudgetSet (src : Source) (tag : Byte) (params : Bytes) (s : State) : Result := .next (doCallBudgetSet src tag params s)

end Sys2Proof.Machine
end

