-- ==== Sys2Proof/Machine/PortsTrip.lean ====
section
/-! DEFINITION. The port commands of the Trip Unit and the Supply Monitor (R85 to R100). -/

namespace Sys2Proof.Machine

/-! ## Trip (R85, R86) -/

/-- R85: TRIP_MANUAL. -/
def doTripManual (src : Source) (tag : Byte) (params : Bytes) (s : State) : State :=
  command src tag params (spSurface src) (sized 0 params fun s =>
    let s1 := tripManual s
    (s1, done (uFlag s1.tu.latch ++ tripRecordBytes s1))) s

/-- R86: TRIP_RESET. -/
def doTripReset (src : Source) (tag : Byte) (params : Bytes) (s : State) : State :=
  command src tag params (spOnly src) (sized 0 params fun s =>
    if !s.tu.latch then (s, done [])
    else if s.tu.causes.any then (s, refusedWith .stillActive (u8 s.tu.causes.byte))
    else (tripReset s, done [])) s

/-! ## Supervision (R87, R89) -/

/-- R87: SUPERVISE_START. -/
def doSuperviseStart (src : Source) (tag : Byte) (params : Bytes) (s : State) : State :=
  command src tag params (spOnly src) (sized 2 params fun s =>
    let p := clamp 4 400 (wordAt params 0)
    let s1 := s.updTu fun u => { u with sup :=
      if u.sup.state = .off then { state := .running, period := some p, count := p } else { u.sup with period := some p } }
    (s1, done (u8 s1.tu.sup.state.code ++ u16 p))) s

/-- R89: a refresh loads the count with the period and returns LATE and EXPIRED to RUNNING. -/
def refresh (s : State) : State :=
  let before := s.tu.sup.state
  let s1 := s.updTu fun u => { u with sup := { u.sup with state := .running, count := u.sup.period.getD 0 } }
  if before = .running then s1 else supervisionChanged before s1

/-- R89: SUPERVISE_REFRESH. -/
def doSuperviseRefresh (src : Source) (tag : Byte) (params : Bytes) (s : State) : State :=
  command src tag params (spOnly src) (sized 0 params fun s =>
    if s.tu.sup.state = .off then refuse .wrongState s
    else (refresh s, done (u8 s.tu.sup.state.code ++ u8 SupervisionState.running.code))) s

/-! ## Override (R92, R93, R95) -/

/-- R92 case 4: whether no uncovered voting CH4 bus channel would be left outside a set. -/
def requestUncovers (set : BitVec 16) (s : State) : Bool := !(allChannels.any fun i => uncoveredVoter set i (s.channel i))

/-- R92: the override becomes PENDING. -/
def requestOverride (set : BitVec 16) (duration : Nat) (s : State) : State :=
  reportOverride s.tu.ovr.state (s.updTu fun u => { u with ovr := { u.ovr with
    state := .pending, set := set, duration := some duration, window := Config.overrideWindow } })

/-- R92: OVERRIDE_REQUEST. -/
def doOverrideRequest (src : Source) (tag : Byte) (params : Bytes) (s : State) : State :=
  command src tag params (spOnly src) (sized 4 params fun s =>
    let set := BitVec.ofNat 16 (wordAt params 0)
    if set = 0#16 then refuse .badParam s
    else if s.tu.ovr.state != .none then refuse .busy s
    else if s.sau.level = .evacuate then refuse .wrongState s
    else if requestUncovers set s then refuse .coverage s
    else (requestOverride set (clamp 20 12000 (wordAt params 2)) s, accepted [])) s

/-- R93, R96, R97: a PENDING override becomes ACTIVE: the covered set changes first, and the report carries the causes that
are left (log 17). -/
def confirmOverride (s : State) : State :=
  let s1 := s.updTu fun u => { u with ovr := { u.ovr with state := .active, window := 0, durCount := u.ovr.duration.getD 0 } }
  evacuationEnd s.sau.level (reportOverride .pending (deriveLevel (coverSet s1)))

/-- R93: OVERRIDE_CONFIRM. -/
def doOverrideConfirm (src : Source) (tag : Byte) (params : Bytes) (s : State) : State :=
  command src tag params (surfaceOnly src) (sized 4 params fun s =>
    if s.tu.ovr.state != .pending then refuse .late s
    else if s.tu.ovr.set != BitVec.ofNat 16 (wordAt params 0) || s.tu.ovr.duration != some (wordAt params 2) then
      refuse .badParam s
    else (confirmOverride s, done [])) s

/-- R95: OVERRIDE_CANCEL. -/
def doOverrideCancel (src : Source) (tag : Byte) (params : Bytes) (s : State) : State :=
  command src tag params (spSurface src) (sized 0 params fun s =>
    if s.tu.ovr.state = .none then refuse .wrongState s
    else (endOverride (if src = .surface then .cancelledSurface else .cancelledSp) s, done [])) s

/-! ## Supply (R100) -/

/-- R100: the two thresholds are set, clamped; the battery runs return to 0. -/
def SupplyMonitor.configure (m : SupplyMonitor) (p : Bytes) : SupplyMonitor :=
  let enter := clamp 0 1013 (wordAt p 0)
  { m with enter := enter, leave := clamp (enter + 10) 1023 (wordAt p 2), lowRun := 0, highRun := 0 }

/-- R100: what SUPPLY_CONFIGURE answers. -/
def supplyBytes (m : SupplyMonitor) : Bytes :=
  u16 m.enter ++ u16 m.leave ++ u8 m.mode.code ++ uFlag m.lastMains ++ u16 m.lastBattery ++ u8 m.absentRun
    ++ u8 m.presentRun ++ u8 m.lowRun ++ u8 m.highRun

/-- R100: SUPPLY_CONFIGURE. -/
def doSupplyConfigure (src : Source) (tag : Byte) (params : Bytes) (s : State) : State :=
  command src tag params (spOnly src) (sized 4 params fun s =>
    let s1 := s.updTu fun u => { u with supply := u.supply.configure params }
    (s1, done (supplyBytes s1.tu.supply))) s

/-! ## The arms of exec -/

def execTripManual (src : Source) (tag : Byte) (params : Bytes) (s : State) : Result := .next (doTripManual src tag params s)
def execTripReset (src : Source) (tag : Byte) (params : Bytes) (s : State) : Result := .next (doTripReset src tag params s)
def execSuperviseStart (src : Source) (tag : Byte) (params : Bytes) (s : State) : Result := .next (doSuperviseStart src tag params s)
def execSuperviseRefresh (src : Source) (tag : Byte) (params : Bytes) (s : State) : Result := .next (doSuperviseRefresh src tag params s)
def execOverrideRequest (src : Source) (tag : Byte) (params : Bytes) (s : State) : Result := .next (doOverrideRequest src tag params s)
def execOverrideConfirm (src : Source) (tag : Byte) (params : Bytes) (s : State) : Result := .next (doOverrideConfirm src tag params s)
def execOverrideCancel (src : Source) (tag : Byte) (params : Bytes) (s : State) : Result := .next (doOverrideCancel src tag params s)
def execSupplyConfigure (src : Source) (tag : Byte) (params : Bytes) (s : State) : Result := .next (doSupplyConfigure src tag params s)

end Sys2Proof.Machine
end

