-- ==== Sys2Proof/Machine/PortsStatus.lean ====
section
/-! DEFINITION. The Port Interface's own commands: the response read (R167), notices (R175, R176), status and identity
(R177 to R179). -/

namespace Sys2Proof.Machine

/-! ## RESPONSE_READ (R167) -/

/-- R167: a response read returns the slot and marks it read; an empty slot returns the empty indication. -/
def readResponse (p : Port) (s : State) : State :=
  s.updPort p fun ps => { ps with
    slotRead := true
    lastRead := match ps.slot with
      | some r => responseBytes r
      | none => emptySlotBytes }

/-! ## Notices (R175, R176) -/

/-- A command that acts on the issuing port; the surface, which has none, holds no right to it. -/
def portCommand (src : Source) (tag : Byte) (params : Bytes) (body : Port → Body) (s : State) : State :=
  match src.port? with
  | some p => command src tag params true (body p) s
  | none => command src tag params false (refuse .denied) s

/-- R176: whether a set of maskable kinds is empty or names an unknown kind. -/
def badKinds (n : Nat) : Bool := n = 0 || 32767 < n

/-- R176: NOTICE_ENABLE_SET. -/
def doNoticeEnableSet (src : Source) (tag : Byte) (params : Bytes) (s : State) : State :=
  portCommand src tag params (fun p => sized 2 params fun s =>
    if badKinds (wordAt params 0) then refuse .badParam s
    else
      let s1 := s.updPort p fun ps => { ps with enabled := ps.enabled ||| BitVec.ofNat 16 (wordAt params 0) }
      (s1, done (u16 (s1.pi.ports.get p).enabled.toNat))) s

/-- R176: NOTICE_ENABLE_CLEAR. -/
def doNoticeEnableClear (src : Source) (tag : Byte) (params : Bytes) (s : State) : State :=
  portCommand src tag params (fun p => sized 2 params fun s =>
    if badKinds (wordAt params 0) then refuse .badParam s
    else
      let s1 := s.updPort p fun ps => { ps with enabled := ps.enabled &&& ~~~(BitVec.ofNat 16 (wordAt params 0)) }
      (s1, done (u16 (s1.pi.ports.get p).enabled.toNat))) s

/-- R176: the groups of all fifteen maskable kinds, HIGH 0 and LOW 1 (log 19). -/
def groupBytes (ps : PortState) : Bytes := u16 (~~~ps.high &&& 0x7FFF#16).toNat

/-- R176: NOTICE_GROUP_SET; the group is HIGH 0 or LOW 1. -/
def doNoticeGroupSet (src : Source) (tag : Byte) (params : Bytes) (s : State) : State :=
  portCommand src tag params (fun p => sized 3 params fun s =>
    let set := BitVec.ofNat 16 (wordAt params 0)
    if badKinds (wordAt params 0) || 1 < byteAt params 2 then refuse .badParam s
    else
      let s1 := s.updPort p fun ps => { ps with high := if byteAt params 2 = 0 then ps.high ||| set else ps.high &&& ~~~set }
      (s1, done (groupBytes (s1.pi.ports.get p)))) s

/-- R175: whether a queued notice is in group HIGH at the port. -/
def highNotice (ps : PortState) (q : Notice) : Bool := q.kind.maskable && holdsKind ps.high q.kind

/-- R175: the notice a NOTICE_TAKE chooses. -/
def nextNotice (ps : PortState) : Option Notice :=
  match ps.queue.find? (fun q => !q.kind.maskable) with
  | some n => some n
  | none => match ps.queue.find? (highNotice ps) with
    | some n => some n
    | none => ps.queue.find? (lowNotice ps)

/-- R186: a notice record: kind code, stamp, data. -/
def noticeBytes (n : Notice) : Bytes := u8 n.kind.code ++ stampBytes (some n.stamp) ++ n.data

/-- R175, R186: NOTICE_TAKE. -/
def doNoticeTake (src : Source) (tag : Byte) (params : Bytes) (s : State) : State :=
  portCommand src tag params (fun p => sized 0 params fun s =>
    match nextNotice (s.pi.ports.get p) with
    | some n =>
      let s1 := s.updPort p fun ps => { ps with queue := ps.queue.erase n }
      (s1, done (u8 (s1.pi.ports.get p).queue.length ++ noticeBytes n))
    | none => (s, done (u8 0))) s

/-- R175: the notice line of a port. -/
def State.noticeLine (s : State) (p : Port) : Bool := !(s.pi.ports.get p).queue.isEmpty

/-! ## Status and identity (R177 to R179) -/

/-- R177: what STATUS_READ returns, in the order of R177; the port flags are absent for the surface, and the two
indications of the reset-cause record are bits of one byte (log 19). -/
def statusBytes (src : Source) (s : State) : Bytes :=
  u8 (bitmap [s.pi.powerOn, s.pi.external]) ++ u8 s.tb.address ++ u8 s.tb.role.code ++ u8 s.tb.trunk.code
    ++ uFlag s.tb.addressInvalid ++ u8 s.tu.supply.mode.code ++ uFlag s.tu.latch ++ u8 s.tu.causes.byte ++ tripRecordBytes s
    ++ u8 s.tu.sup.state.code ++ u8 s.tu.ovr.state.code ++ u8 s.sau.level.code ++ uFlag s.sau.latch ++ u8 s.sau.causes.byte
    ++ u8 s.sau.sentInbye.code ++ u8 s.sau.sentOutbye.code
    ++ opt8 (src.port?.map fun p => flag (s.pi.ports.get p).responseLost)
    ++ opt8 (src.port?.map fun p => flag (s.pi.ports.get p).noticeOverflow)

/-- R177: STATUS_READ without the clear option. -/
def doStatusRead (src : Source) (tag : Byte) (page : Nat) (s : State) : State :=
  command src tag [] true (fun s => (s, done (pageOf src page (statusBytes src s)))) s

/-- R177: the clear option clears the issuing port's two flags and the reset-cause record. -/
def clearStatus (p : Port) (s : State) : State :=
  (s.updPort p fun ps => { ps with responseLost := false, noticeOverflow := false }).updPi
    fun u => { u with powerOn := false, external := false }

/-- R177, R185: STATUS_READ with the clear option; the clearing is made at page 0 alone. -/
def doStatusReadClear (src : Source) (tag : Byte) (page : Nat) (s : State) : State :=
  portCommand src tag [] (fun p s =>
    (if page = 0 then clearStatus p s else s, done (pageOf src page (statusBytes src s)))) s

/-- R179, R184: what IDENT_READ returns. -/
def identBytes (s : State) : Bytes :=
  u16 Config.vendorCode ++ u16 Config.partCode ++ u8 Config.revision ++ u8 s.tb.role.code ++ u8 s.tb.address

/-- R179: IDENT_READ. -/
def doIdentRead (src : Source) (tag : Byte) (params : Bytes) (s : State) : State :=
  command src tag params true (sized 0 params fun s => (s, done (identBytes s))) s

/-! ## The arms of exec -/

def execResponseRead (port : Port) (s : State) : Result := .next (readResponse port s)
def execNoticeEnableSet (src : Source) (tag : Byte) (params : Bytes) (s : State) : Result := .next (doNoticeEnableSet src tag params s)
def execNoticeEnableClear (src : Source) (tag : Byte) (params : Bytes) (s : State) : Result := .next (doNoticeEnableClear src tag params s)
def execNoticeGroupSet (src : Source) (tag : Byte) (params : Bytes) (s : State) : Result := .next (doNoticeGroupSet src tag params s)
def execNoticeTake (src : Source) (tag : Byte) (params : Bytes) (s : State) : Result := .next (doNoticeTake src tag params s)
def execStatusRead (src : Source) (tag : Byte) (page : Nat) (s : State) : Result := .next (doStatusRead src tag page s)
def execStatusReadClear (src : Source) (tag : Byte) (page : Nat) (s : State) : Result := .next (doStatusReadClear src tag page s)
def execIdentRead (src : Source) (tag : Byte) (params : Bytes) (s : State) : Result := .next (doIdentRead src tag params s)

end Sys2Proof.Machine
end

