-- ==== Sys2Proof/Machine/PortsVehicles.lean ====
section
/-! DEFINITION. The port commands of the Vehicle Unit (R154, R156, R162, R164). -/

namespace Sys2Proof.Machine

/-- The vehicle entry of an index. -/
def vehicleOf (n : Nat) : Option (Fin 16) := if h : n < 16 then some ⟨n, h⟩ else none

/-! ## VEHICLE_ORDER (R154) -/

/-- R154: the manual stop of the entry that holds an id is set or cleared, and the entry derived again. -/
def orderVehicle (id : Nat) (stop : Bool) : Body := fun s =>
  if id = 0 || 4095 < id then refuse .badParam s
  else match findVehicle id s with
    | none => refuse .noEntry s
    | some i =>
      let s1 := rederive i (modVehicle i (fun v => { v with manualStop := stop }) s)
      (s1, done (match s1.vehicle i with
        | some v => u16 v.id ++ uFlag v.manualStop ++ u8 v.order.code
        | none => []))

/-- R154: VEHICLE_ORDER STOP. -/
def doVehicleOrderStop (src : Source) (tag : Byte) (id : Nat) (s : State) : State :=
  command src tag [] (cpSurface src) (orderVehicle id true) s

/-- R154: VEHICLE_ORDER RELEASE. -/
def doVehicleOrderRelease (src : Source) (tag : Byte) (id : Nat) (s : State) : State :=
  command src tag [] (cpSurface src) (orderVehicle id false) s

/-! ## BLOCK_CONFIGURE (R156) -/

/-- R156: the five values as BLOCK_CONFIGURE answers them. -/
def blockConfigBytes (c : BlockConfig) : Bytes :=
  uFlag c.governs ++ uFlag c.outbyeGoverned ++ u8 c.convoy ++ u16 c.transit ++ u16 c.presence

/-- R156: the five values of a BLOCK_CONFIGURE, clamped; none for BAD_PARAM. -/
def blockConfigOf (head : Bool) (p : Bytes) : Option BlockConfig :=
  if 1 < byteAt p 0 || 1 < byteAt p 1 || (head && byteAt p 1 = 1) then none
  else some { governs := byteAt p 0 == 1, outbyeGoverned := byteAt p 1 == 1, convoy := clamp 1 4 (byteAt p 2),
              transit := clamp 200 12000 (wordAt p 3), presence := clamp 20 1000 (wordAt p 5) }

/-- R156: one wait entry is removed when governing ends: a LOCAL vehicle takes block role none, a REMOTE one is granted. -/
def dropWait (w : Wait) (s : State) : State :=
  if w.remote then sendAdjacent .inbye kBlockGrant (u16 w.id) s
  else match findVehicle w.id s with
    | some i => modVehicle i (fun v => { v with role := .none }) s
    | none => s

/-- R156: governing from yes to no. -/
def endGoverning (s : State) : State := forEach s.vu.waits dropWait (s.updVu fun u => { u with waits := [] })

/-- R156: one entry's request is released when the governing of the outbye block ends. -/
def endRequest (i : Fin 16) (s : State) : State :=
  match s.vehicle i with
  | some v =>
    modVehicle i (fun v => { v with request := .none, resend := 0 }) (if v.request = .requested then sendRelease v.id s else s)
  | none => s

/-- R156: outbye block governed from yes to no. -/
def endOutbye (s : State) : State := forEach allVehicles endRequest s

/-- R156: the five values are taken, and the changes applied. -/
def configureBlock (c : BlockConfig) (s : State) : State :=
  let old := s.vu.cfg
  let s1 := s.updVu fun u => { u with cfg := c }
  let s2 := if old.governs && !c.governs then endGoverning s1 else s1
  let s3 := if old.outbyeGoverned && !c.outbyeGoverned then endOutbye s2 else s2
  rederiveAll (if old.convoy = c.convoy then s3 else reexamine s3)

/-- R156: BLOCK_CONFIGURE. -/
def doBlockConfigure (src : Source) (tag : Byte) (params : Bytes) (s : State) : State :=
  command src tag params (cpOnly src) (sized 7 params fun s =>
    match blockConfigOf s.isHead params with
    | none => refuse .badParam s
    | some c =>
      if s.vu.cfg.governs && !c.governs && !s.vu.members.isEmpty then refuse .wrongState s
      else (configureBlock c s, done (blockConfigBytes c))) s

/-! ## Reads and force-clear (R162, R164) -/

/-- R146, R164: every field of an entry in use. -/
def vehicleBytes (v : Vehicle) : Bytes :=
  u16 v.id ++ u8 v.kind.code ++ u8 v.heading.code
    ++ opt8 (v.first.map fun l => match l with
        | .inbye => 1
        | .outbye => 2)
    ++ stampBytes (some v.firstStamp) ++ u16 v.lastHeard ++ u16 v.unheard ++ u8 v.order.code ++ uFlag v.echoOk
    ++ uFlag v.manualStop ++ opt16 v.methane ++ u8 v.role.code ++ u8 v.request.code ++ u8 v.resend

/-- How many vehicle entries are in use. -/
def vehiclesInUse (s : State) : Nat := (allVehicles.filter fun i => (s.vehicle i).isSome).length

/-- R164: what VEHICLE_READ returns. -/
def vehicleReadBytes (i : Fin 16) (s : State) : Bytes :=
  (match s.vehicle i with
    | some v => u8 1 ++ vehicleBytes v
    | none => u8 0)
    ++ u8 (vehiclesInUse s) ++ uFlag s.vu.tableFull ++ u16 s.vu.radio.beacons ++ u16 s.vu.radio.discards
    ++ opt8 (s.vu.radio.lastReason.map DiscardReason.code) ++ u8 s.vu.methane.code ++ u8 s.vu.level.code

/-- R164, R185: VEHICLE_READ. -/
def doVehicleRead (src : Source) (tag : Byte) (params : Bytes) (s : State) : State :=
  command src tag params true (paged 1 params fun page s =>
    match vehicleOf (byteAt params 0) with
    | some i => (s, done (pageOf src page (vehicleReadBytes i s)))
    | none => refuse .badParam s) s

/-- R164: what BLOCK_READ returns; each list is preceded by its length (log 19). -/
def blockReadBytes (s : State) : Bytes :=
  blockConfigBytes s.vu.cfg ++ u8 (convoyInForce s) ++ u8 s.vu.dir.code ++ u8 s.vu.members.length
    ++ s.vu.members.flatMap (fun m => u16 m.id ++ u16 m.round ++ u16 m.age ++ uFlag m.overdue)
    ++ u8 s.vu.waits.length ++ s.vu.waits.flatMap fun w => u16 w.id ++ uFlag w.remote ++ uFlag w.remote

/-- R164, R185: BLOCK_READ. -/
def doBlockRead (src : Source) (tag : Byte) (params : Bytes) (s : State) : State :=
  command src tag params true (paged 0 params fun page s => (s, done (pageOf src page (blockReadBytes s)))) s

/-- R162: BLOCK_FORCE_CLEAR. -/
def doBlockForceClear (src : Source) (tag : Byte) (params : Bytes) (s : State) : State :=
  command src tag params (cpSurface src) (sized 0 params fun s => (forceClear s, done (u8 s.vu.members.length))) s

/-! ## The arms of exec -/

def execVehicleOrderStop (src : Source) (tag : Byte) (id : Nat) (s : State) : Result := .next (doVehicleOrderStop src tag id s)
def execVehicleOrderRelease (src : Source) (tag : Byte) (id : Nat) (s : State) : Result := .next (doVehicleOrderRelease src tag id s)
def execVehicleRead (src : Source) (tag : Byte) (params : Bytes) (s : State) : Result := .next (doVehicleRead src tag params s)
def execBlockConfigure (src : Source) (tag : Byte) (params : Bytes) (s : State) : Result := .next (doBlockConfigure src tag params s)
def execBlockRead (src : Source) (tag : Byte) (params : Bytes) (s : State) : Result := .next (doBlockRead src tag params s)
def execBlockForceClear (src : Source) (tag : Byte) (params : Bytes) (s : State) : Result := .next (doBlockForceClear src tag params s)

end Sys2Proof.Machine
end

