-- ==== Sys2Proof/Machine/Records.lean ====
section
/-! DEFINITION. Raw command records: the checks of R166, the command codes of R184, commands from the surface (R170), REMOTE
(R169), and a record taken from any source (R166). -/

namespace Sys2Proof.Machine

/-! ## Frames and codes (R166, R184) -/

/-- R166 check 1: the parameter length is at most 32, agrees with the bytes given, and the record sums to 0. -/
def frameGood (r : Bytes) : Bool := byteAt r 2 ≤ 32 && r.length == byteAt r 2 + 4 && byteSum r == 0

/-- R184: the parameters of a record. -/
def recordParams (r : Bytes) : Bytes := (r.drop 3).take (byteAt r 2)

/-- R166: the tag byte as received. -/
def recordTag (r : Bytes) : Byte := r.getD 1 0

/-- R166, R171: a command whose parameters no row takes: DENIED without the right, BAD_PARAM with it. -/
def badForm (src : Source) (tag : Byte) (right : Bool) (s : State) : State :=
  respond src tag (refused (if right then .badParam else .denied)) s

/-- R105, R166: ALARM_RAISE by its level, ALERT 1 or EVACUATE 2 (R180), which is tested before the right. -/
def runAlarmRaise (src : Source) (tag : Byte) (p : Bytes) (s : State) : State :=
  let level := byteAt p 0
  if p.length = 0 || (level != 1 && level != 2) then respond src tag (refused .badParam) s
  else if p.length != 1 then badForm src tag (if level = 1 then spCp src else spOnly src) s
  else if level = 1 then doAlarmRaiseAlert src tag s
  else doAlarmRaiseEvacuate src tag s

/-- R106: ALERT_CLEAR by its parameter, OWN 0 or BOTH 1. -/
def runAlertClear (src : Source) (tag : Byte) (p : Bytes) (s : State) : State :=
  if p.length != 1 || 1 < byteAt p 0 then badForm src tag (spCp src) s
  else if byteAt p 0 = 0 then doAlertClearOwn src tag s
  else doAlertClearBoth src tag s

/-- R154: VEHICLE_ORDER by its action, STOP 0 or RELEASE 1. -/
def runVehicleOrder (src : Source) (tag : Byte) (p : Bytes) (s : State) : State :=
  if p.length != 3 || 1 < byteAt p 2 then badForm src tag (cpSurface src) s
  else if byteAt p 2 = 0 then doVehicleOrderStop src tag (wordAt p 0) s
  else doVehicleOrderRelease src tag (wordAt p 0) s

/-- R166, R177, R184: STATUS_READ by its option, which is tested before the right. -/
def runStatusRead (src : Source) (tag : Byte) (p : Bytes) (s : State) : State :=
  let option := byteAt p 0
  if 1 < option then respond src tag (refused .badParam) s
  else if 2 < p.length then badForm src tag (option = 0 || spCp src) s
  else if option = 0 then doStatusRead src tag (byteAt p 1) s
  else doStatusReadClear src tag (byteAt p 1) s

/-- R184: a command by its code, REMOTE apart. BUS_RELEASE samples the lines as the pins hold them (log 16). -/
def runCode (src : Source) (tag : Byte) (code : Nat) (p : Bytes) (s : State) : State :=
  match code with
  | 1 => doTrunkConfigure src tag p s
  | 2 => doTrunkStart src tag p s
  | 3 => doTrunkHalt src tag p s
  | 4 => doTrunkSetup src tag p s
  | 8 => doFilterSet src tag p s
  | 9 => doHoldConfigure src tag p s
  | 10 => doCellTake src tag p s
  | 11 => doLineStatusRead src tag p s
  | 12 => doMessageSend src tag p s
  | 16 => doBusRelease src tag p (match busOf (byteAt p 0) with
      | some b => (s.bus b).linesHigh
      | none => false) s
  | 20 => doChannelConfigure src tag p s
  | 21 => doChannelEnable src tag p s
  | 22 => doChannelDisable src tag p s
  | 23 => doChannelRead src tag p s
  | 28 => doTripManual src tag p s
  | 29 => doTripReset src tag p s
  | 30 => doSuperviseStart src tag p s
  | 31 => doSuperviseRefresh src tag p s
  | 32 => doOverrideRequest src tag p s
  | 33 => doOverrideConfirm src tag p s
  | 34 => doOverrideCancel src tag p s
  | 35 => doSupplyConfigure src tag p s
  | 40 => runAlarmRaise src tag p s
  | 41 => doEvacuate src tag p s
  | 42 => runAlertClear src tag p s
  | 43 => doAllClear src tag p s
  | 44 => doSounderSilence src tag p s
  | 45 => doRefugeConfigure src tag p s
  | 46 => doRefugeAck src tag p s
  | 48 => doCallOpen src tag p s
  | 49 => doCallAnswer src tag p s
  | 50 => doCallReject src tag p s
  | 51 => doCallClear src tag p s
  | 52 => doCallRead src tag p s
  | 53 => doVoicePut src tag p s
  | 54 => doVoiceTake src tag p s
  | 55 => doCallBudgetSet src tag p s
  | 56 => runVehicleOrder src tag p s
  | 57 => doVehicleRead src tag p s
  | 58 => doBlockConfigure src tag p s
  | 59 => doBlockRead src tag p s
  | 60 => doBlockForceClear src tag p s
  | 64 => doNoticeEnableSet src tag p s
  | 65 => doNoticeEnableClear src tag p s
  | 66 => doNoticeGroupSet src tag p s
  | 67 => doNoticeTake src tag p s
  | 68 => runStatusRead src tag p s
  | 69 => doIdentRead src tag p s
  | _ => respond src tag (refused .unknownCommand) s

/-- R184: the code of REMOTE. -/
def remoteCode : Nat := 70

/-! ## Commands from the surface (R170) -/

/-- R170: a record wrapped in a COMMAND cell is executed with source SURFACE. REMOTE is refused with DENIED (R171). -/
def runSurface (r : Bytes) (s : State) : State :=
  if !frameGood r then respond .surface (recordTag r) (refused .badFrame) s
  else if byteAt r 0 = remoteCode then respond .surface (recordTag r) (refused .denied) s
  else runCode .surface (recordTag r) (byteAt r 0) (recordParams r) s

/-! ## REMOTE (R169) -/

/-- R169: whether a wrapped record is of a length a COMMAND cell holds, and agrees with its length field. -/
def wrapOk (r : Bytes) : Bool := byteAt r 2 ≤ 20 && r.length == byteAt r 2 + 4

/-- R169: REMOTE's COMMAND cell: executed at the head for target 0, queued for any other target. At a head strapped to
another address a cell for that address is of no node, and no COMMAND cell of a nonzero source is executed (R28, log 44). -/
def sendCommand (target : Nat) (r : Bytes) (s : State) : State :=
  if target = 0 then runSurface r s
  else if ownDest target s then s
  else sendTo kCommand target r s

/-- R169: REMOTE's effect at a head. -/
def remoteBody (p : Bytes) : Body := fun s =>
  let target := byteAt p 0
  let r := p.drop 1
  if p.length = 0 || 63 < target || !wrapOk r then refuse .badParam s
  else if Config.signalCapacity ≤ s.cs.queues.inbye.signal.length then refuse .noCells s
  else (sendCommand target r s, accepted [recordTag r])

/-- R169: REMOTE. -/
def doRemote (src : Source) (tag : Byte) (params : Bytes) (s : State) : State :=
  command src tag params (s.isHead && spCp src) (remoteBody params) s

/-! ## A record from any source (R166) -/

/-- R166: a record is checked and executed. -/
def runRecord (src : Source) (r : Bytes) (s : State) : State :=
  if !frameGood r then respond src (recordTag r) (refused .badFrame) s
  else if byteAt r 0 = remoteCode then doRemote src (recordTag r) (recordParams r) s
  else runCode src (recordTag r) (byteAt r 0) (recordParams r) s

/-! ## The arms of exec -/

def execUnknownCommand (src : Source) (record : Bytes) (s : State) : Result := .next (runRecord src record s)
def execCommandReceived (record : Bytes) (s : State) : Result := .next (runSurface record s)
def execRemote (src : Source) (tag : Byte) (params : Bytes) (s : State) : Result := .next (doRemote src tag params s)

end Sys2Proof.Machine
end

