-- ==== Sys2Proof/Machine/Cells.lean ====
section
/-! DEFINITION. Cells received in positions 1 to 15: the acceptance filter (R27, R28), relay and delivery (R30), and the
events that stand for an accepted cell handed to its block (R128 to R137, R159 to R161). -/

namespace Sys2Proof.Machine

/-! ## The acceptance filter (R27, R28) -/

/-- R27: whether a payload length is bad for a kind. -/
def lengthBad (kind len : Nat) : Bool :=
  24 < len || match kindInfo kind with
    | some (_, lo, hi) => len < lo || hi < len
    | none => false

/-- R27: the age of a cell. -/
def cellAge (s : State) (c : Cell) : Nat := (s.tb.running % 256 + 256 - c.stamp) % 256

/-- R27: KIND_UNKNOWN. -/
def kindUnknown (c : Cell) : Bool := (kindInfo c.kind).isNone

/-- R27: HOP_EXCEEDED. -/
def hopExceeded (c : Cell) : Bool := 62 < c.hop + 1

/-- R27: ROUND_STALE. -/
def roundStale (s : State) (c : Cell) : Bool := c.classOf = .data && s.tb.params.staleLimit < cellAge s c

/-- R27: NOT_FROM_HEAD. -/
def notFromHead (c : Cell) : Bool := c.kind == kCommand && c.src != 0

/-- R28: whether a cell with a good CRC is dropped; `len` is its payload length field. -/
def dropped (s : State) (l : Line) (len : Nat) (c : Cell) : Bool :=
  let d := s.cs.dropSet.get l
  lengthBad c.kind len || notFromHead c || (kindUnknown c && (c.cls = .alarm || c.cls = .call))
    || (kindUnknown c && d.kindUnknown) || (hopExceeded c && d.hopExceeded) || (roundStale s c && d.roundStale)

/-! ## Relay and delivery (R20, R25, R30) -/

/-- R20: an accepted cell is consumed at this node. -/
def consume (l : Line) (c : Cell) (s : State) : State :=
  match c.kind with
  | 16 => callSetup l c.src c.payload s
  | 17 => callAlerting l c.src c.payload s
  | 18 => callConnect l c.src c.payload s
  | 19 => callRefused l c.src c.payload s
  | 20 => callCleared l c.src c.payload s
  | 48 => blockRequest l c.payload s
  | 49 => blockGrant l c.payload s
  | 50 => blockExit l c.payload s
  | 64 => runSurface c.payload s
  | _ => deliver (some l) c s

/-- R25, R28, R30: a cell is relayed onto a line, its hop count increased by one and held at 63. -/
def relayCell (l : Line) (c : Cell) (s : State) : State :=
  if reserveRefuses c s then latchInd l .dataDropped s else joinQueue l { c with hop := min 63 (c.hop + 1) } s

/-- R137: the payload of a CALL cell that is VOICE. -/
def voiceOf (c : Cell) : Option Bytes := if c.kind == kVoice then some c.payload else none

/-- R30: an accepted cell is disposed of by its class and destination. -/
def dispose (l : Line) (c : Cell) (s : State) : State :=
  if c.classOf = .call then callCell l c.src c.dst (voiceOf c) s
  else if ownDest c.dst s || c.dst = 63 then consume l c s
  else if s.quiet then s
  else if onwardLine c.dst s = l then addFiltered l s
  else relayCell (onwardLine c.dst s) c s

/-- R27 to R30: a cell received in positions 1 to 15. -/
def receiveCell (l : Line) (raw : Bytes) (s : State) : State :=
  let c := decodeCell raw
  if s.isHead && l = .outbye then s
  else if !crcGood raw then badCell l c s
  else if c.kind = kIdle then markGood l s
  else if c.kind = kMarker || c.kind = kUplink || dropped s l (rawLength raw) c then addFiltered l (markGood l s)
  else dispose l c (markGood l s)

/-- R36: carrier on a line passes from present to absent. -/
def loseCarrier (l : Line) (s : State) : State :=
  latchInd l .carrierLost (s.updStatus l fun st => { st with carrier := false, lostThisRound := true })

/-! ## The arms of exec -/

def execUplinkReceived (cell : Bytes) (s : State) : Result := .next (cellZeroInbye cell s)
def execCellReceived (line : Line) (cell : Bytes) (s : State) : Result := .next (receiveCell line cell s)
def execCarrierLost (line : Line) (s : State) : Result := .next (loseCarrier line s)
def execCallSetupReceived (line : Line) (src : Nat) (payload : Bytes) (s : State) : Result := .next (callSetup line src payload s)
def execCallAlertingReceived (line : Line) (src : Nat) (payload : Bytes) (s : State) : Result := .next (callAlerting line src payload s)
def execCallConnectReceived (line : Line) (src : Nat) (payload : Bytes) (s : State) : Result := .next (callConnect line src payload s)
def execCallRefusedReceived (line : Line) (src : Nat) (payload : Bytes) (s : State) : Result := .next (callRefused line src payload s)
def execCallClearReceived (line : Line) (src : Nat) (payload : Bytes) (s : State) : Result := .next (callCleared line src payload s)
def execCallCellReceived (line : Line) (src index : Nat) (voice : Option Bytes) (s : State) : Result :=
  .next (callCell line src index voice s)
def execBlockRequestReceived (line : Line) (payload : Bytes) (s : State) : Result := .next (blockRequest line payload s)
def execBlockGrantReceived (line : Line) (payload : Bytes) (s : State) : Result := .next (blockGrant line payload s)
def execBlockExitReceived (line : Line) (payload : Bytes) (s : State) : Result := .next (blockExit line payload s)

end Sys2Proof.Machine
end

