-- ==== Sys2Proof/Machine/Radio.lean ====
section
/-! DEFINITION. The roadway radio (R144, R145, R188) and the taking of a beacon (R147 to R149, R155). -/

namespace Sys2Proof.Machine

/-- Update the radio port. -/
def State.updRadio (f : Radio → Radio) (s : State) : State := s.updVu fun u => { u with radio := f u.radio }

/-- R144: a sync byte in HUNT enters FRAME; in FRAME it is a frame byte like any other (R188). -/
def syncByte (s : State) : State :=
  if s.vu.radio.inFrame then s else s.updRadio fun r => { r with inFrame := true, frameAge := 0 }

/-- R144: a frame is discarded; the receiver returns to HUNT. -/
def discardFrame (reason : DiscardReason) (s : State) : State := s.updRadio (Radio.discard reason)

/-- R144: whether a frame in progress has had its 64 ticks at the next tick. -/
def radioDue (s : State) : Bool := s.vu.radio.inFrame && Config.radioTimeoutTicks ≤ s.vu.radio.frameAge + 1

/-- R145: an ORDER frame waits for the port (log 23). -/
def answerBeacon (id : Nat) (o : Order) (s : State) : State := s.updRadio fun r => { r with orders := r.orders ++ [orderFrame id o] }

/-- R145: the oldest ORDER frame waiting is sent. -/
def sendOrder (s : State) : State :=
  match s.vu.radio.orders with
  | [] => s
  | f :: rest => s.updRadio fun r => { r with orders := rest, lastSent := f }

/-- R147: what an appearance does. -/
def appearance (id : Nat) (l : Line) (s : State) : State :=
  match l with
  | .inbye => if s.isHead then s else sendAdjacent .outbye kBlockExit (u8 0 ++ u16 id) s
  | .outbye => if s.vu.cfg.governs then vehicleExit id s else s

/-- R147: the direction a heading gives. -/
def headingLine : Heading → Option Line
  | .inbye => some .inbye
  | .outbye => some .outbye
  | .stopped => none

/-- R147, R149 step 2: the first heading is set by the first beacon with a direction, which is the appearance. -/
def firstHeading (i : Fin 16) (s : State) : State :=
  match s.vehicle i with
  | some v =>
    match v.first, headingLine v.heading with
    | none, some l => appearance v.id l (modVehicle i (fun v => { v with first := some l }) s)
    | _, _ => s
  | none => s

/-- R149 step 3: a request or grant is released at a beacon that heads INBYE. -/
def releaseInbye (i : Fin 16) (s : State) : State :=
  match s.vehicle i with
  | some v => if v.heading = .inbye && v.request != .none then releaseRequest i s else s
  | none => s

/-- R155: a methane value is handed on as received. -/
def handMethane (m : Option Nat) (s : State) : State :=
  match m with
  | some v => mobileReading v s
  | none => s

/-- R149 steps 5 to 7: the order is derived, echo-ok set, and the beacon answered. -/
def concludeBeacon (i : Fin 16) (b : Beacon) (s : State) : State :=
  let s1 := modVehicle i (fun v => { v with echoOk := b.echo == v.order.code }) (deriveOwn i s)
  match s1.vehicle i with
  | some v => answerBeacon b.id v.order s1
  | none => s1

/-- R146: a stored methane value above 10000 is kept as 10000. -/
def storedMethane (m : Option Nat) : Option Nat := m.map fun v => min 10000 v

/-- R149: a beacon whose id an entry holds. Its methane value, and the node methane level that it brings back, go before the
derivation (log 45). -/
def knownBeacon (i : Fin 16) (b : Beacon) (s : State) : State :=
  let s1 := modVehicle i (fun v => { v with
    kind := b.kind, heading := b.heading, lastHeard := s.tb.running, unheard := 0, methane := storedMethane b.methane }) s
  concludeBeacon i b (handMethane b.methane (releaseInbye i (firstHeading i s1)))

/-- R146: an entry as an arrival makes it; its order is derived before anything reads it. -/
def newVehicle (b : Beacon) (s : State) : Vehicle :=
  { id := b.id, kind := b.kind, heading := b.heading, first := none, firstStamp := s.now, lastHeard := s.tb.running,
    unheard := 0, order := .wait, echoOk := false, manualStop := false, methane := storedMethane b.methane, role := .none,
    request := .none, resend := 0 }

/-- R148: an arrival takes a free entry. Its methane value, and the node methane level that it brings back, go before the
derivation (log 45). -/
def arrival (i : Fin 16) (b : Beacon) (s : State) : State :=
  let s1 := concludeBeacon i b (handMethane b.methane (firstHeading i (s.setVehicle i (some (newVehicle b s)))))
  match s1.vehicle i with
  | some v => reportVehicle 0 v s1
  | none => s1

/-- R148: a beacon refused for a full table. -/
def tableFullBeacon (b : Beacon) (s : State) : State :=
  let s1 := handMethane b.methane (answerBeacon b.id .wait s)
  if s1.vu.tableFull then s1
  else postBoth .tableFull (u16 b.id ++ u8 b.kind.code ++ u8 b.heading.code ++ u16 s1.tb.running)
    (s1.updVu fun u => { u with tableFull := true })

/-- The lowest-numbered free vehicle entry. -/
def freeVehicle (s : State) : Option (Fin 16) := allVehicles.find? fun i => (s.vehicle i).isNone

/-- R144, R148, R149: a beacon is counted and taken; the receiver returns to HUNT. -/
def takeBeacon (b : Beacon) (s : State) : State :=
  let s1 := s.updRadio fun r => { r with inFrame := false, frameAge := 0, beacons := satSucc 65535 r.beacons }
  match findVehicle b.id s1 with
  | some i => knownBeacon i b s1
  | none => match freeVehicle s1 with
    | some i => arrival i b s1
    | none => tableFullBeacon b s1

/-- R144: the bytes after a sync byte are judged: a discard, or a beacon (log 22). -/
def radioFrame (f : Bytes) (s : State) : State :=
  match judgeFrame f with
  | .inl reason => discardFrame reason s
  | .inr b => takeBeacon b s

/-! ## The arms of exec -/

def execSyncByteReceived (s : State) : Host.Outcome State Fault Refusal := .next (syncByte s)
def execRadioFrameDiscard (frame : Bytes) (s : State) : Host.Outcome State Fault Refusal := .next (radioFrame frame s)
def execRadioTimeout (s : State) : Host.Outcome State Fault Refusal := .next (if radioDue s then discardFrame .timeout s else s)
def execBeacon (frame : Bytes) (s : State) : Host.Outcome State Fault Refusal := .next (radioFrame frame s)
def execOrderFrameSend (s : State) : Host.Outcome State Fault Refusal := .next (sendOrder s)

end Sys2Proof.Machine
end

