-- ==== Sys2Proof/Machine/Events.lean ====
section
/-! DEFINITION. The arms of exec for the rounds, the sensor buses and the timed events. A row that names a count running out
acts when the count is at the brink, with what the round start that brings it there does for that count alone; otherwise
nothing has run out and the state stays (log 2). -/

namespace Sys2Proof.Machine

/-! ## Rounds and the trunk (R1, R6 to R11, R17) -/

def execRoundStart (smp : Samples) (s : State) : Result := .next (ownRound smp s)
def execMarkerWindowClose (smp : Samples) (s : State) : Result := .next (closeWindow smp s)
def execMarkerReceived (cell : Bytes) (smp : Samples) (s : State) : Result := .next (cellZeroOutbye cell smp s)

/-- R7, R17: a hunt limit is reached and the node enters ISLAND_LEAD, or a pending trunk command takes the place of that
transition (log 12). -/
def listenTimeout (s : State) : State :=
  if listenDue s then trunkStep (fun t => enterIsland (huntCounts (quietNow s) t)) s else s
def execListenTimeout (s : State) : Result := .next (listenTimeout s)

/-- R10, R17: the holdover limit is reached and the node enters ISLAND_LEAD, or a pending trunk command takes the place of
that transition (log 12). -/
def holdoverLimit (s : State) : State :=
  if holdoverDue s then trunkStep (fun t => enterIsland { t with holdoverCnt := t.holdoverCnt + 1 }) s else s
def execHoldoverLimit (s : State) : Result := .next (holdoverLimit s)

/-- R10: a candidate whose window has passed is dropped. -/
def candidateDrop (s : State) : State := if candidateDue s then s.updTb fun t => { t with candidate := none } else s
def execCandidateDrop (s : State) : Result := .next (candidateDrop s)

/-- R11: a rejoin run whose window has passed returns to 0. -/
def rejoinRunLapse (s : State) : State := if runLapseDue s then s.updTb fun t => { t with rejoin := noRun } else s
def execRejoinRunLapse (s : State) : Result := .next (rejoinRunLapse s)

/-- R17: the pending trunk command is applied. -/
def trunkCommandApply (s : State) : State := if s.tb.pendingCmd.isSome then finishTrunk s.tb s else s
def execTrunkCommandApply (s : State) : Result := .next (trunkCommandApply s)

/-! ## Cell Switch (R31, R33, R39) -/

/-- R31: the period count of a HOLDING queue runs out above the low mark: the hold is announced again. -/
def holdPeriodExpiry (l : Line) (s : State) : State := if periodDue s l then examineQueue l s else s
def execHoldPeriodExpiry (line : Line) (s : State) : Result := .next (holdPeriodExpiry line s)

/-- R33: the held count of a line runs out. -/
def heldCountExpiry (l : Line) (s : State) : State := if s.cs.held.get l = 1 then heldTick l s else s
def execHeldCountExpiry (line : Line) (s : State) : Result := .next (heldCountExpiry line s)

/-- R39: the remote age of a line reaches 40. -/
def remoteLevelExpiry (l : Line) (s : State) : State := if remoteDue s l then remoteTick l s else s
def execRemoteLevelExpiry (line : Line) (s : State) : Result := .next (remoteLevelExpiry line s)

/-! ## Sensor buses (R43 to R47) -/

def execTransactionStart (bus : Bus) (high : Bool) (s : State) : Result := .next (s.updBus bus fun m => m.start high)
def execTransactionComplete (bus : Bus) (reply : BusReply) (s : State) : Result := .next (completeTransaction bus reply s)
def execHoldTimeout (hold : ClockHold) (s : State) : Result := .next (holdClock hold.bus hold.ticks s)
def execReleaseSequence (bus : Bus) (high : Bool) (s : State) : Result := .next (s.updBus bus fun m => m.sampleRelease high)

/-- R46, R47: a line is still low with release count 3: the bus enters FAILED. The row brings the low line with it, and acts
when it is commanded, between round starts too (log 2). -/
def busFailed (b : Bus) (s : State) : State :=
  if (s.bus b).state = .releasing && 3 ≤ (s.bus b).release then failBus b s else s
def execBusFailed (bus : Bus) (s : State) : Result := .next (busFailed bus s)

/-- R43: the head lets go of the clock. -/
def execClockLetGo (bus : Bus) (s : State) : Result := .next (s.updBus bus BusMaster.letGo)

/-! ## Supply, supervision, override (R88, R93, R94, R99) -/

/-- R99: a sample that changes the supply mode. -/
def supplyModeChange (mains : Bool) (battery : Nat) (s : State) : State :=
  if (s.tu.supply.sample mains battery).change.isSome then supplySample mains battery s else s
def execSupplyModeChange (mains : Bool) (battery : Nat) (s : State) : Result := .next (supplyModeChange mains battery s)

/-- R88: the supervision count reaches 0. -/
def supervisionLapse (s : State) : State := if lapseDue s then lapse s else s
def execSupervisionLapse (s : State) : Result := .next (supervisionLapse s)

/-- R93: the window count of a PENDING override reaches 0. -/
def overrideWindowExpiry (s : State) : State := if windowDue s then overrideTick s else s
def execOverrideWindowExpiry (s : State) : Result := .next (overrideWindowExpiry s)

/-- R94: the duration count of an ACTIVE override reaches 0. -/
def overrideDurationExpiry (s : State) : State := if durationDue s then overrideTick s else s
def execOverrideDurationExpiry (s : State) : Result := .next (overrideDurationExpiry s)

/-! ## Gas channels and the section alarm (R74, R79, R112, R119) -/

/-- R74: the silence count of channel 15 reaches 100. -/
def mobileSilenceTimeout (s : State) : State := if silenceDue s then mobileTick s else s
def execMobileSilenceTimeout (s : State) : Result := .next (mobileSilenceTimeout s)

/-- R79: the report count of a channel reaches its report interval. -/
def readingReportDue (i : Fin 16) (s : State) : State := if reportDue s i then reportTick i s else s
def execReadingReportDue (ch : Fin 16) (s : State) : Result := .next (readingReportDue ch s)

/-- R112: the announcement count reaches 0. -/
def announcementEnd (s : State) : State := if announcementDue s then s.updSau fun a => { a with announce := 0 } else s
def execAnnouncementEnd (s : State) : Result := .next (announcementEnd s)

/-- R119: the report count of a refuge reaches 200 under evacuation. -/
def refugePeriodicReport (r : Fin 4) (s : State) : State := if refugeReportDue s r then refugeReportTick r s else s
def execRefugePeriodicReport (r : Fin 4) (s : State) : Result := .next (refugePeriodicReport r s)

/-! ## Calls (R135) -/

/-- R135: the state timer of an entry reaches its limit. -/
def callStateTimeout (e : Fin 12) (s : State) : State := if (stateTimeoutDue s e).isSome then stateTimerTick e s else s
def execCallStateTimeout (e : Fin 12) (s : State) : Result := .next (callStateTimeout e s)

/-- R135: a silence count of a CONNECTED entry reaches 40. -/
def callLossTimeout (e : Fin 12) (s : State) : State := if lossDue s e then silenceTick e s else s
def execCallLossTimeout (e : Fin 12) (s : State) : Result := .next (callLossTimeout e s)

/-! ## Vehicles and the block (R150, R159, R162) -/

/-- R150: the unheard count of an entry reaches the presence timeout. -/
def vehicleDeparture (v : Fin 16) (s : State) : State := if departureDue s v then unheardTick v s else s
def execVehicleDeparture (v : Fin 16) (s : State) : Result := .next (vehicleDeparture v s)

/-- R159: the resend count of a request reaches 100. -/
def blockRequestResend (v : Fin 16) (s : State) : State := if resendDue s v then resendTick v s else s
def execBlockRequestResend (v : Fin 16) (s : State) : Result := .next (blockRequestResend v s)

/-- R162: the age of a member reaches the transit limit. -/
def memberOverdue (id : Nat) (s : State) : State :=
  if s.vu.members.any (fun m => m.id == id && overdueDue s m) then memberTick id s else s
def execMemberOverdue (id : Nat) (s : State) : Result := .next (memberOverdue id s)

end Sys2Proof.Machine
end

