-- ==== Sys2Proof/Machine/Reset.lean ====
section
/-! DEFINITION. The two resets (R3, R49, R84, R165, R178, 9.6). -/

namespace Sys2Proof.Machine

/-- 9.6: every block at its reset value, with the straps and role as read; the queue of waiting commands stays. -/
def bootState (role : Role) (straps : Nat) (powerOn external : Bool) (pending : List Instr) : State :=
  { tb := .boot role straps, cs := .boot, sbm := ⟨.boot, .boot⟩, gcu := .boot, tu := .boot, sau := .boot, ctu := .boot, vu := .boot
    pi := { ports := ⟨.boot, .boot⟩, powerOn := powerOn, external := external }
    pending := pending }

/-- R84: the restart trip at the end of a reset. -/
def restart (s : State) : State := captureTrip false true s

/-- R3, R178: a power-on reset. -/
def powerOn (role : Role) (straps : Nat) (s : State) : State := restart (bootState role straps true false s.pending)

/-- R178: an external reset: POWER_ON is left as it stood, EXTERNAL is set. -/
def externalReset (role : Role) (straps : Nat) (s : State) : State :=
  restart (bootState role straps s.pi.powerOn true s.pending)

/-! ## The arms of exec -/

def execPowerOnReset (role : Role) (straps : Nat) (s : State) : Host.Outcome State Fault Refusal := .next (powerOn role straps s)
def execExternalReset (role : Role) (straps : Nat) (s : State) : Host.Outcome State Fault Refusal :=
  .next (externalReset role straps s)

end Sys2Proof.Machine
end

