-- ==== Sys2Proof/Machine/Dispatch.lean ====
section
/-! DEFINITION. One arm for each command: the one place where a command meets its meaning. -/

namespace Sys2Proof.Machine

/-- The effect of a command on everything but the queue of waiting commands. -/
def exec (i : Instr) (s : State) : Host.Outcome State Fault Refusal :=
  match i with
  | .powerOnReset role straps => Sys2Proof.Machine.execPowerOnReset role straps s
  | .externalReset role straps => Sys2Proof.Machine.execExternalReset role straps s
  | .roundStart smp => Sys2Proof.Machine.execRoundStart smp s
  | .markerWindowClose smp => Sys2Proof.Machine.execMarkerWindowClose smp s
  | .listenTimeout => Sys2Proof.Machine.execListenTimeout s
  | .holdoverLimit => Sys2Proof.Machine.execHoldoverLimit s
  | .candidateDrop => Sys2Proof.Machine.execCandidateDrop s
  | .rejoinRunLapse => Sys2Proof.Machine.execRejoinRunLapse s
  | .trunkCommandApply => Sys2Proof.Machine.execTrunkCommandApply s
  | .markerReceived cell smp => Sys2Proof.Machine.execMarkerReceived cell smp s
  | .uplinkReceived cell => Sys2Proof.Machine.execUplinkReceived cell s
  | .cellReceived line cell => Sys2Proof.Machine.execCellReceived line cell s
  | .carrierLost line => Sys2Proof.Machine.execCarrierLost line s
  | .holdPeriodExpiry line => Sys2Proof.Machine.execHoldPeriodExpiry line s
  | .heldCountExpiry line => Sys2Proof.Machine.execHeldCountExpiry line s
  | .remoteLevelExpiry line => Sys2Proof.Machine.execRemoteLevelExpiry line s
  | .transactionStart bus high => Sys2Proof.Machine.execTransactionStart bus high s
  | .transactionComplete bus reply => Sys2Proof.Machine.execTransactionComplete bus reply s
  | .holdTimeout hold => Sys2Proof.Machine.execHoldTimeout hold s
  | .releaseSequence bus high => Sys2Proof.Machine.execReleaseSequence bus high s
  | .busFailed bus => Sys2Proof.Machine.execBusFailed bus s
  | .supplyModeChange mains battery => Sys2Proof.Machine.execSupplyModeChange mains battery s
  | .supervisionLapse => Sys2Proof.Machine.execSupervisionLapse s
  | .overrideWindowExpiry => Sys2Proof.Machine.execOverrideWindowExpiry s
  | .overrideDurationExpiry => Sys2Proof.Machine.execOverrideDurationExpiry s
  | .mobileSilenceTimeout => Sys2Proof.Machine.execMobileSilenceTimeout s
  | .readingReportDue ch => Sys2Proof.Machine.execReadingReportDue ch s
  | .announcementEnd => Sys2Proof.Machine.execAnnouncementEnd s
  | .refugePeriodicReport r => Sys2Proof.Machine.execRefugePeriodicReport r s
  | .callStateTimeout e => Sys2Proof.Machine.execCallStateTimeout e s
  | .callLossTimeout e => Sys2Proof.Machine.execCallLossTimeout e s
  | .callSetupReceived line src payload => Sys2Proof.Machine.execCallSetupReceived line src payload s
  | .callAlertingReceived line src payload => Sys2Proof.Machine.execCallAlertingReceived line src payload s
  | .callConnectReceived line src payload => Sys2Proof.Machine.execCallConnectReceived line src payload s
  | .callRefusedReceived line src payload => Sys2Proof.Machine.execCallRefusedReceived line src payload s
  | .callClearReceived line src payload => Sys2Proof.Machine.execCallClearReceived line src payload s
  | .callCellReceived line src index voice => Sys2Proof.Machine.execCallCellReceived line src index voice s
  | .blockRequestReceived line payload => Sys2Proof.Machine.execBlockRequestReceived line payload s
  | .blockGrantReceived line payload => Sys2Proof.Machine.execBlockGrantReceived line payload s
  | .blockExitReceived line payload => Sys2Proof.Machine.execBlockExitReceived line payload s
  | .commandReceived record => Sys2Proof.Machine.execCommandReceived record s
  | .radioFrameDiscard frame => Sys2Proof.Machine.execRadioFrameDiscard frame s
  | .radioTimeout => Sys2Proof.Machine.execRadioTimeout s
  | .beacon frame => Sys2Proof.Machine.execBeacon frame s
  | .orderFrameSend => Sys2Proof.Machine.execOrderFrameSend s
  | .vehicleDeparture v => Sys2Proof.Machine.execVehicleDeparture v s
  | .blockRequestResend v => Sys2Proof.Machine.execBlockRequestResend v s
  | .memberOverdue id => Sys2Proof.Machine.execMemberOverdue id s
  | .responseRead port => Sys2Proof.Machine.execResponseRead port s
  | .unknownCommand src record => Sys2Proof.Machine.execUnknownCommand src record s
  | .trunkConfigure src tag params => Sys2Proof.Machine.execTrunkConfigure src tag params s
  | .trunkStart src tag params => Sys2Proof.Machine.execTrunkStart src tag params s
  | .trunkHalt src tag params => Sys2Proof.Machine.execTrunkHalt src tag params s
  | .trunkSetup src tag params => Sys2Proof.Machine.execTrunkSetup src tag params s
  | .filterSet src tag params => Sys2Proof.Machine.execFilterSet src tag params s
  | .holdConfigure src tag params => Sys2Proof.Machine.execHoldConfigure src tag params s
  | .cellTake src tag params => Sys2Proof.Machine.execCellTake src tag params s
  | .lineStatusRead src tag params => Sys2Proof.Machine.execLineStatusRead src tag params s
  | .messageSend src tag params => Sys2Proof.Machine.execMessageSend src tag params s
  | .busRelease src tag params high => Sys2Proof.Machine.execBusRelease src tag params high s
  | .channelConfigure src tag params => Sys2Proof.Machine.execChannelConfigure src tag params s
  | .channelEnable src tag params => Sys2Proof.Machine.execChannelEnable src tag params s
  | .channelDisable src tag params => Sys2Proof.Machine.execChannelDisable src tag params s
  | .channelRead src tag params => Sys2Proof.Machine.execChannelRead src tag params s
  | .tripManual src tag params => Sys2Proof.Machine.execTripManual src tag params s
  | .tripReset src tag params => Sys2Proof.Machine.execTripReset src tag params s
  | .superviseStart src tag params => Sys2Proof.Machine.execSuperviseStart src tag params s
  | .superviseRefresh src tag params => Sys2Proof.Machine.execSuperviseRefresh src tag params s
  | .overrideRequest src tag params => Sys2Proof.Machine.execOverrideRequest src tag params s
  | .overrideConfirm src tag params => Sys2Proof.Machine.execOverrideConfirm src tag params s
  | .overrideCancel src tag params => Sys2Proof.Machine.execOverrideCancel src tag params s
  | .supplyConfigure src tag params => Sys2Proof.Machine.execSupplyConfigure src tag params s
  | .alarmRaiseAlert src tag => Sys2Proof.Machine.execAlarmRaiseAlert src tag s
  | .alarmRaiseEvacuate src tag => Sys2Proof.Machine.execAlarmRaiseEvacuate src tag s
  | .evacuate src tag params => Sys2Proof.Machine.execEvacuate src tag params s
  | .alertClearOwn src tag => Sys2Proof.Machine.execAlertClearOwn src tag s
  | .alertClearBoth src tag => Sys2Proof.Machine.execAlertClearBoth src tag s
  | .allClear src tag params => Sys2Proof.Machine.execAllClear src tag params s
  | .sounderSilence src tag params => Sys2Proof.Machine.execSounderSilence src tag params s
  | .refugeConfigure src tag params => Sys2Proof.Machine.execRefugeConfigure src tag params s
  | .refugeAck src tag params => Sys2Proof.Machine.execRefugeAck src tag params s
  | .callOpen src tag params => Sys2Proof.Machine.execCallOpen src tag params s
  | .callAnswer src tag params => Sys2Proof.Machine.execCallAnswer src tag params s
  | .callReject src tag params => Sys2Proof.Machine.execCallReject src tag params s
  | .callClear src tag params => Sys2Proof.Machine.execCallClear src tag params s
  | .callRead src tag params => Sys2Proof.Machine.execCallRead src tag params s
  | .voicePut src tag params => Sys2Proof.Machine.execVoicePut src tag params s
  | .voiceTake src tag params => Sys2Proof.Machine.execVoiceTake src tag params s
  | .callBudgetSet src tag params => Sys2Proof.Machine.execCallBudgetSet src tag params s
  | .vehicleOrderStop src tag id => Sys2Proof.Machine.execVehicleOrderStop src tag id s
  | .vehicleOrderRelease src tag id => Sys2Proof.Machine.execVehicleOrderRelease src tag id s
  | .vehicleRead src tag params => Sys2Proof.Machine.execVehicleRead src tag params s
  | .blockConfigure src tag params => Sys2Proof.Machine.execBlockConfigure src tag params s
  | .blockRead src tag params => Sys2Proof.Machine.execBlockRead src tag params s
  | .blockForceClear src tag params => Sys2Proof.Machine.execBlockForceClear src tag params s
  | .noticeEnableSet src tag params => Sys2Proof.Machine.execNoticeEnableSet src tag params s
  | .noticeEnableClear src tag params => Sys2Proof.Machine.execNoticeEnableClear src tag params s
  | .noticeGroupSet src tag params => Sys2Proof.Machine.execNoticeGroupSet src tag params s
  | .noticeTake src tag params => Sys2Proof.Machine.execNoticeTake src tag params s
  | .statusRead src tag page => Sys2Proof.Machine.execStatusRead src tag page s
  | .statusReadClear src tag page => Sys2Proof.Machine.execStatusReadClear src tag page s
  | .identRead src tag params => Sys2Proof.Machine.execIdentRead src tag params s
  | .remote src tag params => Sys2Proof.Machine.execRemote src tag params s
  | .syncByteReceived => Sys2Proof.Machine.execSyncByteReceived s
  | .clockLetGo bus => Sys2Proof.Machine.execClockLetGo bus s

end Sys2Proof.Machine
end

