-- ==== Sys2Proof/Safety.lean ====
section
/-! DEFINITION. The words statements use: what a command may touch (frames), what a report is (notices, cells and the
indications they latch), and the invariants that every step keeps. -/

namespace Sys2Proof.Machine

/-! ## Going on -/

/-- A command answers a next state. -/
abbrev Goes (i : Instr) (s t : State) : Prop := exec i s = .next t

/-- The source a port is. -/
def portSource : Port → Source
  | .sp => .sp
  | .cp => .cp

/-! ## Frames -/

/-- The blocks of 00_scope.md, and the queue of waiting commands. -/
inductive Block | tb | cs | sbm | gcu | tu | sau | ctu | vu | pi | pending
deriving DecidableEq, Repr

/-- Two states agree on a block. -/
def Same (s t : State) : Block → Prop
  | .tb => t.tb = s.tb
  | .cs => t.cs = s.cs
  | .sbm => t.sbm = s.sbm
  | .gcu => t.gcu = s.gcu
  | .tu => t.tu = s.tu
  | .sau => t.sau = s.sau
  | .ctu => t.ctu = s.ctu
  | .vu => t.vu = s.vu
  | .pi => t.pi = s.pi
  | .pending => t.pending = s.pending

/-- Only the listed blocks may differ. -/
def SameBut (may : List Block) (s t : State) : Prop := ∀ b, b ∉ may → Same s t b

/-- Two line statuses agree on everything but the six latched indications. -/
def SameStatus (a b : LineStatus) : Prop :=
  b = { a with carrierLost := b.carrierLost, crcErrors := b.crcErrors, signalLost := b.signalLost,
               dataDropped := b.dataDropped, holdReceived := b.holdReceived, deliveryOverflow := b.deliveryOverflow }

/-- Two Cell Switches agree on everything but queues, staged cells, delivery queues and latched indications. -/
def ReportsCs (a b : CellSwitch) : Prop :=
  b = { a with queues := b.queues, staging := b.staging, safetyQ := b.safetyQ, generalQ := b.generalQ, status := b.status }
    ∧ SameStatus a.status.outbye b.status.outbye ∧ SameStatus a.status.inbye b.status.inbye

/-- Two ports agree on everything but the notice queue and NOTICE_OVERFLOW. -/
def SamePort (a b : PortState) : Prop := b = { a with queue := b.queue, noticeOverflow := b.noticeOverflow }

/-- Two Port Interfaces agree on everything but the notice queues and NOTICE_OVERFLOW. -/
def ReportsPi (a b : PortUnit) : Prop :=
  b = { a with ports := b.ports } ∧ SamePort a.ports.sp b.ports.sp ∧ SamePort a.ports.cp b.ports.cp

/-- From `s` to `t` the part has reported and nothing else: notices were posted (R172 to R174), cells placed or delivered
(R23, R24, R34), and the indications of 2.9 latched with them. -/
structure Reports (s t : State) : Prop where
  blocks : SameBut [.cs, .pi] s t
  cs : ReportsCs s.cs t.cs
  pi : ReportsPi s.pi t.pi

/-- Only the trip stamp and the refuge stamps of the Time Base may differ (R18). -/
def StampsOnly (s t : State) : Prop := t.tb = { s.tb with tripStamp := t.tb.tripStamp, refugeStamps := t.tb.refugeStamps }

/-- What commands have configured stays: trunk parameters and role, filter, flow control, channels, refuge heads, block,
budget, notice settings, supply thresholds. -/
structure ConfigKept (s t : State) : Prop where
  node : t.tb.role = s.tb.role ∧ t.tb.address = s.tb.address ∧ t.tb.params = s.tb.params
  lines : t.cs.dropSet = s.cs.dropSet ∧ t.cs.holdParams = s.cs.holdParams
  channels : ∀ i : Fin 16, (t.channel i).cfg = (s.channel i).cfg ∧ (t.channel i).enabled = (s.channel i).enabled
  refuges : ∀ r : Fin 4, (t.refuge r).head = (s.refuge r).head
  calls : t.ctu.budgetSet = s.ctu.budgetSet
  block : t.vu.cfg = s.vu.cfg
  notices : ∀ p : Port, (t.pi.ports.get p).enabled = (s.pi.ports.get p).enabled ∧ (t.pi.ports.get p).high = (s.pi.ports.get p).high
  supply : t.tu.supply.enter = s.tu.supply.enter ∧ t.tu.supply.leave = s.tu.supply.leave

/-- Every channel record but one is as it was. -/
def OtherChannels (i : Fin 16) (s t : State) : Prop := ∀ j : Fin 16, j ≠ i → t.channel j = s.channel j

/-- Every refuge record but one is as it was. -/
def OtherRefuges (r : Fin 4) (s t : State) : Prop := ∀ k : Fin 4, k ≠ r → t.refuge k = s.refuge k

/-- Every call entry but one is as it was. -/
def OtherCalls (i : Fin 12) (s t : State) : Prop := ∀ j : Fin 12, j ≠ i → t.call j = s.call j

/-- R122, R132: a call entry is FREE and off the recency list, and no other entry and no other block is touched but by
reports. -/
structure CallGone (i : Fin 12) (s t : State) : Prop where
  free : t.call i = none
  others : OtherCalls i s t
  recency : i ∉ t.ctu.recency
  blocks : SameBut [.cs, .ctu, .pi] s t

/-- R121: whether an entry stays as it is when another is made as `i` under the reference of this node's address and `i`: it is
not `i` itself, nor an older entry under that reference. -/
def staysBeside (i : Fin 12) (s : State) (j : Fin 12) : Bool := j != i && findRef s.tb.address i.val s != some j

/-- A change of the section alarm: the lines' buses, the channel records and the Time Base's timing stand. -/
structure AlarmFrame (s t : State) : Prop where
  stamps : StampsOnly s t
  sbm : t.sbm = s.sbm
  channels : t.gcu.channels = s.gcu.channels
  pending : t.pending = s.pending

/-! ## Markers (R5 to R11) -/

/-- R5, R6, R26: a cell is a well-formed marker for a junction, and `m` is what it carries. -/
structure MarkerCell (cell : Bytes) (m : Marker) (s : State) : Prop where
  junction : s.tb.role = .junction
  good : crcGood cell = true
  kind : byteAt cell 0 = 1
  length : byteAt cell 1 % 32 = 7
  carries : m = markerOf (decodeCell cell)
  lead : m.lead < s.tb.address

/-- R2: a marker has started a round: running count from it, tick and phase anew. -/
structure RoundFrom (m : Marker) (t : State) : Prop where
  running : t.tb.running = m.round
  tick : t.tb.tick = 0
  phase : t.tb.phaseAge = 0

/-- R9: a marker is adopted and the node is in CARRY. -/
structure Adopted (m : Marker) (t : State) : Prop where
  trunk : t.tb.trunk = .carry
  lead : t.tb.lead = some m.lead
  flags : t.tb.flags = m.flags
  epoch : t.tb.epoch = m.epoch

/-- R9 to R11: no round has started, and the node keeps its lead address and its epoch. -/
structure RoundGoesOn (s t : State) : Prop where
  running : t.tb.running = s.tb.running
  tick : t.tb.tick = s.tb.tick
  phase : t.tb.phaseAge = s.tb.phaseAge
  lead : t.tb.lead = s.tb.lead
  epoch : t.tb.epoch = s.tb.epoch

/-- R46, R47: a bus that is not FAILED after the release step of a round start at which its lines are both high or not. -/
def BusHolds (high : Bool) (m : BusMaster) : Prop := high = true ∨ (m.state ≠ .failed ∧ (m.state = .releasing → m.release < 3))

/-- At a round start nothing but its marker can set the EVACUATE latch: no bus makes misses, no override ends, and GAS_EVACUATE
stands as the channels give it. -/
structure Calm (smp : Samples) (s : State) : Prop where
  buses : BusHolds smp.busHigh.one s.sbm.one ∧ BusHolds smp.busHigh.two s.sbm.two
  override : s.tu.ovr.state = .none
  gas : s.sau.causes.gasEvacuate = (localCausesOf s).gasEvacuate

/-- R107, R110: the EVACUATE latch after a marker is adopted: a clearing adoption leaves it set only under GAS_EVACUATE, a
silent one as it stands; the marker's own level, taken after, sets it. -/
def latchAfter (clearing : Bool) (m : Marker) (s : State) : Bool :=
  (if clearing = true ∧ m.epoch ≠ s.tb.epoch then s.sau.causes.gasEvacuate else s.sau.latch) || decide (m.level = .evacuate)

/-- R40: a new epoch sets both remote levels to NORMAL and both ages to 0; the level of the marker that brought it is taken
after. -/
def EpochTaken (m : Marker) (s t : State) : Prop :=
  m.epoch ≠ s.tb.epoch →
    t.cs.remote = ⟨{ level := m.level, age := 0 }, { level := .normal, age := 0 }⟩ ∧ t.sau.level = levelOf t

/-! ## The poll schedule (R45 to R53) -/

/-- R52: the due polls that join, where `held` are the head addresses in the list and in flight. -/
def joins (held : List Nat) : List Poll → List Poll
  | [] => []
  | p :: ps => if p.addr ∈ held then joins held ps else p :: joins (p.addr :: held) ps

/-- R50 to R52: the polls due on a bus at the round start that sets a running count, in the mode last reported to the bus. -/
def dueAt (running : Nat) (b : Bus) (s : State) : List Poll :=
  duePolls ((s.updTb fun t => { t with running := running }).updBus b fun m => { m with modeInUse := m.modeTold }) b

/-- R53: the list as a round start finds it: on entry to RESERVE without the polls of AIRFLOW and CO2 channels. -/
def standing (b : Bus) (s : State) : List Poll :=
  if (s.bus b).modeTold = .reserve ∧ (s.bus b).modeInUse ≠ .reserve then (s.bus b).list.filter fun p => !reservePoll s p
  else (s.bus b).list

/-- R52: the due polls that join the list of a bus. -/
def joining (running : Nat) (b : Bus) (s : State) : List Poll :=
  joins ((standing b s).map Poll.addr ++ (s.bus b).inFlight.toList.map fun f => f.poll.addr) (dueAt running b s)

/-- R45 to R47, R50 to R53: what a round start does to a sensor bus whose lines are both high or not. -/
structure BusRound (high : Bool) (b : Bus) (s t : State) : Prop where
  started : (t.bus b).started = 0
  mode : (t.bus b).modeInUse = (s.bus b).modeTold
  flight : (t.bus b).inFlight = (s.bus b).inFlight
  running : ((s.bus b).state = .idle ∨ (s.bus b).state = .polling) → (t.bus b).state = (s.bus b).state
  released : ((s.bus b).state = .releasing ∨ (s.bus b).state = .failed) → high = true →
    (t.bus b).state = .idle ∧ (t.bus b).release = 0
  again : (s.bus b).state = .releasing → high = false → (s.bus b).release < 3 →
    (t.bus b).state = .releasing ∧ (t.bus b).release = (s.bus b).release + 1
  fails : (s.bus b).state = .releasing → high = false → 3 ≤ (s.bus b).release →
    (t.bus b).state = .failed ∧ (t.bus b).list = []
  failed : (s.bus b).state = .failed → high = false → (t.bus b).state = .failed ∧ (t.bus b).list = standing b s
  list : BusHolds high (s.bus b) → (t.bus b).list = standing b s ++ joining t.tb.running b s
  skipped : ∀ (i : Fin 16) (p : Poll), p ∈ dueAt t.tb.running b s → p.target = .chan i → BusHolds high (s.bus b) →
    p ∉ joining t.tb.running b s → (t.channel i).skipped = true
  notSkipped : ∀ (i : Fin 16) (p : Poll), p ∈ dueAt t.tb.running b s → p.target = .chan i →
    (BusHolds high (s.bus b) → p ∈ joining t.tb.running b s) → (t.channel i).skipped = (s.channel i).skipped

/-- R33: the held count of a line at a round start that a marker with a hold request produces. -/
def heldAfter (before : Nat) : Option Nat → Nat
  | none => before - 1
  | some n => n

/-! ## Positions of a round (R21) -/

/-- R21: how many CONNECTED call entries use a line. -/
def connectedOn (l : Line) (s : State) : Nat :=
  (allCalls.filter fun i => match s.call i with
    | some e => e.state = .connected && e.uses l
    | none => false).length

/-- R135: a call entry as a round start's timers leave it: the state timer gains one, in CONNECTED the silence count of each
line it uses. -/
def Call.ticked (e : Call) : Call :=
  match e.state with
  | .connected => { e with silence :=
      { outbye := e.silence.outbye + (if e.uses .outbye then 1 else 0), inbye := e.silence.inbye + (if e.uses .inbye then 1 else 0) } }
  | _ => { e with timer := e.timer + 1 }

/-! ## Short names for operands -/

/-- R16: the trunk state command without parameters. -/
def trunkInstr (c : TrunkCommand) (src : Source) (tag : Byte) : Instr :=
  match c with
  | .start => .trunkStart src tag []
  | .halt => .trunkHalt src tag []
  | .setup => .trunkSetup src tag []

/-- R16: the states a trunk state command is taken in. -/
def TakenIn (c : TrunkCommand) (t : TimeBase) : Prop :=
  match c with
  | .start => (t.trunk = .setup ∧ t.addressInvalid = false) ∨ t.trunk = .halted
  | .halt => t.trunk ≠ .setup ∧ t.trunk ≠ .halted
  | .setup => t.trunk = .halted

/-- R180: the byte of a bus number. -/
def busByte : Bus → Byte
  | .one => 1#8
  | .two => 2#8

/-- The byte of a line (log 19). -/
def lineByte : Line → Byte
  | .outbye => 0#8
  | .inbye => 1#8

/-- One byte of a number. -/
def byteOf (n : Nat) : Byte := BitVec.ofNat 8 n

/-- A delivery queue's port, the one that takes from it (R34, R35): the SP the Safety queue, the CP the General queue. -/
def takesSafety : Port → Bool
  | .sp => true
  | .cp => false

/-! ## Invariants -/

/-- R81, R82, R86: no persisting cause without the latch; and the latch, the trip record and the trip stamp stand and fall
together. -/
structure TripHeld (s : State) : Prop where
  causes : s.tu.causes.any = true → s.tu.latch = true
  record : s.tu.record.isSome = s.tu.latch
  stamp : s.tb.tripStamp.isSome = s.tu.latch

/-- R45 to R47: what a sensor bus master may hold. -/
structure BusLegal (m : BusMaster) : Prop where
  started : m.started ≤ 16
  release : m.release ≤ 3
  flight : m.inFlight.isSome = true ↔ m.state = .polling
  failed : m.state = .failed → m.list = []

/-- Both buses are legal. -/
structure BusesLegal (s : State) : Prop where
  one : BusLegal s.sbm.one
  two : BusLegal s.sbm.two

/-- R60, R64, R92: a PENDING or ACTIVE override leaves an enabled CH4 bus channel with the VOTE flag outside its set. -/
def CoverageKept (s : State) : Prop :=
  s.tu.ovr.state ≠ .none → ∃ i : Fin 16, uncoveredVoter s.tu.ovr.set i (s.channel i) = true

/-- R122, R123, R140: the recency list holds each call entry in use once, the calls of a line stay within the budget in
force, and no ROUTINE call stands under EVACUATE. -/
structure CallsKept (s : State) : Prop where
  recency : ∀ i : Fin 12, i ∈ s.ctu.recency ↔ (s.call i).isSome = true
  once : s.ctu.recency.Nodup
  budget : ∀ l : Line, reservations s l ≤ budgetInForce s
  routine : s.ctu.level = .evacuate → ∀ (i : Fin 12) (e : Call), s.call i = some e → e.priority ≠ .routine

/-- R121: at most one call entry in use holds any reference. -/
def RefsOnce (s : State) : Prop :=
  ∀ (i j : Fin 12) (e f : Call), s.call i = some e → s.call j = some f → e.origin = f.origin → e.originIdx = f.originIdx → i = j

/-- R76, R101, R108: what the Supply Monitor, the Section Alarm Unit and the Gas Channel Unit hand over is held alike by the
blocks it is handed to. -/
structure HandedOver (s : State) : Prop where
  level : s.ctu.level = s.sau.level ∧ s.vu.level = s.sau.level
  mode : s.cs.supplyMode = s.tu.supply.mode ∧ s.gcu.supplyMode = s.tu.supply.mode ∧ s.ctu.supplyMode = s.tu.supply.mode
    ∧ s.sau.modeTold = s.tu.supply.mode ∧ s.sbm.one.modeTold = s.tu.supply.mode ∧ s.sbm.two.modeTold = s.tu.supply.mode
  methane : s.vu.methane = s.gcu.nodeMethane

/-- R24, R34, R156, R157, R172: the outgoing queues, the delivery queues, the notice queues, the wait list and the member list
hold no more than they may, and a port holds at most one notice of each unmaskable kind. -/
structure WithinCapacity (s : State) : Prop where
  signal : s.cs.queues.outbye.signal.length ≤ 16 ∧ s.cs.queues.inbye.signal.length ≤ 16
  data : s.cs.queues.outbye.data.length ≤ 48 ∧ s.cs.queues.inbye.data.length ≤ 48
  delivery : s.cs.safetyQ.length ≤ 64 ∧ s.cs.generalQ.length ≤ 64
  waits : s.vu.waits.length ≤ 8
  notices : maskableCount s.pi.ports.sp.queue ≤ 24 ∧ maskableCount s.pi.ports.cp.queue ≤ 24
  members : s.vu.members.length ≤ 4 ∧ s.vu.cfg.convoy ≤ 4
  unmaskable : ∀ k : NoticeKind, k.maskable = false →
    (s.pi.ports.sp.queue.filter fun n => n.kind = k).length ≤ 1 ∧ (s.pi.ports.cp.queue.filter fun n => n.kind = k).length ≤ 1

/-- R153: what no DIESEL vehicle carries under a node methane level of TRIP or ALARM. -/
def DieselHeld (s : State) : Prop :=
  ∀ (i : Fin 16) (v : Vehicle), s.vehicle i = some v → v.kind = .diesel →
    (s.vu.methane = .trip → v.order ≠ .proceed ∧ v.order ≠ .evacuate)
    ∧ (s.vu.methane = .alarm → v.heading ≠ .outbye → v.order ≠ .proceed)

/-- R80, R103, R104, R108: the persisting cause set, the local cause set and the section level are what their inputs give. -/
structure LevelsDerived (s : State) : Prop where
  trip : s.tu.causes = computeCauses s
  alarm : s.sau.causes = localCausesOf s
  level : s.sau.level = levelOf s

end Sys2Proof.Machine
end

