-- ==== Sys2Proof/Certificates/Slice0/Obligations.lean ====
section
/-! DEFINITION. The statements about the machine, in the order of the chapters: one `def Obligations.<Name> : Prop` each. A
docstring names the rules a statement rests on, and the log entry where it rests on a choice of the model. -/

open Sys2Proof Sys2Proof.Machine

/-! ## The queue of commands, the resets -/

/-- The part takes the command at the front of its queue: a step is that command on the state with the queue's rest. -/
def Obligations.StepRunsFront : Prop :=
  ∀ (c : Instr) (rest : List Instr) (s : State), s.pending = c :: rest → step s = exec c { s with pending := rest }

/-- R1, log 1 (the model's choice): with nothing waiting, a step lets one tick pass. The tick count stops at 255; only the
ages that the Time Base and the radio receiver reckon in ticks move with it. R144: a frame in progress is discarded with
TIMEOUT at its 64th tick. -/
def Obligations.StepIdles : Prop :=
  ∀ s : State, s.pending = [] →
    ∃ t, step s = .next t ∧ t.tb.tick = min 255 (s.tb.tick + 1) ∧ t.tb.running = s.tb.running ∧ t.tb.trunk = s.tb.trunk
      ∧ t.tb.phaseAge = s.tb.phaseAge + 1 ∧ SameBut [.tb, .vu] s t
      ∧ (s.vu.radio.inFrame = false → t.vu = s.vu)
      ∧ (s.vu.radio.inFrame = true → s.vu.radio.frameAge < 63 →
          t.vu = { s.vu with radio := { s.vu.radio with frameAge := s.vu.radio.frameAge + 1 } })
      ∧ (s.vu.radio.inFrame = true → 63 ≤ s.vu.radio.frameAge →
          t.vu = { s.vu with radio := { s.vu.radio with
            inFrame := false, frameAge := 0, discards := min 65535 (s.vu.radio.discards + 1), lastReason := some .timeout } })

/-- R178, R177: the reset-cause record. -/
def Obligations.ResetCause : Prop :=
  ∀ (role : Role) (straps : Nat) (s : State),
    (∃ t, Goes (.powerOnReset role straps) s t ∧ t.pi.powerOn = true ∧ t.pi.external = false)
    ∧ (∃ t, Goes (.externalReset role straps) s t ∧ t.pi.external = true ∧ t.pi.powerOn = s.pi.powerOn)
    ∧ (∀ (p : Port) (tag : Byte), ∃ t, Goes (.statusReadClear (portSource p) tag 0) s t ∧ t.pi.powerOn = false ∧ t.pi.external = false)
    ∧ ∀ s' : State, ∃ t t', Goes (.externalReset role straps) s t ∧ Goes (.externalReset role straps) s' t'
        ∧ t.pi.ports = t'.pi.ports

/-- R3, R15, R84, 9.6: what either reset leaves: the role and the straps as read, the trunk state they give, every block at
its reset value, and the restart trip. 9.6 gives no value for the last samples of mains and battery, the lines of the buses as
sampled, the carrier of the lines and the ORDER frames that wait for the radio port: those in the reset values of the blocks are
the model's choice (log 5). That a head
strapped to another address than 0 delivers its report here is read from the end of R23 (log 44); that the TRIP notice stands
before the DELIVERY_WAITING of a report delivered here is the order in which R84 lists the two, which it does not call one
(log 47). -/
def Obligations.ResetsRestart : Prop :=
  ∀ (role : Role) (straps : Nat) (s : State) (i : Instr), (i = .powerOnReset role straps ∨ i = .externalReset role straps) →
    ∃ t, Goes i s t
      ∧ t.tb.role = role ∧ t.tb.address = straps ∧ t.tb.running = 0 ∧ t.tb.tick = 0 ∧ t.tb.epoch = 0
      ∧ t.tb.params = .default ∧ t.tb.pendingCmd = none ∧ t.tb.candidate = none
      ∧ (role = .head → straps = 0 → t.tb.trunk = .leading ∧ t.tb.lead = some 0 ∧ t.tb.addressInvalid = false)
      ∧ (role = .junction → 1 ≤ straps → straps ≤ 62 → t.tb.trunk = .listen ∧ t.tb.lead = none ∧ t.tb.addressInvalid = false)
      ∧ (role = .head → straps ≠ 0 → t.tb.trunk = .setup ∧ t.tb.addressInvalid = true)
      ∧ (role = .junction → (straps = 0 ∨ 62 < straps) → t.tb.trunk = .setup ∧ t.tb.addressInvalid = true)
      ∧ t.tu = { TripUnit.boot with latch := true, record := some restartRecord } ∧ t.tripOut = false
      ∧ t.tb.tripStamp = some { round := 0, tick := 0 }
      ∧ t.sbm = ⟨.boot, .boot⟩ ∧ t.gcu = .boot ∧ t.sau = .boot ∧ t.ctu = .boot ∧ t.vu = .boot ∧ t.pending = s.pending
      ∧ (1 ≤ straps → role = .junction →
          t.cs = { CellSwitch.boot with queues := ⟨⟨[restartReport straps], []⟩, ⟨[], []⟩⟩ }
          ∧ t.pi.ports.sp = { PortState.boot with queue := [restartNotice] }
          ∧ t.pi.ports.cp = { PortState.boot with queue := [restartNotice] })
      ∧ (straps = 0 ∨ role = .head → t.cs = { CellSwitch.boot with safetyQ := [restartReport straps] }
          ∧ t.pi.ports.cp = { PortState.boot with queue := [restartNotice] }
          ∧ t.pi.ports.sp.queue.head? = some restartNotice)

/-! ## Chapter 1: rounds and the trunk -/

/-- R1, R2, R5, R21, R22, R31, R36, R45 to R47, R50 to R53, R135, R136: a round start from own timing: the tick count becomes 0,
the running count advances by one and wraps from 4095 to 0; what commands have configured stays. LINE_UP is that of the round
just ended; the DATA queues are examined as they stood, and an announcement stays pending where the line carries no cell 0 of
the node; the positions are filled under the hold counts as they stood and from the call entries as they stand after timers and
clears: an entry that is still in use after the round start was in use before it and has been ticked, one whose state timer or
silence count runs out is gone, and what the filling takes of a buffer or slot, or counts as an underrun, is all that it changes
of one. That cell 0 carries the levels, the TRIP_OUT state and the supply mode as they are after the rest of that round start's
work is the model's order (log 3): R22 says which blocks give them, and no rule says whether before or after their own work at
that round start. Each bus takes its release step and then the polls due on it, a poll whose head address has its place already
being dropped, with SKIPPED for a channel. When a channel or a refuge record is due is stated with it. A FREE queue's period
count is held at 0 (log 45); that the row does nothing in a state whose rounds are timed by markers is the model's inference
(log 10). -/
def Obligations.RoundStartOwnTiming : Prop :=
  (∀ (smp : Samples) (s : State),
    (s.tb.trunk ≠ .carry → (s.tb.trunk = .join → s.tb.joinCnt = 0) →
      ∃ t, Goes (.roundStart smp) s t ∧ t.tb.tick = 0 ∧ t.tb.running = (s.tb.running + 1) % 4096 ∧ t.tb.phaseAge = 0
        ∧ ConfigKept s t ∧ t.pending = s.pending
        ∧ (∀ l : Line, ((t.cs.status.get l).lineUp = true ↔ smp.carrier.get l = .throughout
              ∧ (s.cs.status.get l).lostThisRound = false ∧ (s.cs.status.get l).goodCell = true)
            ∧ t.cs.holding.get l = (examineQueue l s).cs.holding.get l
            ∧ t.cs.announce.get l = (if sendsOn t l = true ∧ sendsCellZero t l = true then none
                else (examineQueue l.other s).cs.announce.get l))
        ∧ (∃ u : State, u.tb = t.tb ∧ u.sau = t.sau ∧ u.tu = t.tu ∧ u.cs.supplyMode = t.cs.supplyMode
            ∧ u.cs.queues = s.cs.queues ∧ u.cs.announce = s.cs.announce ∧ u.cs.holding = s.cs.holding
            ∧ u.cs.holdParams = s.cs.holdParams
            ∧ (∀ i : Fin 12, u.call i = if (t.call i).isSome = true then (s.call i).map Call.ticked else none)
            ∧ t.ctu = (fillWork ⟨0 < s.cs.held.outbye, 0 < s.cs.held.inbye⟩ u).ctu
            ∧ t.cs.sent = (fillWork ⟨0 < s.cs.held.outbye, 0 < s.cs.held.inbye⟩ u).cs.sent)
        ∧ (∀ i : Fin 12, ((stateTimeoutDue s i).isSome = true ∨ lossDue s i = true) → t.call i = none)
        ∧ (∀ b : Bus, BusRound (smp.busHigh.get b) b s t)
        ∧ ∀ i : Fin 16, (∀ (b : Bus) (p : Poll), p ∈ dueAt t.tb.running b s → p.target ≠ .chan i) →
            (t.channel i).skipped = (s.channel i).skipped)
    ∧ (s.tb.trunk = .carry → Goes (.roundStart smp) s s))
  ∧ (∀ (l : Line) (s : State) (h : Holding) (n : Nat), h = s.cs.holding.get l → n = (s.cs.queues.get l).data.length →
      (h.holding = false → n < s.cs.holdParams.high → examineQueue l s = s)
      ∧ (h.holding = true → s.cs.holdParams.low < n → 1 < h.period → examineQueue l s =
          { s with cs := { s.cs with holding := s.cs.holding.set l { holding := true, period := h.period - 1 } } })
      ∧ (h.holding = true → n ≤ s.cs.holdParams.low → examineQueue l s = { s with cs := { s.cs with
          holding := s.cs.holding.set l { holding := false, period := 0 }, announce := s.cs.announce.set l.other (some 0) } })
      ∧ ((h.holding = false ∧ s.cs.holdParams.high ≤ n) ∨ (h.holding = true ∧ s.cs.holdParams.low < n ∧ h.period ≤ 1) →
          examineQueue l s = { s with cs := { s.cs with
            holding := s.cs.holding.set l { holding := true, period := s.cs.holdParams.length }
            announce := s.cs.announce.set l.other (some s.cs.holdParams.length) } }))
  ∧ ∀ (b : Bus) (s : State) (q : Poll),
      (∀ i : Fin 16, channelDue s b i = some q ↔ ∃ (f : ChannelConfig) (p : PollConfig) (n : Nat), (s.channel i).cfg = some f
        ∧ f.poll = some p ∧ (s.channel i).enabled = true ∧ p.bus = b ∧ i ≠ 15 ∧ (s.tb.running + p.phase) % n = 0
        ∧ n = (match (s.bus b).modeInUse with
            | .mains => p.interval
            | .battery => 2 * p.interval
            | .reserve => 4 * p.interval)
        ∧ ((s.bus b).modeInUse = .reserve → f.kind ≠ .airflow ∧ f.kind ≠ .co2) ∧ q = { target := .chan i, addr := p.addr })
      ∧ (∀ r : Fin 4, refugeDue s b r = some q ↔ ∃ a, (s.refuge r).head = some (b, a) ∧ (s.tb.running + r.val) % 10 = 0
          ∧ q = { target := .refuge r, addr := a })
      ∧ duePolls s b = [0, 1, 2, 3, 4, 5, 6, 7, 8, 9, 10, 11, 12, 13, 14].filterMap (channelDue s b)
          ++ [0, 1, 2, 3].filterMap (refugeDue s b)
      ∧ (reservePoll s q = true ↔ ∃ (i : Fin 16) (f : ChannelConfig), q.target = .chan i ∧ (s.channel i).cfg = some f
          ∧ (f.kind = .airflow ∨ f.kind = .co2))

/-- R6 to R9, R13, R33, R39, R40, R107, R110: a well-formed marker in CARRY, LISTEN and JOIN, with no trunk command pending. In
CARRY the valid marker of the round starts it: its round number, lead, flags and epoch are taken, the phase is trimmed to it, and
its source, hold request and level stand for the OUTBYE line. A new epoch under the lead held is a clearing adoption, which leaves
the EVACUATE latch set only under GAS_EVACUATE or by the marker's own level; under another lead, and on entry to CARRY from JOIN,
it is silent and the latch stands; either way the remote levels and ages start anew. In LISTEN, and in JOIN where it does not extend the run, it starts a run of
the hunt; a valid one of the run's lead extends it, and the one that completes the join count is adopted; but a hunt limit
reached at that round start enters ISLAND_LEAD whatever the join count (log 13). -/
def Obligations.MarkerCarries : Prop :=
  ∀ (cell : Bytes) (smp : Samples) (s : State) (m : Marker), MarkerCell cell m s → s.tb.pendingCmd = none →
    (validEarly s.tb m = true ↔
      252 ≤ s.tb.phaseAge ∧ s.tb.phaseAge ≤ 260 ∧ m.round = (s.tb.running + 1) % 4096)
    ∧ (s.tb.trunk = .carry → validEarly s.tb m = true →
      ∃ t, Goes (.markerReceived cell smp) s t ∧ Adopted m t ∧ RoundFrom m t
        ∧ t.cs.status.outbye.neighbour = some m.src ∧ t.cs.remote.outbye = { level := m.level, age := 0 }
        ∧ t.cs.held.outbye = heldAfter s.cs.held.outbye m.hold
        ∧ (Calm smp s → t.sau.latch = latchAfter (decide (s.tb.lead = some m.lead)) m s) ∧ EpochTaken m s t
        ∧ ConfigKept s t ∧ t.pending = s.pending)
    ∧ ((s.tb.trunk = .listen ∨ s.tb.trunk = .join) →
        (s.tb.params.listenTimeout * s.tb.params.noiseFactor ≤ s.tb.listenAge + 1
          ∨ s.tb.params.listenTimeout ≤ (if smp.carrier.outbye = .absent then s.tb.quietCnt + 1 else 0)) →
        ∃ t, Goes (.markerReceived cell smp) s t ∧ RoundFrom m t ∧ t.tb.trunk = .islandLead ∧ t.tb.lead = some s.tb.address
          ∧ t.tb.epoch = s.tb.epoch ∧ t.tb.rejoin.count = 0)
    ∧ (s.tb.listenAge + 1 < s.tb.params.listenTimeout * s.tb.params.noiseFactor →
        (if smp.carrier.outbye = .absent then s.tb.quietCnt + 1 else 0) < s.tb.params.listenTimeout →
        (s.tb.trunk = .listen ∨ (s.tb.trunk = .join ∧
            (s.tb.joinCnt = 0 ∨ validEarly s.tb m = false ∨ m.lead ≠ s.tb.runLead)) →
          ∃ t, Goes (.markerReceived cell smp) s t ∧ RoundFrom m t ∧ t.tb.trunk = .join ∧ t.tb.joinCnt = 1
            ∧ t.tb.runLead = m.lead ∧ t.tb.lead = s.tb.lead ∧ t.tb.epoch = s.tb.epoch ∧ t.tb.listenAge = s.tb.listenAge + 1)
        ∧ (s.tb.trunk = .join → s.tb.joinCnt ≠ 0 → validEarly s.tb m = true → m.lead = s.tb.runLead →
          (s.tb.joinCnt + 1 < s.tb.params.joinCount →
            ∃ t, Goes (.markerReceived cell smp) s t ∧ RoundFrom m t ∧ t.tb.trunk = .join ∧ t.tb.joinCnt = s.tb.joinCnt + 1
              ∧ t.tb.runLead = s.tb.runLead ∧ t.tb.lead = s.tb.lead ∧ t.tb.epoch = s.tb.epoch)
          ∧ (s.tb.params.joinCount ≤ s.tb.joinCnt + 1 →
            ∃ t, Goes (.markerReceived cell smp) s t ∧ RoundFrom m t ∧ Adopted m t ∧ ConfigKept s t
              ∧ (Calm smp s → t.sau.latch = latchAfter false m s) ∧ EpochTaken m s t)))

/-- R1, R6, R9 to R11, R13, R40, R107, R110: HOLDOVER and ISLAND_LEAD, with no trunk command pending. In CARRY the window closing
with no valid marker taken starts the round and enters HOLDOVER, the lead held and the holdover count 0; a stray marker enters HOLDOVER as the
candidate, a bad one in the window with none, and the round goes on. In HOLDOVER a valid marker is adopted, with a round start
before the expected tick 0 and none after it (log 11), as is one that confirms the candidate; that such a marker goes before a
holdover limit due at the round start it produces is the model's choice (log 13); any other becomes the candidate.
In ISLAND_LEAD a marker extends the rejoin run or starts a new one, and the one that completes the join count is adopted. A new
epoch is adopted clearing where a return from HOLDOVER keeps the lead, and silently where the lead changes or an island rejoins. -/
def Obligations.WindowCloseEntersHoldover : Prop :=
  (∀ (smp : Samples) (s : State), s.tb.trunk = .carry → s.tb.pendingCmd = none →
    ∃ t, Goes (.markerWindowClose smp) s t ∧ t.tb.trunk = .holdover ∧ t.tb.holdoverCnt = 0 ∧ t.tb.candidate = none
      ∧ t.tb.lead = s.tb.lead ∧ t.tb.epoch = s.tb.epoch ∧ t.tb.tick = 0 ∧ t.tb.running = (s.tb.running + 1) % 4096
      ∧ ConfigKept s t ∧ t.pending = s.pending)
  ∧ (∀ (cell : Bytes) (smp : Samples) (s : State), s.tb.role = .junction → crcGood cell = false →
      ∃ t, Goes (.markerReceived cell smp) s t ∧ RoundGoesOn s t ∧ t.cs.status.outbye.crcErrors = true
        ∧ (s.tb.trunk = .carry → (252 ≤ s.tb.phaseAge ∧ s.tb.phaseAge ≤ 260) →
            t.tb.trunk = .holdover ∧ t.tb.holdoverCnt = 0 ∧ t.tb.candidate = none)
        ∧ (s.tb.trunk = .join → (252 ≤ s.tb.phaseAge ∧ s.tb.phaseAge ≤ 260) → t.tb = { s.tb with joinCnt := 0 })
        ∧ (s.tb.trunk = .islandLead → 252 ≤ s.tb.rejoin.age → s.tb.rejoin.age ≤ 260 →
            t.tb.trunk = .islandLead ∧ t.tb.rejoin.count = 0)
        ∧ ((s.tb.trunk = .listen ∨ s.tb.trunk = .holdover) → t.tb = s.tb))
  ∧ ∀ (cell : Bytes) (smp : Samples) (s : State) (m : Marker), MarkerCell cell m s → s.tb.pendingCmd = none →
      (s.tb.trunk = .carry → validEarly s.tb m = false →
        ∃ t, Goes (.markerReceived cell smp) s t ∧ RoundGoesOn s t ∧ t.tb.trunk = .holdover ∧ t.tb.holdoverCnt = 0
          ∧ t.tb.candidate = some { round := m.round, age := 0 })
      ∧ (validLate s.tb m = true ↔
          s.tb.trunk = .holdover ∧ m.round = s.tb.running ∧ ∃ k, s.tb.lateUntil = some k ∧ s.tb.phaseAge ≤ k)
      ∧ (confirms s.tb m = true ↔
          ∃ c, s.tb.candidate = some c ∧ 252 ≤ c.age ∧ c.age ≤ 260 ∧ m.round = (c.round + 1) % 4096)
      ∧ (s.tb.trunk = .holdover →
          (validEarly s.tb m = true → ∃ t, Goes (.markerReceived cell smp) s t ∧ Adopted m t ∧ RoundFrom m t
              ∧ (Calm smp s → t.sau.latch = latchAfter (decide (s.tb.lead = some m.lead)) m s) ∧ EpochTaken m s t)
          ∧ (validEarly s.tb m = false → validLate s.tb m = true →
              ∃ t, Goes (.markerReceived cell smp) s t ∧ Adopted m t ∧ t.tb.running = s.tb.running ∧ t.tb.tick = s.tb.tick
                ∧ t.tb.phaseAge = 0 ∧ EpochTaken m s t
                ∧ (s.tu.ovr.state = .none → t.sau.latch = latchAfter (decide (s.tb.lead = some m.lead)) m s))
          ∧ (validEarly s.tb m = false → validLate s.tb m = false → confirms s.tb m = true →
              ∃ t, Goes (.markerReceived cell smp) s t ∧ Adopted m t ∧ RoundFrom m t
                ∧ (Calm smp s → t.sau.latch = latchAfter (decide (s.tb.lead = some m.lead)) m s) ∧ EpochTaken m s t)
          ∧ (validEarly s.tb m = false → validLate s.tb m = false → confirms s.tb m = false →
              ∃ t, Goes (.markerReceived cell smp) s t ∧ RoundGoesOn s t ∧ t.tb.trunk = .holdover
                ∧ t.tb.candidate = some { round := m.round, age := 0 }))
      ∧ (extendsRun s.tb m = true ↔ s.tb.rejoin.count ≠ 0 ∧ 252 ≤ s.tb.rejoin.age ∧ s.tb.rejoin.age ≤ 260
          ∧ m.round = (s.tb.rejoin.round + 1) % 4096 ∧ m.lead = s.tb.rejoin.lead)
      ∧ (s.tb.trunk = .islandLead →
          (extendsRun s.tb m = true → s.tb.params.joinCount ≤ s.tb.rejoin.count + 1 →
            ∃ t, Goes (.markerReceived cell smp) s t ∧ Adopted m t ∧ RoundFrom m t
              ∧ (Calm smp s → t.sau.latch = latchAfter false m s) ∧ EpochTaken m s t)
          ∧ (extendsRun s.tb m = true → s.tb.rejoin.count + 1 < s.tb.params.joinCount →
            ∃ t, Goes (.markerReceived cell smp) s t ∧ RoundGoesOn s t ∧ t.tb.trunk = .islandLead
              ∧ t.tb.rejoin = { count := s.tb.rejoin.count + 1, lead := m.lead, round := m.round, age := 0 })
          ∧ (extendsRun s.tb m = false →
            ∃ t, Goes (.markerReceived cell smp) s t ∧ RoundGoesOn s t ∧ t.tb.trunk = .islandLead
              ∧ t.tb.rejoin = { count := 1, lead := m.lead, round := m.round, age := 0 }))

/-- R7, R10, R11, R17, R143: the hunt limits and the holdover limit enter ISLAND_LEAD where no trunk command is pending: the node
leads with its own address and its epoch kept, and every call is gone; a pending trunk command takes the place of that
transition (log 12). A candidate whose window has passed is dropped, and a rejoin run whose window has passed returns to 0. The
rows act at the brink (log 2). -/
def Obligations.TrunkLimits : Prop :=
  (∀ (s : State) (c : Candidate), s.tb.trunk = .holdover → s.tb.candidate = some c → 260 ≤ c.age →
    Goes .candidateDrop s { s with tb := { s.tb with candidate := none } })
  ∧ (∀ s : State, s.tb.trunk = .islandLead → s.tb.rejoin.count ≠ 0 → 260 ≤ s.tb.rejoin.age →
    Goes .rejoinRunLapse s { s with tb := { s.tb with rejoin := { count := 0, lead := 0, round := 0, age := 0 } } })
  ∧ ∀ (s : State) (i : Instr),
    ((i = .listenTimeout ∧ (s.tb.trunk = .listen ∨ s.tb.trunk = .join)
        ∧ (s.tb.params.listenTimeout * s.tb.params.noiseFactor ≤ s.tb.listenAge + 1
          ∨ (s.cs.status.outbye.carrier = false ∧ s.cs.status.outbye.lostThisRound = false
              ∧ s.tb.params.listenTimeout ≤ s.tb.quietCnt + 1)))
      ∨ (i = .holdoverLimit ∧ s.tb.trunk = .holdover ∧ s.tb.params.holdoverLimit ≤ s.tb.holdoverCnt + 1)) →
    (s.tb.pendingCmd = none → ∃ t, Goes i s t ∧ t.tb.trunk = .islandLead ∧ t.tb.lead = some s.tb.address
      ∧ t.tb.epoch = s.tb.epoch ∧ t.tb.running = s.tb.running ∧ t.tb.rejoin.count = 0 ∧ t.tb.candidate = none
      ∧ (∀ c : Fin 12, t.call c = none) ∧ SameBut [.tb, .cs, .ctu, .pi] s t)
    ∧ (s.tb.pendingCmd ≠ none → ∃ t, Goes i s t ∧ Goes .trunkCommandApply s t ∧ t.tb.pendingCmd = none)

/-- R15, R16: a trunk state command: BUSY while another is pending, then WRONG_STATE in a state not listed for it, otherwise it
becomes the pending trunk command and nothing else changes. TRUNK_CONFIGURE in SETUP sets the five parameters, each moved to
the nearer limit of its range; in any other state it is refused and changes nothing. -/
def Obligations.TrunkCommandTaken : Prop :=
  (∀ (src : Source) (tag : Byte) (p : Bytes) (s : State), src ≠ .sp → p.length = 7 → s.tb.pendingCmd = none →
    (s.tb.trunk = .setup → ∃ q : TrunkParams,
      Goes (.trunkConfigure src tag p) s (respond src tag (done (trunkParamBytes q)) { s with tb := { s.tb with params := q } })
      ∧ q.joinCount = min 32 (max 2 (byteAt p 0)) ∧ q.holdoverLimit = min 400 (max 4 (wordAt p 1))
      ∧ q.listenTimeout = min 2000 (max 20 (wordAt p 3)) ∧ q.noiseFactor = min 16 (max 1 (byteAt p 5))
      ∧ q.staleLimit = min 200 (max 10 (byteAt p 6)))
    ∧ (s.tb.trunk ≠ .setup → Goes (.trunkConfigure src tag p) s (respond src tag (refused .wrongState) s)))
  ∧ ∀ (c : TrunkCommand) (src : Source) (tag : Byte) (s : State), src ≠ .sp →
    (s.tb.pendingCmd ≠ none → Goes (trunkInstr c src tag) s (respond src tag (refused .busy) s))
    ∧ (s.tb.pendingCmd = none → ¬ TakenIn c s.tb → Goes (trunkInstr c src tag) s (respond src tag (refused .wrongState) s))
    ∧ (s.tb.pendingCmd = none → TakenIn c s.tb → Goes (trunkInstr c src tag) s (respond src tag (accepted [])
        { s with tb := { s.tb with pendingCmd := some { cmd := c, src := src, tag := tag } } }))

/-- R17, R168: the pending trunk command is applied and cleared; START clears the counts of the hunt, the holdover and the
rejoin run, HALT makes a junction's lead absent, every command leaves running count and epoch, and COMMAND_DONE goes to the port
that issued it. That the row applies the command by itself, apart from a round start, so that these four blocks alone change,
is the model's choice (log 12). -/
def Obligations.TrunkCommandApplied : Prop :=
  ∀ (c : TrunkCommand) (src : Source) (tag : Byte) (s : State),
    s.tb.pendingCmd = some { cmd := c, src := src, tag := tag } → TakenIn c s.tb →
    ∃ t, Goes .trunkCommandApply s t ∧ t.tb.pendingCmd = none ∧ t.tb.running = s.tb.running ∧ t.tb.epoch = s.tb.epoch
      ∧ (c = .start → s.tb.role = .junction → t.tb.trunk = .listen ∧ t.tb.lead = none)
      ∧ (c = .start → s.tb.role = .head → t.tb.trunk = .leading ∧ t.tb.lead = some 0)
      ∧ (c = .start → t.tb.quietCnt = 0 ∧ t.tb.listenAge = 0 ∧ t.tb.joinCnt = 0 ∧ t.tb.holdoverCnt = 0 ∧ t.tb.rejoin.count = 0)
      ∧ (c = .halt → t.tb.trunk = .halted ∧ (∀ i : Fin 12, t.call i = none) ∧ t.tb.candidate = none ∧ t.tb.rejoin.count = 0)
      ∧ (c = .halt → s.tb.role = .junction → t.tb.lead = none) ∧ (c = .halt → s.tb.role = .head → t.tb.lead = s.tb.lead)
      ∧ (c = .setup → t.tb = { s.tb with trunk := .setup, pendingCmd := none })
      ∧ (∀ p : Port, src = portSource p → ∃ u : State,
          t = post p .commandDone [byteOf (TrunkCommandCode c), tag, byteOf t.tb.trunk.code] u)
      ∧ SameBut [.tb, .cs, .ctu, .pi] s t

/-! ## Chapter 2: cells, queues, lines -/

/-- R4, R5, R21, R22, R24: a line on which the node sends carries sixteen cells in a round: cell 0, which holds what R5 and R22
give it and takes the announcement pending for the line with it, then one CALL cell for each CONNECTED call that uses the line,
then as many SIGNAL cells as the queue holds and the round takes, then as many DATA cells, none while the line is held, then IDLE
cells; each queue gives its oldest first; the other line is not touched. No rule gives cell 0 a destination: that it is 63 is the
model's inference (log 7). -/
def Obligations.RoundFillsSixteen : Prop :=
  ∀ (l : Line) (held : Bool) (s : State) (k n m : Nat), sendsOn s l = true → k = connectedOn l s →
    n = min (15 - k) (s.cs.queues.get l).signal.length →
    m = (if held = true then 0 else min (15 - k - n) (s.cs.queues.get l).data.length) →
    ∃ t, t = fillLine l held s ∧ (t.cs.sent.get l).length = 16
      ∧ t.cs.queues.get l = { signal := (s.cs.queues.get l).signal.drop n, data := (s.cs.queues.get l).data.drop m }
      ∧ (∀ c ∈ (t.cs.sent.get l).take 1, c.kind = match l with
          | .outbye => 2
          | .inbye => if s.tb.trunk = .listen ∨ s.tb.trunk = .join then 0 else 1)
      ∧ t.cs.announce = s.cs.announce.set l (if sendsCellZero s l = true then none else s.cs.announce.get l)
      ∧ (∀ hold : Option Nat, hold = s.cs.announce.get l →
          (l = .outbye → ∃ c : Cell, (t.cs.sent.get l).head? = some c ∧ c.src = s.tb.address ∧ c.dst = 63 ∧ c.hop = 0
            ∧ c.payload = u8 s.tb.epoch ++ u8 s.sau.sentOutbye.code ++ u8 (4 * flag hold.isSome + 8 * flag s.tripOut)
                ++ u8 (hold.getD 0) ++ u8 s.cs.supplyMode.code)
          ∧ (l = .inbye → s.tb.trunk ≠ .listen → s.tb.trunk ≠ .join →
            ∃ (c : Cell) (lead flags : Nat), (t.cs.sent.get l).head? = some c ∧ c.src = s.tb.address ∧ c.dst = 63 ∧ c.hop = 0
              ∧ c.payload = u16 s.tb.running ++ u8 lead ++ u8 s.tb.epoch ++ u8 s.sau.sentInbye.code
                  ++ u8 (flags + 4 * flag hold.isSome) ++ u8 (hold.getD 0)
              ∧ (s.tb.trunk = .leading → lead = 0 ∧ flags = 0) ∧ (s.tb.trunk = .islandLead → lead = s.tb.address ∧ flags = 2)
              ∧ (∀ a, (s.tb.trunk = .carry ∨ s.tb.trunk = .holdover) → s.tb.lead = some a → lead = a)
              ∧ (s.tb.trunk = .carry → flags = flag s.tb.flags.holdover + 2 * flag s.tb.flags.island)
              ∧ (s.tb.trunk = .holdover → flags = 1 + 2 * flag s.tb.flags.island)))
      ∧ (∀ c ∈ ((t.cs.sent.get l).drop 1).take k, c.kind = 80 ∨ c.kind = 81)
      ∧ ((t.cs.sent.get l).drop (1 + k)).take (n + m)
          = (s.cs.queues.get l).signal.take n ++ (s.cs.queues.get l).data.take m
      ∧ (∀ c ∈ (t.cs.sent.get l).drop (1 + k + n + m), c.kind = 0)
      ∧ (t.cs.queues.get l.other = s.cs.queues.get l.other ∧ t.cs.sent.get l.other = s.cs.sent.get l.other)
      ∧ SameBut [.cs, .ctu] s t

/-- R26, R33, R39, R183: a good UPLINK cell in position 0 of INBYE: its source, the neighbour's TRIP_OUT and supply mode are
kept for LINE_STATUS_READ, its hold request is acted on whatever its epoch, and its level is taken when its epoch is the node's
own. -/
def Obligations.UplinkTaken : Prop :=
  ∀ (cell : Bytes) (s : State), crcGood cell = true → byteAt cell 0 = 2 → byteAt cell 1 % 32 = 5 →
    ∃ t, Goes (.uplinkReceived cell) s t
      ∧ t.cs.status.inbye.neighbour = some (byteAt cell 2 % 64)
      ∧ t.cs.status.inbye.nbTripOut = some (bitOf (byteAt cell 8) 3)
      ∧ t.cs.status.inbye.nbMode = some (supplyModeOf (byteAt cell 10))
      ∧ (bitOf (byteAt cell 8) 2 = false → t.cs.held = s.cs.held)
      ∧ (bitOf (byteAt cell 8) 2 = true → t.cs.held = { s.cs.held with inbye := byteAt cell 9 }
          ∧ (byteAt cell 9 ≠ 0 → t.cs.status.inbye.holdReceived = true))
      ∧ (byteAt cell 6 = s.tb.epoch → t.cs.remote.inbye = { level := sectionLevelOf (byteAt cell 7), age := 0 }
          ∧ t.sau.level = levelOf t)
      ∧ (byteAt cell 6 ≠ s.tb.epoch → t.cs.remote = s.cs.remote ∧ t.sau = s.sau)
      ∧ t.cs.remote.outbye = s.cs.remote.outbye ∧ StampsOnly s t ∧ t.sbm = s.sbm ∧ t.pending = s.pending

/-- R20, R25 to R28, R30: a cell of positions 1 to 15. One with a bad CRC latches CRC_ERRORS and counts as filtered (but for
kind code 0, log 27); a good IDLE cell does nothing more, a MARKER or UPLINK counts as filtered. Any other good cell is dropped
and counted in exactly the cases of R28; or handed to the Call Table Unit, for class CALL; or consumed here by its kind; or
relayed onward with its hop count raised by one and nothing else changed, unless RESERVE refuses it with DATA_DROPPED; or
discarded and counted, where the onward line is the line of arrival. `markGood` notes for LINE_UP (R36) that a good cell came. -/
def Obligations.CellsDisposed : Prop :=
  ∀ (l : Line) (raw : Bytes) (c : Cell) (s : State) (i : Instr), c = decodeCell raw → (s.tb.role = .head → l = .inbye) →
    i = .cellReceived l raw →
    (crcGood raw = false → Goes i s
      (if c.kind = 0 then latchInd l .crcErrors s else addFiltered l (latchInd l .crcErrors s)))
    ∧ (crcGood raw = true → c.kind = 0 → Goes i s (markGood l s))
    ∧ (crcGood raw = true → (c.kind = 1 ∨ c.kind = 2) → Goes i s (addFiltered l (markGood l s)))
    ∧ (dropped s l (rawLength raw) c = true ↔
        24 < rawLength raw
        ∨ (∃ cls lo hi, kindInfo c.kind = some (cls, lo, hi) ∧ (rawLength raw < lo ∨ hi < rawLength raw))
        ∨ (c.kind = 64 ∧ c.src ≠ 0)
        ∨ (kindInfo c.kind = none ∧ (c.cls = .alarm ∨ c.cls = .call ∨ (s.cs.dropSet.get l).kindUnknown = true))
        ∨ (62 < c.hop + 1 ∧ (s.cs.dropSet.get l).hopExceeded = true)
        ∨ (c.classOf = .data ∧ s.tb.params.staleLimit < (s.tb.running % 256 + 256 - c.stamp) % 256
            ∧ (s.cs.dropSet.get l).roundStale = true))
    ∧ (crcGood raw = true → c.kind ≠ 0 → c.kind ≠ 1 → c.kind ≠ 2 →
        (dropped s l (rawLength raw) c = true → Goes i s (addFiltered l (markGood l s)))
        ∧ (dropped s l (rawLength raw) c = false → c.classOf = .call →
            ∃ t, Goes i s t
              ∧ Goes (.callCellReceived l c.src c.dst (if c.kind = 80 then some c.payload else none)) (markGood l s) t)
        ∧ (dropped s l (rawLength raw) c = false → c.classOf ≠ .call →
            ((c.dst = s.tb.address ∨ c.dst = 63 ∨ (s.tb.role = .head ∧ c.dst = 0)) →
              (c.kind ∉ [16, 17, 18, 19, 20, 48, 49, 50, 64] → Goes i s (deliver (some l) c (markGood l s)))
              ∧ ∀ j : Instr, (c.kind, j) ∈ [(16, .callSetupReceived l c.src c.payload), (17, .callAlertingReceived l c.src c.payload),
                  (18, .callConnectReceived l c.src c.payload), (19, .callRefusedReceived l c.src c.payload),
                  (20, .callClearReceived l c.src c.payload), (48, .blockRequestReceived l c.payload),
                  (49, .blockGrantReceived l c.payload), (50, .blockExitReceived l c.payload), (64, .commandReceived c.payload)] →
                ∃ t, Goes i s t ∧ Goes j (markGood l s) t)
            ∧ (c.dst ≠ s.tb.address → c.dst ≠ 63 → (s.tb.role = .head → c.dst ≠ 0) →
              (s.quiet = true → Goes i s (markGood l s))
              ∧ (s.quiet = false → onwardLine c.dst s = l → Goes i s (addFiltered l (markGood l s)))
              ∧ (s.quiet = false → onwardLine c.dst s = l.other → reserveRefuses c s = true →
                  Goes i s (latchInd l.other .dataDropped (markGood l s)))
              ∧ (s.quiet = false → onwardLine c.dst s = l.other → reserveRefuses c s = false →
                  Goes i s (joinQueue l.other { c with hop := min 63 (c.hop + 1) } (markGood l s))))))

/-- R24, R36, R37: a cell joins the tail of its queue on a line; a full SIGNAL queue drops it and latches SIGNAL_LOST, a full
DATA queue DATA_DROPPED; a READING_REPORT takes the place of a queued one of the same source and channel; reports apart,
nothing else changes. -/
def Obligations.OutgoingQueues : Prop :=
  ∀ (l : Line) (c : Cell) (s : State),
    Reports s (joinQueue l c s) ∧ (joinQueue l c s).cs.queues.get l.other = s.cs.queues.get l.other
    ∧ (c.classOf = .signal → (s.cs.queues.get l).signal.length < 16 →
        (joinQueue l c s).cs.queues.get l = { s.cs.queues.get l with signal := (s.cs.queues.get l).signal ++ [c] })
    ∧ (c.classOf = .signal → 16 ≤ (s.cs.queues.get l).signal.length →
        (joinQueue l c s).cs.queues = s.cs.queues ∧ ((joinQueue l c s).cs.status.get l).signalLost = true)
    ∧ (c.classOf = .data → (∀ q ∈ (s.cs.queues.get l).data, coalescesReport c q = false) →
        ((s.cs.queues.get l).data.length < 48 →
          (joinQueue l c s).cs.queues.get l = { s.cs.queues.get l with data := (s.cs.queues.get l).data ++ [c] })
        ∧ (48 ≤ (s.cs.queues.get l).data.length →
          (joinQueue l c s).cs.queues = s.cs.queues ∧ ((joinQueue l c s).cs.status.get l).dataDropped = true))
    ∧ (∀ (a b : List Cell) (q : Cell), c.classOf = .data → (s.cs.queues.get l).data = a ++ q :: b → coalescesReport c q = true →
        (∀ x ∈ a, coalescesReport c x = false) →
        (joinQueue l c s).cs.queues.get l = { s.cs.queues.get l with data := a ++ c :: b })

/-- R34: a cell joins the tail of its delivery queue and DELIVERY_WAITING is posted when the queue was empty; a full queue
drops a DATA cell with DELIVERY_OVERFLOW, makes room for another class by dropping its oldest DATA cell, or loses the cell
with SIGNAL_LOST. -/
def Obligations.DeliveryQueues : Prop :=
  ∀ (l : Line) (c : Cell) (s : State) (b : Bool), b = safetyKind c.kind →
    Reports s (deliver (some l) c s) ∧ deliveryQueue (!b) (deliver (some l) c s) = deliveryQueue (!b) s
    ∧ ((deliveryQueue b s).length < 64 → deliveryQueue b (deliver (some l) c s) = deliveryQueue b s ++ [c])
    ∧ (deliveryQueue b s = [] → deliver (some l) c s
        = post (if b then .sp else .cp) .deliveryWaiting [] (setDeliveryQueue b [c] s))
    ∧ (64 ≤ (deliveryQueue b s).length → c.classOf = .data →
        deliveryQueue b (deliver (some l) c s) = deliveryQueue b s
        ∧ ((deliver (some l) c s).cs.status.get l).deliveryOverflow = true)
    ∧ (∀ (x y : List Cell) (d : Cell), 64 ≤ (deliveryQueue b s).length → c.classOf ≠ .data →
        deliveryQueue b s = x ++ d :: y → d.classOf = .data → (∀ e ∈ x, e.classOf ≠ .data) →
        deliveryQueue b (deliver (some l) c s) = x ++ y ++ [c]
        ∧ ((deliver (some l) c s).cs.status.get l).deliveryOverflow = true)
    ∧ (64 ≤ (deliveryQueue b s).length → c.classOf ≠ .data → (∀ e ∈ deliveryQueue b s, e.classOf ≠ .data) →
        deliveryQueue b (deliver (some l) c s) = deliveryQueue b s
        ∧ ((deliver (some l) c s).cs.status.get l).signalLost = true)

/-- R31, R33, R36, R39, R108: what happens on a line at an instant: carrier lost is latched; a held count runs out; a hold is
announced again on the cell 0 of the other line while the DATA queue stands above the low mark; a remote level whose age
reaches 40 becomes NORMAL and the section level is derived again. -/
def Obligations.LineEvents : Prop :=
  (∀ (l : Line) (s : State), (s.cs.remote.get l).age = 39 →
    ∃ t, Goes (.remoteLevelExpiry l) s t ∧ t.cs.remote.get l = { level := .normal, age := 40 }
      ∧ t.cs.remote.get l.other = s.cs.remote.get l.other ∧ ((s.cs.remote.get l).level ≠ .normal → t.sau.level = levelOf t)
      ∧ AlarmFrame s t)
  ∧ (∀ (l : Line) (s : State), ∃ t, Goes (.carrierLost l) s t ∧ (t.cs.status.get l).carrierLost = true
      ∧ (t.cs.status.get l).carrier = false ∧ t.cs.status.get l.other = s.cs.status.get l.other ∧ SameBut [.cs, .pi] s t
      ∧ t.cs.queues = s.cs.queues)
  ∧ (∀ (l : Line) (s : State), s.cs.held.get l = 1 →
      Goes (.heldCountExpiry l) s { s with cs := { s.cs with held := s.cs.held.set l 0 } })
  ∧ ∀ (l : Line) (s : State), (s.cs.holding.get l).holding = true → (s.cs.holding.get l).period = 1 →
      s.cs.holdParams.low < (s.cs.queues.get l).data.length →
      Goes (.holdPeriodExpiry l) s { s with cs := { s.cs with
        holding := s.cs.holding.set l { holding := true, period := s.cs.holdParams.length }
        announce := s.cs.announce.set l.other (some s.cs.holdParams.length) } }

/-- R35: CELL_TAKE at the port that may name the queue: the oldest cell leaves and is answered with its header, its payload and
the number that remain. That an empty queue answers a count of 0 alone is the form the model chose (log 19). -/
def Obligations.CellTake : Prop :=
  ∀ (p : Port) (tag : Byte) (s : State) (i : Instr),
    i = .cellTake (portSource p) tag [byteOf (flag (!takesSafety p))] →
    (deliveryQueue (takesSafety p) s = [] → Goes i s (respond (portSource p) tag (done [0#8]) s))
    ∧ ∀ (c : Cell) (rest : List Cell), deliveryQueue (takesSafety p) s = c :: rest →
        Goes i s (respond (portSource p) tag (done (cellHeader c ++ c.payload ++ [byteOf rest.length]))
          (setDeliveryQueue (takesSafety p) rest s))
        ∧ deliveryQueue (takesSafety p) (setDeliveryQueue (takesSafety p) rest s) = rest
        ∧ (rest = [] → ∀ (l : Line) (d : Cell), safetyKind d.kind = takesSafety p →
            deliver (some l) d (setDeliveryQueue (takesSafety p) [] s)
              = post p .deliveryWaiting [] (setDeliveryQueue (takesSafety p) [d] s))

/-- R29, R32, R38, R41: FILTER_SET writes the drop set of the line it names; HOLD_CONFIGURE sets the three flow-control parameters,
the low mark at least 4 below the high mark; LINE_STATUS_READ clears the latched indications and the filtered count of the lines
it names, at its first page; MESSAGE_SEND queues a MESSAGE cell, and is refused for 63 and for this node, which at a head is node
0 whatever its straps (log 44). -/
def Obligations.CellSwitchCommands : Prop :=
  (∀ (tag : Byte) (p : Bytes) (s : State), p.length = 2 →
    (∀ l : Line, p.getD 0 0 = lineByte l → byteAt p 1 ≤ 7 →
      ∃ d : DropSet, Goes (.filterSet .cp tag p) s
          (respond .cp tag (done [p.getD 1 0]) { s with cs := { s.cs with dropSet := s.cs.dropSet.set l d } })
        ∧ d.kindUnknown = bitOf (byteAt p 1) 0 ∧ d.hopExceeded = bitOf (byteAt p 1) 1 ∧ d.roundStale = bitOf (byteAt p 1) 2)
    ∧ ((1 < byteAt p 0 ∨ 7 < byteAt p 1) → Goes (.filterSet .cp tag p) s (respond .cp tag (refused .badParam) s)))
  ∧ (∀ (tag : Byte) (p : Bytes) (s : State), p.length = 3 → ∃ h : HoldParams,
      Goes (.holdConfigure .cp tag p) s (respond .cp tag (done [byteOf h.high, byteOf h.low, byteOf h.length])
        { s with cs := { s.cs with holdParams := h } })
      ∧ h.high = min 47 (max 8 (byteAt p 0)) ∧ h.low = min (h.high - 4) (byteAt p 1) ∧ h.length = max 1 (byteAt p 2))
  ∧ (∀ (src : Source) (tag : Byte) (l : Line) (s : State), ∃ t d,
      Goes (.lineStatusRead src tag [lineByte l]) s (respond src tag (done d) t)
      ∧ t = { s with cs := { s.cs with status := t.cs.status } }
      ∧ t.cs.status.get l = { s.cs.status.get l with carrierLost := false, crcErrors := false, signalLost := false, dataDropped := false, holdReceived := false, deliveryOverflow := false, filtered := 0 }
      ∧ t.cs.status.get l.other = s.cs.status.get l.other)
  ∧ (∀ (tag : Byte) (dst : Nat) (text : Bytes) (s : State), dst < 256 →
      (dst = s.tb.address ∨ dst = 63 ∨ (s.tb.role = .head ∧ dst = 0)) → text.length ≤ 24 →
      Goes (.messageSend .cp tag (byteOf dst :: text)) s (respond .cp tag (refused .badParam) s))
  ∧ ∀ (tag : Byte) (dst : Nat) (text : Bytes) (s : State) (l : Line), dst ≤ 62 → dst ≠ s.tb.address →
      (s.tb.role = .head → dst ≠ 0) → text.length ≤ 24 →
      s.cs.supplyMode ≠ .reserve → l = onwardLine dst s → (s.cs.queues.get l).data.length < 48 → s.cs.staging = none →
      ∃ t, Goes (.messageSend .cp tag (byteOf dst :: text)) s
          (respond .cp tag (done [byteOf ((s.cs.queues.get l).data.length + 1)]) t)
        ∧ ∃ c : Cell, t = s.updQueues l (fun q => { q with data := q.data ++ [c] }) ∧ c.kind = 98 ∧ c.cls = .data
          ∧ c.src = s.tb.address ∧ c.dst = dst ∧ c.hop = 0 ∧ c.stamp = s.tb.running % 256 ∧ c.payload = text

/-! ## Chapter 3: sensor buses -/

/-- R42, R43, R45 to R48, R187: the bus master's own steps. An IDLE bus with a pending poll and fewer than sixteen transactions
started in the round samples its lines: high starts the first poll of the list, the start condition and the address byte on
the bus (after a stop condition still owed, log 46), low enters RELEASING; in any other case the row does nothing. A head that
lets go of the clock is sent the stop condition owed; a hold of the clock adds its ticks to the hold total. A release sequence
with both lines high returns to IDLE. BUS_RELEASE sends a first release sequence from FAILED, reports RELEASING as it stands,
and is refused in IDLE and POLLING. -/
def Obligations.BusMasterSteps : Prop :=
  (∀ (b : Bus) (p : Poll) (rest : List Poll) (s : State), (s.bus b).state = .idle → (s.bus b).started < 16 →
    (s.bus b).list = p :: rest →
    Goes (.transactionStart b true) s (s.updBus b fun m => { m with
      linesHigh := true, state := .polling, list := rest, inFlight := some { poll := p, discarded := false }
      started := m.started + 1, holdTotal := 0, owesStop := false
      wire := (if m.owesStop then [.stop] else []) ++ [.start, .address (byteOf (2 * p.addr + 1))] })
    ∧ Goes (.transactionStart b false) s (s.updBus b fun m => { m with linesHigh := false, state := .releasing, release := 1 }))
  ∧ (∀ (b : Bus) (high : Bool) (s : State),
      ((s.bus b).state ≠ .idle ∨ 16 ≤ (s.bus b).started ∨ (s.bus b).list = []) → Goes (.transactionStart b high) s s)
  ∧ (∀ (b : Bus) (s : State), (s.bus b).state = .releasing →
      Goes (.releaseSequence b true) s (s.updBus b fun m => { m with state := .idle, release := 0, linesHigh := true })
      ∧ Goes (.releaseSequence b false) s (s.updBus b fun m => { m with linesHigh := false }))
  ∧ (∀ (b : Bus) (s : State), Goes (.clockLetGo b) s (s.updBus b fun m => { m with
      owesStop := false, wire := m.wire ++ if m.owesStop then [.stop] else [] }))
  ∧ (∀ (b : Bus) (n : Nat) (s : State), (s.bus b).inFlight.isSome = true → (s.bus b).holdTotal + n ≤ 16 →
      Goes (.holdTimeout ⟨b, n⟩) s (s.updBus b fun m => { m with holdTotal := m.holdTotal + n }))
  ∧ ∀ (b : Bus) (q : Port) (tag : Byte) (high : Bool) (s : State) (i : Instr),
      i = .busRelease (portSource q) tag [busByte b] high →
      ((s.bus b).state = .failed → Goes i s (respond (portSource q) tag (done [if high then 0#8 else 2#8])
        (s.updBus b fun m => { m with
          state := if high then .idle else .releasing, release := if high then 0 else 1, linesHigh := high })))
      ∧ ((s.bus b).state = .releasing → Goes i s (respond (portSource q) tag (done [2#8, byteOf (s.bus b).release]) s))
      ∧ (((s.bus b).state = .idle ∨ (s.bus b).state = .polling) →
          Goes i s (respond (portSource q) tag (refused .wrongState) s))

/-- R47, R66, R72, R115: a line still low at release count 3 fails the bus: its list is left empty, and every poll that was
pending is a miss with reason BUS_FAILED: of a configured and enabled channel as R72 has it, of a refuge record in use as R115 has
it; no other channel, and of no other record more than its report count, is touched. A miss adds one to the miss counter, which
stops at 255, and keeps the reason; at the miss limit, and at once for HEAD_FAULT, the channel is in FAULT with its level held. In
any other state the row does nothing. That the row takes the low line as given and acts when commanded is the model's choice
(log 2). -/
def Obligations.BusFails : Prop :=
  (∀ (b : Bus) (s : State), (s.bus b).state = .releasing → 3 ≤ (s.bus b).release →
    ∃ t, Goes (.busFailed b) s t ∧ (t.bus b).state = .failed ∧ (t.bus b).list = [] ∧ StampsOnly s t ∧ t.pending = s.pending
      ∧ (∀ c : Bus, c ≠ b → t.bus c = s.bus c)
      ∧ (∀ (i : Fin 16) (f : ChannelConfig), (∃ p ∈ (s.bus b).list, p.target = .chan i) → (s.channel i).cfg = some f →
          f.poll.isSome = true → (s.channel i).enabled = true → (t.channel i).missReason = some .busFailed)
      ∧ (∀ i : Fin 16, (∀ p ∈ (s.bus b).list, p.target ≠ .chan i) → t.channel i = s.channel i)
      ∧ (∀ (pre post : List Poll) (q : Poll), (s.bus b).list = pre ++ q :: post →
          (∀ p ∈ pre ++ post, p.target ≠ q.target) →
          (∀ (i : Fin 16) (f : ChannelConfig) (p : PollConfig), q.target = .chan i → (s.channel i).cfg = some f →
            f.poll = some p → (s.channel i).enabled = true → t.channel i = (s.channel i).missed p.missLimit .busFailed)
          ∧ (∀ (r : Fin 4) (x : Refuge), q.target = .refuge r → x = s.refuge r → x.state ≠ .unused →
              t.refuge r = { x with miss := min 3 (x.miss + 1), state := if 3 ≤ x.miss + 1 then .noResponse else x.state
                                    report := (t.refuge r).report }
              ∧ ((t.refuge r).state ≠ x.state → t.tb.refugeStamps.get r = some s.now ∧ (t.refuge r).report = 0)))
      ∧ (∀ r : Fin 4, ((∀ p ∈ (s.bus b).list, p.target ≠ .refuge r) ∨ (s.refuge r).state = .unused) →
          t.refuge r = { s.refuge r with report := (t.refuge r).report }))
  ∧ (∀ (b : Bus) (s : State), ((s.bus b).state ≠ .releasing ∨ (s.bus b).release < 3) → Goes (.busFailed b) s s)
  ∧ ∀ (c : Channel) (limit : Nat) (q : MissReason),
      c.missed limit q = { c with
        warmup := false, miss := min 255 (c.miss + 1), missReason := some q
        status := if q = .headFault ∨ limit ≤ min 255 (c.miss + 1) then .fault else c.status }

/-- R55, R44: the classes of a completion, by the first row that applies; `k` is the kind code asked for. -/
def Obligations.CompletionClasses : Prop :=
  ∀ (k hold : Nat) (status high low check : Byte) (c : Completion), c = classify k (.bytes status high low check hold) →
    classify k (.silent hold) = .miss .noAck
    ∧ (16 < hold → c = .miss .holdTimeout)
    ∧ (hold ≤ 16 → (status.toNat + high.toNat + low.toNat + check.toNat) % 256 ≠ 255 → c = .miss .checkBad)
    ∧ (hold ≤ 16 → (status.toNat + high.toNat + low.toNat + check.toNat) % 256 = 255 →
        (status.toNat / 32 ≠ k → c = .miss .kindMismatch)
        ∧ (status.toNat / 32 = k → bitOf status.toNat 3 = true → c = .miss .headFault)
        ∧ (status.toNat / 32 = k → bitOf status.toNat 3 = false → bitOf status.toNat 4 = true → c = .warmup)
        ∧ (status.toNat / 32 = k → bitOf status.toNat 3 = false → bitOf status.toNat 4 = false →
            (k ≠ 6 → 4095 < 256 * high.toNat + low.toNat → c = .miss .range)
            ∧ (k ≠ 6 → 256 * high.toNat + low.toNat ≤ 4095 →
                c = .reading (256 * high.toNat + low.toNat) (bitOf status.toNat 2))
            ∧ (k = 6 → c = .refuge { doorOpen := bitOf high.toNat 7, occupants := low.toNat % 32,
                                     pressed := bitOf high.toNat 6, plantFault := bitOf high.toNat 5 })))

/-- R42, R43, R45, R54, R55, R57, R66, R115 to R117: a transaction in flight ends: the bus is IDLE with nothing in flight, and the
channel polled takes the reading, the miss or the warm-up; a reply read whole ends with a stop condition; a hold total past 16
is a miss that owes one; the refuge record polled takes the fields, the state they give and the press, or the miss, and a change
of its state is stamped and reported; a completion that R54 discards reaches no block. -/
def Obligations.TransactionEnds : Prop :=
  (∀ (b : Bus) (reply : BusReply) (i : Fin 16) (a : Nat) (f : ChannelConfig) (p : PollConfig) (s : State),
    (s.bus b).inFlight = some { poll := { target := .chan i, addr := a }, discarded := false } →
    (s.channel i).cfg = some f → f.poll = some p → (s.channel i).enabled = true →
    (∃ t, Goes (.transactionComplete b reply) s t ∧ (t.bus b).state = .idle ∧ (t.bus b).inFlight = none
      ∧ (t.bus b).list = (s.bus b).list ∧ (∀ c : Bus, c ≠ b → t.bus c = s.bus c) ∧ OtherChannels i s t ∧ StampsOnly s t
      ∧ t.pending = s.pending
      ∧ (∀ raw sat, classify f.kind.code (heldReply (s.bus b).holdTotal reply) = .reading raw sat →
          t.channel i = (s.channel i).read f false (calibrate f.kind p.zero p.span raw sat) sat s.now)
      ∧ (∀ r, classify f.kind.code (heldReply (s.bus b).holdTotal reply) = .miss r →
          t.channel i = (s.channel i).missed p.missLimit r)
      ∧ (classify f.kind.code (heldReply (s.bus b).holdTotal reply) = .warmup →
          t.channel i = { s.channel i with warmup := true }))
    ∧ (∀ n : Nat, 16 < (s.bus b).holdTotal + n →
        ∃ t, Goes (.holdTimeout ⟨b, n⟩) s t ∧ (t.bus b).state = .idle ∧ (t.bus b).inFlight = none ∧ (t.bus b).owesStop = true
          ∧ (t.bus b).holdTotal = 17 ∧ (t.bus b).wire = (s.bus b).wire
          ∧ t.channel i = (s.channel i).missed p.missLimit .holdTimeout ∧ OtherChannels i s t ∧ StampsOnly s t))
  ∧ (∀ (b : Bus) (f : InFlight) (status high low check : Byte) (n : Nat) (s : State), (s.bus b).inFlight = some f →
      (∃ t, Goes (.transactionComplete b (.silent n)) s t ∧ (t.bus b).wire = (s.bus b).wire ++ [.stop]
        ∧ (t.bus b).owesStop = (s.bus b).owesStop)
      ∧ ((s.bus b).holdTotal + n ≤ 16 → ∃ t, Goes (.transactionComplete b (.bytes status high low check n)) s t
          ∧ (t.bus b).wire = (s.bus b).wire ++ [.ack, .ack, .ack, .noAck, .stop] ∧ (t.bus b).owesStop = (s.bus b).owesStop)
      ∧ (16 < (s.bus b).holdTotal + n → ∃ t, Goes (.transactionComplete b (.bytes status high low check n)) s t
          ∧ (t.bus b).wire = (s.bus b).wire ∧ (t.bus b).owesStop = true))
  ∧ (∀ (b : Bus) (reply : BusReply) (r : Fin 4) (a : Nat) (x : Refuge) (c : Completion) (s : State),
      (s.bus b).inFlight = some { poll := { target := .refuge r, addr := a }, discarded := false } →
      x = s.refuge r → x.state ≠ .unused → c = classify 6 (heldReply (s.bus b).holdTotal reply) →
      ∃ t, Goes (.transactionComplete b reply) s t ∧ (t.bus b).state = .idle ∧ (t.bus b).inFlight = none ∧ OtherRefuges r s t
        ∧ StampsOnly s t ∧ t.gcu.channels = s.gcu.channels ∧ t.pending = s.pending ∧ (t.refuge r).head = x.head
        ∧ (∀ f : RefugeFields, c = .refuge f → (t.refuge r).fields = some f ∧ (t.refuge r).miss = 0
            ∧ (t.refuge r).state = (if f.doorOpen then .doorOpen else if f.occupants = 0 then .vacant else .occupied)
            ∧ (t.refuge r).called = (x.called || (f.pressed && !((x.fields.map RefugeFields.pressed).getD false))))
        ∧ (∀ q : MissReason, c = .miss q → (t.refuge r).fields = x.fields ∧ (t.refuge r).called = x.called
            ∧ (t.refuge r).miss = min 3 (x.miss + 1)
            ∧ (t.refuge r).state = (if 3 ≤ x.miss + 1 then .noResponse else x.state))
        ∧ (c = .warmup → t.refuge r = x)
        ∧ ((t.refuge r).state ≠ x.state → t.tb.refugeStamps.get r = some s.now ∧ (t.refuge r).report = 0
            ∧ (s.tb.role = .junction → s.tb.address ≠ 0 → s.cs.staging = none → s.cs.queues.outbye.signal.length < 16 →
                ∃ (d : Cell) (rest : List Cell), t.cs.queues.outbye.signal = s.cs.queues.outbye.signal ++ d :: rest
                  ∧ d.kind = 37 ∧ d.dst = 0 ∧ byteAt d.payload 0 = 64 * r.val + (t.refuge r).state.code
                  ∧ bitOf (byteAt d.payload 1) 0 = true))
        ∧ ((t.refuge r).state = x.state → t.tb.refugeStamps = s.tb.refugeStamps))
  ∧ ∀ (b : Bus) (reply : BusReply) (x : Poll) (s : State), (s.bus b).inFlight = some { poll := x, discarded := true } →
    ∃ t, Goes (.transactionComplete b reply) s t ∧ (t.bus b).state = .idle ∧ (t.bus b).inFlight = none ∧ SameBut [.sbm] s t

/-! ## Chapter 4: gas channels -/

/-- R68, R69: the history, the average and the rise; a reading of an OK channel puts its value into the history and takes the
other two from it. -/
def Obligations.AverageAndRise : Prop :=
  (∀ (c : Channel) (f : ChannelConfig) (mobile : Bool) (v : Calibrated) (sat : Bool) (now : Stamp), c.status = .ok →
    (c.read f mobile v sat now).history = pushHistory c.history v.value
    ∧ (c.read f mobile v sat now).average = averageOf f.window (pushHistory c.history v.value)
    ∧ (c.read f mobile v sat now).rise = riseOf f.kind (pushHistory c.history v.value))
  ∧ (∀ (h : List Nat) (v : Nat), h.length ≤ 8 → pushHistory h v = (h ++ [v]).drop (h.length + 1 - 8) ∧ (pushHistory h v).length ≤ 8)
  ∧ (∀ (w : Nat) (h : List Nat) (n x : Nat), 1 ≤ w → h ≠ [] → n = min w h.length → x = (h.drop (h.length - n)).sum →
      averageOf w h = some ((2 * x + n) / (2 * n)) ∧ ∀ top, (∀ v ∈ h, v ≤ top) → (2 * x + n) / (2 * n) ≤ top)
  ∧ (∀ (k : GasKind) (h : List Nat), h.length < 5 → riseOf k h = 0)
  ∧ (∀ (k : GasKind) (pre : List Nat) (a b c d e : Nat),
      (k.rising = true → riseOf k (pre ++ [a, b, c, d, e]) = (e : Int) - a)
      ∧ (k.rising = false → riseOf k (pre ++ [a, b, c, d, e]) = (a : Int) - e))
  ∧ ∀ (limit : Nat) (rise : Int), riseCondition limit rise = true ↔ limit ≠ 0 ∧ (limit : Int) ≤ rise

/-- R67, R70, R71: calibration rounds the product over 256 to the nearest whole unit with a tie away from zero, and moves the
value into the kind range with OVER and UNDER; an at-trip reading adds one to the confirm counter, which stops at 4, and any
other sets it to 0; the raise target is that of the first row that holds; a level rises at once to its raise target, and falls
one step at a time for as long as R71 lets it, no lower than the target. R72, R73: a reading takes its channel through these
stages, with the raise target of the mobile channel capped at ALARM; the first one in FAULT or NO_DATA empties history, average
and confirm counter first, and the level stays. -/
def Obligations.CalibrationAndLevel : Prop :=
  (∀ (k : GasKind) (z g raw : Nat) (sat : Bool) (p e : Int), p = ((raw : Int) - z) * g → e = roundProduct p →
    2 * (256 * e - p).natAbs ≤ 256 ∧ (2 * (256 * e - p).natAbs = 256 → p.natAbs ≤ 256 * e.natAbs)
    ∧ (calibrate k z g raw sat).value ≤ k.maximum
    ∧ (0 ≤ e → e ≤ k.maximum → ((calibrate k z g raw sat).value : Int) = e)
    ∧ (e < 0 → (calibrate k z g raw sat).value = 0) ∧ ((k.maximum : Int) < e → (calibrate k z g raw sat).value = k.maximum)
    ∧ ((calibrate k z g raw sat).overRange = true ↔ (k.maximum : Int) < e ∨ raw = 4095 ∨ sat = true)
    ∧ ((calibrate k z g raw sat).underRange = true ↔ e < 0))
  ∧ (∀ (c r : Channel) (f : ChannelConfig) (mobile : Bool) (v : Calibrated) (sat : Bool) (now : Stamp),
      r = c.read f mobile v sat now →
      r = { c with
        status := .ok, warmup := false, miss := 0, stamp := some now, last := some v.value, history := r.history
        average := r.average, rise := r.rise, overRange := v.overRange, underRange := v.underRange, saturated := sat
        confirm := r.confirm, level := r.level }
      ∧ (c.status ≠ .ok → r.history = [v.value] ∧ r.average = averageOf f.window [v.value] ∧ r.rise = 0)
      ∧ r.confirm = confirmAfter f v (if c.status = .ok then c.confirm else 0)
      ∧ ∀ (avg : Nat) (target : GasLevel), r.average = some avg → target = raiseTarget f r.confirm avg r.rise →
          r.level = levelAfter f (if mobile = true ∧ target = .trip then .alarm else target) avg r.rise c.level)
  ∧ ∀ (c : ChannelConfig) (target l : GasLevel) (avg : Nat) (rise : Int),
      target.code ≤ (levelAfter c target avg rise l).code
      ∧ (l.code ≤ target.code → levelAfter c target avg rise l = target)
      ∧ (target.code < l.code → (levelAfter c target avg rise l).code ≤ l.code)
      ∧ (target.code < l.code → c.kind.better avg (c.clearOf l) = false → levelAfter c target avg rise l = l)
      ∧ (target.code < l.code → l = .alarm → riseCondition c.riseLimit rise = true → levelAfter c target avg rise l = l)
      ∧ (target.code < l.code → c.kind.better avg (c.clearOf l) = true → ¬(l = .alarm ∧ riseCondition c.riseLimit rise = true) →
          ∃ d : GasLevel, d.code + 1 = l.code ∧ levelAfter c target avg rise l = levelAfter c target avg rise d)
      ∧ ∀ (v : Calibrated) (n : Nat),
          (atTrip c v = true ↔ c.kind.worseEq v.value c.tripSet = true ∨ (v.overRange = true ∧ c.kind.rising = true)
            ∨ (v.underRange = true ∧ c.kind.rising = false))
          ∧ confirmAfter c v n = (if atTrip c v then min 4 (n + 1) else 0)
          ∧ (c.confirm ≤ n → raiseTarget c n avg rise = .trip)
          ∧ (n < c.confirm → (c.kind.worseEq avg c.alarmSet = true ∨ riseCondition c.riseLimit rise = true) →
              raiseTarget c n avg rise = .alarm)
          ∧ (n < c.confirm → c.kind.worseEq avg c.alarmSet = false → riseCondition c.riseLimit rise = false →
              raiseTarget c n avg rise = if c.kind.worseEq avg c.adviseSet then .advise else .normal)

/-- R58 to R62: an accepted CHANNEL_CONFIGURE replaces the whole configuration, sets the record anew with the enabled state as it
was, drops the channel's pending polls, and touches no other channel; a parameter outside what the command takes, a set of
thresholds out of order, and a loss of coverage are refused and change nothing. Each field is held in its range as R59 has it, and
channel 15 stores no poll fields and its two flags clear. That the answer begins with the channel's number is the model's choice
(log 45), as are the codes of binding, alert-at and evacuate-at levels and the two flags in one byte (log 37), and how the fields
that channel 15 does not store are answered (log 38). -/
def Obligations.ChannelConfigured : Prop :=
  ∀ (tag : Byte) (p : Bytes) (i : Fin 16) (s : State), p.length = 32 → byteAt p 0 = i.val →
    (∀ f, configOf i p = some f → ordered f = true → (i = 15 → f.kind = .ch4) →
      (s.tu.ovr.state = .none ∨ coverageLost s i ((s.channel i).configured f) = false) →
      ∃ t, Goes (.channelConfigure .sp tag p) s (respond .sp tag (done (byteOf i.val :: configBytes f)) t)
        ∧ t.channel i = { Channel.reset with enabled := (s.channel i).enabled, cfg := some f } ∧ OtherChannels i s t
        ∧ (∀ b : Bus, (t.bus b).list = (s.bus b).list.filter (fun q => q.target != .chan i)) ∧ StampsOnly s t
        ∧ t.pending = s.pending)
    ∧ (configOf i p = none → Goes (.channelConfigure .sp tag p) s (respond .sp tag (refused .badParam) s))
    ∧ (∀ f, configOf i p = some f → ordered f = false →
        Goes (.channelConfigure .sp tag p) s (respond .sp tag (refused .badParam) s))
    ∧ (∀ f, configOf i p = some f → i = 15 → f.kind ≠ .ch4 →
        Goes (.channelConfigure .sp tag p) s (respond .sp tag (refused .badParam) s))
    ∧ (∀ f, configOf i p = some f → ordered f = true → (i = 15 → f.kind = .ch4) → s.tu.ovr.state ≠ .none →
        coverageLost s i ((s.channel i).configured f) = true →
        Goes (.channelConfigure .sp tag p) s (respond .sp tag (refused .coverage) s))
    ∧ (configOf i p = none ↔ gasKindOf (byteAt p 1) = none ∨ 4 < byteAt p 29 ∨ 3 < byteAt p 30 ∨ 2 < byteAt p 31
        ∨ (i ≠ 15 ∧ (byteAt p 2 = 0 ∨ 2 < byteAt p 2 ∨ byteAt p 3 = 0 ∨ 127 < byteAt p 3)))
    ∧ ∀ (f : ChannelConfig) (k : GasKind), configOf i p = some f → k = f.kind →
        gasKindOf (byteAt p 1) = some k
        ∧ f.window = (if 8 ≤ byteAt p 8 then 8 else if 4 ≤ byteAt p 8 then 4 else if 2 ≤ byteAt p 8 then 2 else 1)
        ∧ f.report = byteAt p 11 ∧ f.confirm = min 4 (max 1 (byteAt p 24)) ∧ f.riseLimit = min 1000 (wordAt p 27)
        ∧ f.adviseSet = min k.maximum (wordAt p 12) ∧ f.alarmSet = min k.maximum (wordAt p 14)
        ∧ f.tripSet = min k.maximum (wordAt p 16) ∧ f.adviseClear = min k.maximum (wordAt p 18)
        ∧ f.alarmClear = min k.maximum (wordAt p 20) ∧ f.tripClear = min k.maximum (wordAt p 22)
        ∧ (∀ r : Fin 4, f.binding = some r ↔ byteAt p 29 = r.val + 1) ∧ (f.binding = none ↔ byteAt p 29 = 0)
        ∧ f.alertAt.code = byteAt p 30 ∧ f.evacuateAt.code = byteAt p 31
        ∧ (i = 15 → f.poll = none ∧ f.failSafe = false ∧ f.vote = false)
        ∧ (i ≠ 15 → f.failSafe = bitOf (byteAt p 26) 0 ∧ f.vote = bitOf (byteAt p 26) 1
            ∧ ∃ c : PollConfig, f.poll = some c ∧ busByte c.bus = p.getD 2 0 ∧ c.addr = byteAt p 3
              ∧ c.zero = min 4095 (wordAt p 4) ∧ c.span = max 1 (wordAt p 6) ∧ c.interval = min 64 (max 1 (byteAt p 9))
              ∧ c.phase = byteAt p 10 % c.interval ∧ c.missLimit = if byteAt p 25 = 0 then 3 else min 8 (byteAt p 25))

/-- R63, R64, R65: enabling sets the report count to 0 and disturbs neither level nor history; disabling keeps the record; an
enable of an enabled channel and a disable of a disabled one change nothing; a channel not configured is WRONG_STATE;
CHANNEL_READ clears SKIPPED at its first page and changes nothing else. -/
def Obligations.ChannelEnabledAndRead : Prop :=
  ∀ (tag : Byte) (i : Fin 16) (s : State),
    ((s.channel i).cfg = none →
      Goes (.channelEnable .sp tag [byteOf i.val]) s (respond .sp tag (refused .wrongState) s)
      ∧ Goes (.channelDisable .sp tag [byteOf i.val]) s (respond .sp tag (refused .wrongState) s))
    ∧ ((s.channel i).cfg.isSome = true → (s.channel i).enabled = true →
      Goes (.channelEnable .sp tag [byteOf i.val]) s (respond .sp tag (done []) s)
      ∧ (s.tu.ovr.state = .none → ∃ t, Goes (.channelDisable .sp tag [byteOf i.val]) s (respond .sp tag (done []) t)
          ∧ t.channel i = { s.channel i with enabled := false } ∧ OtherChannels i s t ∧ StampsOnly s t))
    ∧ ((s.channel i).cfg.isSome = true → (s.channel i).enabled = false →
      Goes (.channelDisable .sp tag [byteOf i.val]) s (respond .sp tag (done []) s)
      ∧ ∃ t, Goes (.channelEnable .sp tag [byteOf i.val]) s (respond .sp tag (done []) t)
          ∧ t.channel i = { s.channel i with
              enabled := true, report := 0, silence := if i = 15 then 0 else (s.channel i).silence }
          ∧ OtherChannels i s t ∧ StampsOnly s t ∧ t.sbm = s.sbm)
    ∧ ∀ src : Source, ∃ d, Goes (.channelRead src tag [byteOf i.val]) s
        (respond src tag (done d) (s.setChannel i { s.channel i with skipped := false }))

/-- R74, R79: channel 15 passes to NO_DATA by silence; a report that falls due is queued for node 0 and the report count
returns to 0, but in RESERVE the report of a CO2 or AIRFLOW channel is withheld. -/
def Obligations.ChannelTimers : Prop :=
  (∀ s : State, (s.channel 15).cfg.isSome = true → (s.channel 15).enabled = true → (s.channel 15).status = .ok →
    99 ≤ (s.channel 15).silence →
    ∃ t, Goes .mobileSilenceTimeout s t ∧ OtherChannels 15 s t ∧ StampsOnly s t ∧ t.sbm = s.sbm
      ∧ t.channel 15 = { s.channel 15 with
          status := .noData, level := .normal, history := [], average := none, rise := 0, confirm := 0, silence := 100 })
  ∧ ∀ (i : Fin 16) (f : ChannelConfig) (s : State), (s.channel i).cfg = some f → (s.channel i).enabled = true →
      f.report ≠ 0 → f.report ≤ (s.channel i).report + 1 →
      (s.gcu.supplyMode = .reserve → (f.kind = .co2 ∨ f.kind = .airflow) →
        Goes (.readingReportDue i) s (s.setChannel i { s.channel i with report := 0 }))
      ∧ (s.gcu.supplyMode ≠ .reserve → s.cs.supplyMode ≠ .reserve → s.tb.role = .junction → s.tb.address ≠ 0 →
          s.cs.staging = none →
          ∃ c : Cell, Goes (.readingReportDue i) s (joinQueue .outbye c (s.setChannel i { s.channel i with report := 0 }))
            ∧ c.kind = 96 ∧ c.cls = .data ∧ c.src = s.tb.address ∧ c.dst = 0 ∧ c.hop = 0 ∧ c.stamp = s.tb.running % 256
            ∧ c.payload = readingReportBytes i s)

/-! ## Chapter 5: trip, supervision, override, supply -/

/-- R81 to R83, R85: TRIP_MANUAL with the latch clear sets it and captures the record with the stamp in force; with it set,
MANUAL joins the later causes unless already recorded; reports apart, nothing else changes. -/
def Obligations.TripManual : Prop :=
  ∀ (src : Source) (tag : Byte) (s : State), src ≠ .cp →
    ∃ t d, Goes (.tripManual src tag []) s (respond src tag (done d) t) ∧ t.tripOut = false
      ∧ (s.tu.latch = false → ∃ r : TripRecord,
          Reports ((s.updTb fun b => { b with tripStamp := some s.now }).updTu fun u => { u with latch := true, record := some r }) t
          ∧ r.capture = { persisting := s.tu.causes, manual := true, restart := false } ∧ r.later = .empty
          ∧ (∀ i, r.channel = some i → gasVote s i = true ∧ ∀ j : Fin 16, j < i → gasVote s j = false)
          ∧ (r.channel = none → ∀ i, gasVote s i = false))
      ∧ (∀ r, s.tu.latch = true → s.tu.record = some r → (r.capture.manual = true ∨ r.later.manual = true) → t = s)
      ∧ (∀ r, s.tu.latch = true → s.tu.record = some r → r.capture.manual = false → r.later.manual = false →
          Reports { s with tu := { s.tu with record := some { r with later := { r.later with manual := true } } } } t)

/-- R86: TRIP_RESET. -/
def Obligations.TripReset : Prop :=
  ∀ (tag : Byte) (s : State),
    (s.tu.latch = false → Goes (.tripReset .sp tag []) s (respond .sp tag (done []) s))
    ∧ (s.tu.latch = true → s.tu.causes ≠ .empty →
        Goes (.tripReset .sp tag []) s (respond .sp tag (refusedWith .stillActive [byteOf s.tu.causes.byte]) s))
    ∧ (s.tu.latch = true → s.tu.causes = .empty → ∃ r u t,
        r = recordOf s
        ∧ u = postBoth .trip (u8 r.capture.byte ++ u8 r.later.byte ++ opt8 (r.channel.map Fin.val) ++ stampBytes s.tb.tripStamp)
            (sendTo 33 0 (u8 6 ++ stampBytes s.tb.tripStamp ++ u8 r.capture.byte ++ u8 r.later.byte
              ++ opt8 (r.channel.map Fin.val) ++ u8 0 ++ u8 s.tu.supply.mode.code) { s with tu := { s.tu with latch := false } })
        ∧ t = { u with tu := { u.tu with record := none }, tb := { u.tb with tripStamp := none } }
        ∧ t.tripOut = true
        ∧ Goes (.tripReset .sp tag []) s (respond .sp tag (done []) t))
    ∧ (∀ src : Source, src ≠ .sp → Goes (.tripReset src tag []) s (respond src tag (refused .denied) s))

/-- R80, R81, R87 to R90: supervision: START sets the period and runs from OFF; a lapse in RUNNING makes it LATE and raises the
ALERT cause, a lapse in LATE makes it EXPIRED and sets the latch with the SUPERVISION cause; a refresh returns to RUNNING with
the count loaded; a refresh while OFF is refused. -/
def Obligations.Supervision : Prop :=
  (∀ (tag : Byte) (p : Bytes) (s : State) (n : Nat), p.length = 2 → n = min 400 (max 4 (wordAt p 0)) → ∃ d,
    Goes (.superviseStart .sp tag p) s (respond .sp tag (done d) (s.updTu fun u => { u with
      sup := if u.sup.state = .off then { state := .running, period := some n, count := n }
        else { u.sup with period := some n } })))
  ∧ (∀ (n : Nat) (s : State), s.tu.sup.state = .running → s.tu.sup.count ≤ 1 → s.tu.sup.period = some n →
      ∃ t, Goes .supervisionLapse s t ∧ t.tu.sup = { state := .late, period := some n, count := n }
        ∧ t.sau.causes.supervision = true ∧ t.sau.level ≠ .normal ∧ StampsOnly s t ∧ t.sbm = s.sbm ∧ t.pending = s.pending)
  ∧ (∀ s : State, TripHeld s → s.tu.sup.state = .late → s.tu.sup.count ≤ 1 →
      ∃ t, Goes .supervisionLapse s t ∧ t.tu.sup = { s.tu.sup with state := .expired, count := 0 }
        ∧ t.tu.causes.supervision = true ∧ t.tu.latch = true ∧ t.sau = s.sau ∧ t.gcu = s.gcu ∧ StampsOnly s t)
  ∧ ∀ (tag : Byte) (s : State),
      (s.tu.sup.state = .off → Goes (.superviseRefresh .sp tag []) s (respond .sp tag (refused .wrongState) s))
      ∧ (s.tu.sup.state = .running → Goes (.superviseRefresh .sp tag []) s (respond .sp tag (done [1#8, 1#8])
          { s with tu := { s.tu with sup := { s.tu.sup with count := s.tu.sup.period.getD 0 } } }))
      ∧ (s.tu.sup.state = .late ∨ s.tu.sup.state = .expired → ∃ t, Goes (.superviseRefresh .sp tag []) s
            (respond .sp tag (done [byteOf s.tu.sup.state.code, 1#8]) t)
          ∧ t.tu.sup = { s.tu.sup with state := .running, count := s.tu.sup.period.getD 0 } ∧ t.tu.causes.supervision = false
          ∧ t.sau.causes.supervision = false ∧ (s.tu.latch = true → t.tu.latch = true) ∧ StampsOnly s t)

/-- R92: OVERRIDE_REQUEST is refused by the first case that applies, and otherwise makes the override PENDING. -/
def Obligations.OverrideRequested : Prop :=
  ∀ (tag : Byte) (p : Bytes) (s : State) (set : BitVec 16) (i : Instr), p.length = 4 → set = BitVec.ofNat 16 (wordAt p 0) →
    i = .overrideRequest .sp tag p →
    (set = 0#16 → Goes i s (respond .sp tag (refused .badParam) s))
    ∧ (set ≠ 0#16 → s.tu.ovr.state ≠ .none → Goes i s (respond .sp tag (refused .busy) s))
    ∧ (set ≠ 0#16 → s.tu.ovr.state = .none → s.sau.level = .evacuate → Goes i s (respond .sp tag (refused .wrongState) s))
    ∧ (set ≠ 0#16 → s.tu.ovr.state = .none → s.sau.level ≠ .evacuate →
        (∀ c : Fin 16, uncoveredVoter set c (s.channel c) = false) → Goes i s (respond .sp tag (refused .coverage) s))
    ∧ (∀ c : Fin 16, set ≠ 0#16 → s.tu.ovr.state = .none → s.sau.level ≠ .evacuate →
        uncoveredVoter set c (s.channel c) = true →
        ∃ t, Goes i s (respond .sp tag (accepted []) t) ∧ Reports { s with tu := { s.tu with ovr := { s.tu.ovr with
          state := .pending, set := set, duration := some (min 12000 (max 20 (wordAt p 2))), window := 1200 } } } t)

/-- R93 to R97: an override ends: the window of a PENDING one or the duration of an ACTIVE one runs out, or it is cancelled;
and a PENDING one is made ACTIVE by the surface, its set covered, where nothing calls for EVACUATE; the OVERRIDE_ASK that
reports it, the last cell it queues, carries the persisting causes that the change leaves. -/
def Obligations.OverrideRuns : Prop :=
  (∀ s : State, s.tu.ovr.state = .pending → s.tu.ovr.window ≤ 1 → ∃ t, Goes .overrideWindowExpiry s t ∧ StampsOnly s t
    ∧ t.tu.ovr = { s.tu.ovr with state := .none, set := 0#16, duration := none, window := 0, lastEnd := some .window }
    ∧ t.tu.causes = s.tu.causes ∧ t.tu.latch = s.tu.latch ∧ t.sau = s.sau ∧ t.gcu = s.gcu ∧ t.sbm = s.sbm)
  ∧ (∀ s : State, s.tu.ovr.state = .active → s.tu.ovr.durCount ≤ 1 → ∃ t, Goes .overrideDurationExpiry s t ∧ StampsOnly s t
    ∧ t.tu.ovr = { s.tu.ovr with state := .none, set := 0#16, duration := none, durCount := 0, lastEnd := some .expired }
    ∧ t.sau.covered = 0#16 ∧ t.gcu.channels = s.gcu.channels ∧ t.sbm = s.sbm)
  ∧ (∀ (src : Source) (tag : Byte) (s : State), src ≠ .cp → s.tu.ovr.state ≠ .none →
      ∃ t, Goes (.overrideCancel src tag []) s (respond src tag (done []) t) ∧ StampsOnly s t
        ∧ t.tu.ovr = { s.tu.ovr with state := .none, set := 0#16, duration := none,
                                     lastEnd := some (if src = .surface then .cancelledSurface else .cancelledSp) })
  ∧ ∀ (tag : Byte) (p : Bytes) (s : State), p.length = 4 → s.tu.ovr.state = .pending →
      s.tu.ovr.set = BitVec.ofNat 16 (wordAt p 0) → s.tu.ovr.duration = some (wordAt p 2) →
      s.sau.covered = 0#16 → (localCausesOf s).gasEvacuate = false → s.sau.latch = false → s.cs.remote.outbye.level ≠ .evacuate →
      s.cs.remote.inbye.level ≠ .evacuate →
      ∃ t, Goes (.overrideConfirm .surface tag p) s (respond .surface tag (done []) t) ∧ StampsOnly s t
        ∧ t.tu.ovr = { s.tu.ovr with state := .active, window := 0, durCount := wordAt p 2 } ∧ t.sau.covered = s.tu.ovr.set
        ∧ t.gcu.channels = s.gcu.channels
        ∧ (s.tb.role = .junction → s.tb.address ≠ 0 → s.cs.staging = none → s.cs.queues.outbye.signal.length < 15 →
            ∃ (d : Cell) (pre : List Cell), t.cs.queues.outbye.signal = s.cs.queues.outbye.signal ++ pre ++ [d] ∧ d.kind = 34
              ∧ d.dst = 0 ∧ d.payload = u8 2 ++ u8 1 ++ u16 s.tu.ovr.set.toNat ++ u16 (wordAt p 2) ++ u16 (wordAt p 2) ++ u8 255
                ++ u8 t.tu.causes.byte)

/-- R98 to R101: what one sample makes of the four runs; the change of mode that it calls for is made and handed to every block,
the runs start again from 0, and RESERVE is a cause of trip; SUPPLY_CONFIGURE sets the thresholds with leave at least 10 above enter. -/
def Obligations.SupplyModeChanges : Prop :=
  (∀ (mains : Bool) (battery : Nat) (m : SupplyMode) (s : State), (s.tu.supply.sample mains battery).change = some m →
    ∃ t, Goes (.supplyModeChange mains battery) s t ∧ t.tu.supply.mode = m
      ∧ t.tu.supply.absentRun = 0 ∧ t.tu.supply.presentRun = 0 ∧ t.tu.supply.lowRun = 0 ∧ t.tu.supply.highRun = 0
      ∧ t.cs.supplyMode = m ∧ t.gcu.supplyMode = m ∧ t.ctu.supplyMode = m ∧ t.sau.modeTold = m
      ∧ t.sbm.one.modeTold = m ∧ t.sbm.two.modeTold = m ∧ t.tu.causes.supply = decide (m = .reserve) ∧ StampsOnly s t
      ∧ t.vu = s.vu ∧ t.pending = s.pending)
  ∧ (∀ (m : SupplyMonitor) (mains : Bool) (battery : Nat), m.sample mains battery = { m with
      lastMains := mains, lastBattery := battery
      absentRun := if mains then 0 else min 255 (m.absentRun + 1)
      presentRun := if mains then min 255 (m.presentRun + 1) else 0
      lowRun := if m.mode ≠ .mains ∧ battery < m.enter then min 255 (m.lowRun + 1) else 0
      highRun := if m.mode ≠ .mains ∧ m.leave ≤ battery ∧ mains = false then min 255 (m.highRun + 1) else 0 })
  ∧ (∀ m : SupplyMonitor,
      (m.mode = .mains → m.change = if 2 ≤ m.absentRun then some .battery else none)
      ∧ (m.mode ≠ .mains → 20 ≤ m.presentRun → m.change = some .mains)
      ∧ (m.mode = .battery → m.presentRun < 20 → m.change = if 4 ≤ m.lowRun then some .reserve else none)
      ∧ (m.mode = .reserve → m.presentRun < 20 → m.change = if 20 ≤ m.highRun then some .battery else none))
  ∧ ∀ (tag : Byte) (p : Bytes) (s : State), p.length = 4 → ∃ d e l, Goes (.supplyConfigure .sp tag p) s (respond .sp tag (done d)
      { s with tu := { s.tu with supply := { s.tu.supply with enter := e, leave := l, lowRun := 0, highRun := 0 } } })
      ∧ e = min 1013 (wordAt p 0) ∧ l = min 1023 (max (e + 10) (wordAt p 2))

/-! ## Chapter 6: the section alarm and the refuges -/

/-- R104 to R108, R112: ALARM_RAISE, EVACUATE and ALERT_CLEAR: the holders, the latch, the local causes and the section level
they give, the strobe with it; a raised EVACUATE reaches the Call Table Unit and the Vehicle Unit. The announcement ends of
itself (its row acts at the brink, log 2). -/
def Obligations.ManualAlarm : Prop :=
  (∀ (p : Port) (tag : Byte) (s : State),
    (∃ t d, Goes (.alarmRaiseAlert (portSource p) tag) s (respond (portSource p) tag (done d) t)
      ∧ t.sau.holders = s.sau.holders.set p true ∧ t.sau.causes.manualAlert = true
      ∧ t.sau.level = levelOf t ∧ t.sau.level ≠ .normal ∧ t.strobe = true ∧ AlarmFrame s t)
    ∧ (∃ t d, Goes (.alertClearOwn (portSource p) tag) s (respond (portSource p) tag (done d) t)
      ∧ t.sau.holders = s.sau.holders.set p false
      ∧ t.sau.causes.manualAlert = (t.sau.holders.sp || t.sau.holders.cp)
      ∧ t.sau.level = levelOf t ∧ (s.sau.latch = true → t.sau.latch = true) ∧ AlarmFrame s t)
    ∧ (∃ t d, Goes (.alertClearBoth (portSource p) tag) s (respond (portSource p) tag (done d) t)
      ∧ t.sau.holders = ⟨false, false⟩ ∧ t.sau.causes.manualAlert = false
      ∧ t.sau.level = levelOf t ∧ (s.sau.latch = true → t.sau.latch = true) ∧ AlarmFrame s t))
  ∧ (∀ s : State, s.sau.announce = 1 → ∃ t, Goes .announcementEnd s t
      ∧ t = { s with sau := { s.sau with announce := 0 } } ∧ (s.sau.level ≠ .evacuate → t.sounder = false))
  ∧ ∀ (tag : Byte) (s : State) (src : Source) (i : Instr),
      (src = .sp ∧ i = .alarmRaiseEvacuate .sp tag) ∨ (src = .surface ∧ i = .evacuate .surface tag []) →
      ∃ t d, Goes i s (respond src tag (done d) t) ∧ t.sau.latch = true ∧ t.sau.level = .evacuate ∧ t.strobe = true
        ∧ (HandedOver s → t.ctu.level = .evacuate ∧ t.vu.level = .evacuate) ∧ AlarmFrame s t

/-- R113: SOUNDER_SILENCE, for the CP alone, stops the announcement in ALERT and is refused elsewhere; the count stays 0
through the rounds that follow; an entry to ALERT announces again and EVACUATE sounds. -/
def Obligations.SounderSilenced : Prop :=
  (∀ (tag : Byte) (s : State), s.sau.level = .alert → ∃ t,
    Goes (.sounderSilence .cp tag []) s (respond .cp tag (done [byteOf s.sau.announce]) t)
    ∧ t = { s with sau := { s.sau with announce := 0 } } ∧ t.sounder = false)
  ∧ (∀ (tag : Byte) (s : State), s.sau.level ≠ .alert →
      Goes (.sounderSilence .cp tag []) s (respond .cp tag (refused .wrongState) s))
  ∧ (∀ a : AlarmUnit, a.announce = 0 → a.round.announce = 0 ∧ a.round.level = a.level)
  ∧ (∀ a : AlarmUnit, (a.enterLevel .alert).announce = 100 ∧ (a.enterLevel .alert).sounding = true
      ∧ (a.enterLevel .evacuate).sounding = true)
  ∧ ∀ (src : Source) (tag : Byte) (s : State), src ≠ .cp →
      Goes (.sounderSilence src tag []) s (respond src tag (refused .denied) s)

/-- R40, R111: ALL_CLEAR at a head raises the epoch, sets both remote levels to NORMAL, leaves the latch set only under
GAS_EVACUATE, and derives the section level; it is refused at a junction and from the surface. -/
def Obligations.AllClear : Prop :=
  (∀ (p : Port) (tag : Byte) (s : State), s.tb.role = .head → s.tu.ovr.state = .none →
    ∃ t, Goes (.allClear (portSource p) tag []) s
        (respond (portSource p) tag (done [byteOf t.tb.epoch, byteOf (flag t.sau.latch), byteOf t.sau.level.code]) t)
      ∧ t.tb = { s.tb with epoch := (s.tb.epoch + 1) % 256 } ∧ t.cs.remote = ⟨⟨.normal, 0⟩, ⟨.normal, 0⟩⟩
      ∧ t.sau.latch = s.sau.causes.gasEvacuate ∧ t.sau.causes = s.sau.causes ∧ t.sau.level = levelOf t
      ∧ t.sbm = s.sbm ∧ t.gcu = s.gcu ∧ t.tu = s.tu ∧ t.pending = s.pending)
  ∧ ∀ (src : Source) (tag : Byte) (s : State), (s.tb.role = .junction ∨ src = .surface) →
      Goes (.allClear src tag []) s (respond src tag (refused .denied) s)

/-- R114, R116, R118, R119: REFUGE_CONFIGURE sets a record anew, with a head or UNUSED, and drops its polls; REFUGE_ACK ends a
call; under the latch a record that stays open or occupied is reported again at report count 200, by a REFUGE_REPORT with reason
PERIODIC for node 0 (its row acts at the brink, log 2). -/
def Obligations.Refuges : Prop :=
  (∀ (r : Fin 4) (b : Bus) (a : Nat) (tag : Byte) (s : State), 1 ≤ a → a ≤ 127 →
    ∃ t d, Goes (.refugeConfigure .cp tag [byteOf r.val, busByte b, byteOf a]) s (respond .cp tag (done d) t)
      ∧ t.refuge r = { head := some (b, a), state := .noResponse, fields := none, miss := 0, called := false, report := 0 }
      ∧ OtherRefuges r s t ∧ (∀ c : Bus, (t.bus c).list = (s.bus c).list.filter (fun q => q.target != .refuge r))
      ∧ StampsOnly s t ∧ t.gcu.channels = s.gcu.channels ∧ t.pending = s.pending)
  ∧ (∀ (r : Fin 4) (tag : Byte) (s : State),
      ∃ t d, Goes (.refugeConfigure .cp tag [byteOf r.val, 255#8, 255#8]) s (respond .cp tag (done d) t)
        ∧ t.refuge r = { head := none, state := .unused, fields := none, miss := 0, called := false, report := 0 }
        ∧ OtherRefuges r s t ∧ (∀ c : Bus, (t.bus c).list = (s.bus c).list.filter (fun q => q.target != .refuge r))
        ∧ ((s.refuge r).state ≠ .unused → t.tb.refugeStamps.get r = none)
        ∧ StampsOnly s t ∧ t.gcu.channels = s.gcu.channels ∧ t.pending = s.pending)
  ∧ (∀ (r : Fin 4) (src : Source) (tag : Byte) (s : State) (i : Instr), src ≠ .sp → i = .refugeAck src tag [byteOf r.val] →
      ((s.refuge r).state = .unused → Goes i s (respond src tag (refused .wrongState) s))
      ∧ ((s.refuge r).state ≠ .unused → (s.refuge r).called = false → Goes i s (respond src tag (done [0#8]) s))
      ∧ ((s.refuge r).state ≠ .unused → (s.refuge r).called = true →
          ∃ t, Goes i s (respond src tag (done []) t) ∧ t.refuge r = { s.refuge r with called := false, report := 0 }
            ∧ OtherRefuges r s t ∧ ((∀ k, k ≠ r → (s.refuge k).called = false) → t.sau.causes.refugeCall = false)
            ∧ t.sau.level = levelOf t ∧ AlarmFrame s t))
  ∧ ∀ (r : Fin 4) (s : State), s.sau.latch = true → ((s.refuge r).state = .doorOpen ∨ (s.refuge r).state = .occupied) →
      199 ≤ (s.refuge r).report →
      ∃ (t : State) (c : Cell), Goes (.refugePeriodicReport r) s t ∧ Reports (s.setRefuge r { s.refuge r with report := 0 }) t
        ∧ c.kind = 37 ∧ c.cls = .signal ∧ c.src = s.tb.address ∧ c.dst = 0 ∧ c.hop = 0 ∧ c.stamp = s.tb.running % 256
        ∧ c.payload = refugeReportBytes r { periodic := true } s
        ∧ byteAt c.payload 0 = 64 * r.val + (s.refuge r).state.code ∧ byteAt c.payload 1 = 16
        ∧ (s.tb.role = .head → s.cs.generalQ.length < 64 → t.cs.generalQ = s.cs.generalQ ++ [c])
        ∧ (s.tb.role = .junction → s.tb.address ≠ 0 → s.cs.staging = none → s.cs.queues.outbye.signal.length < 16 →
            t.cs.queues.outbye.signal = s.cs.queues.outbye.signal ++ [c])

/-! ## Chapter 7: calls -/

/-- R121, R122, R125, R126: CALL_OPEN. With room on its line and a FREE entry, the lowest-numbered FREE entry becomes an ORIGIN in
REQUESTED, at the newest end of the recency list, its CALL_SETUP is queued for the adjacent node, and the answer is ACCEPTED
with index, reference and priority. On a full line the newest of the calls of the lowest priority, if that is below the new
call's, is pre-empted first; if no call of the line is below it the command is refused with NO_CELLS; a full table with room on
the line refuses with NO_ENTRY. An older entry under the reference taken is cleared before the new one is made (R121): that it is
cleared only once the call is admitted, and with the cause STALE that R128 gives a duplicate, is the model's choice (log 45). -/
def Obligations.CallOpened : Prop :=
  (∀ (tag : Byte) (p : Bytes) (s : State) (i : Fin 12) (l : Line) (q pr : Priority) (caller callee dest : Nat),
    p.length = 6 → caller = wordAt p 0 → dest = byteAt p 2 → callee = wordAt p 3 → priorityOf (byteAt p 5) = some q →
    pr = (if 990 ≤ caller then .emergency else q) → 1 ≤ caller → caller ≤ 999 → callee ≤ 999 → dest ≤ 62 →
    dest ≠ s.tb.address → l = onwardLine dest s →
    s.tb.trunk ≠ .setup → s.tb.trunk ≠ .halted → s.tb.trunk ≠ .listen → s.tb.trunk ≠ .join →
    (pr = .routine → s.ctu.level ≠ .evacuate) → (s.ctu.supplyMode = .reserve → pr = .emergency) →
    reservations s l < budgetInForce s → s.call i = none → (∀ j : Fin 12, j < i → (s.call j).isSome = true) →
    ∃ t, Goes (.callOpen .cp tag p) s
        (respond .cp tag (accepted [byteOf i.val, byteOf s.tb.address, byteOf i.val, byteOf pr.code]) t)
      ∧ t.call i = some (newCall .requested .origin s.tb.address i.val pr none
          (some { line := l, addr := (s.cs.status.get l).neighbour, index := none }) dest caller
          (if callee = 0 then none else some callee))
      ∧ (∀ j : Fin 12, j ≠ i → t.call j = if staysBeside i s j = true then s.call j else none)
      ∧ t.ctu.recency = s.ctu.recency.filter (staysBeside i s) ++ [i] ∧ SameBut [.cs, .ctu, .pi] s t
      ∧ (s.cs.staging = none → (s.cs.queues.get l).signal.length < 16 → findRef s.tb.address i.val s = none →
          ∃ c : Cell, (t.cs.queues.get l).signal = (s.cs.queues.get l).signal ++ [c] ∧ c.kind = 16 ∧ c.dst = 63)
      ∧ (∀ (k : Fin 12) (e : Call), s.cs.staging = none → (s.cs.queues.get l).signal.length < 15 →
          findRef s.tb.address i.val s = some k → s.call k = some e → (s.tb.role = .head → e.uses .outbye = false) →
          ∃ c d : Cell, (t.cs.queues.get l).signal = (s.cs.queues.get l).signal ++ (if e.uses l = true then [d] else []) ++ [c]
            ∧ c.kind = 16 ∧ c.dst = 63 ∧ d.kind = 20 ∧ d.dst = 63
            ∧ d.payload = [byteOf s.tb.address, byteOf i.val, byteOf CallCause.stale.code, byteOf s.tb.address]))
  ∧ ∀ (tag : Byte) (p : Bytes) (s : State) (l : Line) (q pr : Priority),
      p.length = 6 → priorityOf (byteAt p 5) = some q → pr = (if 990 ≤ wordAt p 0 then .emergency else q) → 1 ≤ wordAt p 0 →
      wordAt p 0 ≤ 999 → wordAt p 3 ≤ 999 → byteAt p 2 ≤ 62 → byteAt p 2 ≠ s.tb.address → l = onwardLine (byteAt p 2) s →
      s.tb.trunk ≠ .setup → s.tb.trunk ≠ .halted → s.tb.trunk ≠ .listen → s.tb.trunk ≠ .join →
      (pr = .routine → s.ctu.level ≠ .evacuate) → (s.ctu.supplyMode = .reserve → pr = .emergency) →
      (reservations s l < budgetInForce s → (∀ j : Fin 12, (s.call j).isSome = true) →
        Goes (.callOpen .cp tag p) s (respond .cp tag (refused .noEntry) s))
      ∧ (budgetInForce s ≤ reservations s l → (∀ (k : Fin 12) (e : Call), s.call k = some e → e.uses l = true →
            pr.code ≤ e.priority.code) →
        Goes (.callOpen .cp tag p) s (respond .cp tag (refused .noCells) s))
      ∧ ∀ (i j : Fin 12) (v : Call) (a b : List (Fin 12)), budgetInForce s ≤ reservations s l →
          s.ctu.recency = a ++ j :: b → j ∉ a → j ∉ b → s.call j = some v → v.uses l = true → v.priority.code < pr.code →
          (∀ (k : Fin 12) (e : Call), s.call k = some e → e.uses l = true → v.priority.code ≤ e.priority.code) →
          (∀ (k : Fin 12) (e : Call), k ∈ b → s.call k = some e → e.uses l = true → e.priority ≠ v.priority) →
          (s.call i = none ∨ i = j) → (∀ k : Fin 12, k < i → k ≠ j ∧ (s.call k).isSome = true) →
          ∃ t, Goes (.callOpen .cp tag p) s
              (respond .cp tag (accepted [byteOf i.val, byteOf s.tb.address, byteOf i.val, byteOf pr.code]) t)
            ∧ t.call i = some (newCall .requested .origin s.tb.address i.val pr none
                (some { line := l, addr := (s.cs.status.get l).neighbour, index := none }) (byteAt p 2) (wordAt p 0)
                (if wordAt p 3 = 0 then none else some (wordAt p 3)))
            ∧ (i ≠ j → t.call j = none)
            ∧ (∀ k : Fin 12, k ≠ i → k ≠ j → t.call k = if staysBeside i (s.setCall j none) k = true then s.call k else none)
            ∧ t.ctu.recency = (a ++ b).filter (staysBeside i (s.setCall j none)) ++ [i] ∧ SameBut [.cs, .ctu, .pi] s t

/-- R125, R127 to R129, R131: a CALL_SETUP for this node with room makes a DESTINATION in RINGING; one for a node beyond, with
room on both lines, a TRANSIT in REQUESTED, and its CALL_SETUP goes on with the entry's own index; one that comes in LISTEN or
JOIN, or that would go back on its line of arrival, is refused with NO_ROUTE and one that finds its lines full of calls no less
urgent with NO_CELLS; a matched CALL_ALERTING takes an ORIGIN from REQUESTED to RINGING; a matched CALL_CONNECT makes it
CONNECTED with the stamp in force. That a callee handset above 999 is stored and passed on as it came is the model's choice
(log 45). -/
def Obligations.CallSignalling : Prop :=
  (∀ (l : Line) (src : Nat) (p : Bytes) (s : State) (i : Fin 12) (pr : Priority),
    s.quiet = false → s.tb.trunk ≠ .listen → s.tb.trunk ≠ .join → byteAt p 0 ≤ 62 → byteAt p 1 ≤ 11 → byteAt p 2 ≤ 11 →
    1 ≤ wordAt p 5 → wordAt p 5 ≤ 999 → priorityOf (byteAt p 4) = some pr → byteAt p 3 = s.tb.address → s.tb.address ≤ 62 →
    findRef (byteAt p 0) (byteAt p 1) s = none → (pr = .routine → s.ctu.level ≠ .evacuate) →
    (s.ctu.supplyMode = .reserve → pr = .emergency) → reservations s l < budgetInForce s → s.call i = none →
    (∀ j : Fin 12, j < i → (s.call j).isSome = true) →
    ∃ t, Goes (.callSetupReceived l src p) s t
      ∧ t.call i = some (newCall .ringing .destination (byteAt p 0) (byteAt p 1) pr
          (some { line := l, addr := some src, index := some (byteAt p 2) }) none (byteAt p 0) (wordAt p 5)
          (if wordAt p 7 = 0 then none else some (wordAt p 7)))
      ∧ OtherCalls i s t ∧ t.ctu.recency = s.ctu.recency.filter (fun j => j != i) ++ [i] ∧ SameBut [.cs, .ctu, .pi] s t)
  ∧ (∀ (l : Line) (src : Nat) (p : Bytes) (s : State) (pr : Priority),
    s.quiet = false → byteAt p 0 ≤ 62 → byteAt p 1 ≤ 11 → byteAt p 2 ≤ 11 → 1 ≤ wordAt p 5 → wordAt p 5 ≤ 999 →
    priorityOf (byteAt p 4) = some pr → findRef (byteAt p 0) (byteAt p 1) s = none →
    ((s.tb.trunk = .listen ∨ s.tb.trunk = .join ∨ 62 < byteAt p 3
        ∨ (byteAt p 3 ≠ s.tb.address ∧ onwardLine (byteAt p 3) s = l)) →
      Goes (.callSetupReceived l src p) s
        (sendAdjacent l 19 (u8 (byteAt p 0) ++ u8 (byteAt p 1) ++ u8 CallCause.noRoute.code ++ u8 s.tb.address) s))
    ∧ (s.tb.trunk ≠ .listen → s.tb.trunk ≠ .join → byteAt p 3 ≤ 62 → byteAt p 3 ≠ s.tb.address →
      onwardLine (byteAt p 3) s = l.other → (pr = .routine → s.ctu.level ≠ .evacuate) →
      (s.ctu.supplyMode = .reserve → pr = .emergency) →
      ((∃ k : Line, budgetInForce s ≤ reservations s k) →
        (∀ (j : Fin 12) (e : Call), s.call j = some e → pr.code ≤ e.priority.code) →
        Goes (.callSetupReceived l src p) s
          (sendAdjacent l 19 (u8 (byteAt p 0) ++ u8 (byteAt p 1) ++ u8 CallCause.noCells.code ++ u8 s.tb.address) s))
      ∧ ∀ i : Fin 12, (∀ k : Line, reservations s k < budgetInForce s) → s.call i = none →
          (∀ j : Fin 12, j < i → (s.call j).isSome = true) →
          ∃ t, Goes (.callSetupReceived l src p) s t
            ∧ t.call i = some (newCall .requested .transit (byteAt p 0) (byteAt p 1) pr
                (some { line := l, addr := some src, index := some (byteAt p 2) })
                (some { line := l.other, addr := (s.cs.status.get l.other).neighbour, index := none }) (byteAt p 3) (wordAt p 5)
                (if wordAt p 7 = 0 then none else some (wordAt p 7)))
            ∧ OtherCalls i s t ∧ t.ctu.recency = s.ctu.recency.filter (fun j => j != i) ++ [i] ∧ SameBut [.cs, .ctu, .pi] s t
            ∧ (s.tb.role = .junction → s.cs.staging = none → (s.cs.queues.get l.other).signal.length < 16 →
                ∃ c : Cell, (t.cs.queues.get l.other).signal = (s.cs.queues.get l.other).signal ++ [c] ∧ c.kind = 16 ∧ c.dst = 63
                  ∧ c.payload = [byteOf (byteAt p 0), byteOf (byteAt p 1), byteOf i.val, byteOf (byteAt p 3), byteOf pr.code]
                      ++ u16 (wordAt p 5) ++ u16 (wordAt p 7))))
  ∧ ∀ (l : Line) (src : Nat) (p : Bytes) (s : State) (i : Fin 12) (e : Call) (x : Option Nat),
      s.quiet = false → byteAt p 0 ≤ 62 → byteAt p 1 ≤ 11 → byteAt p 2 ≤ 11 → findRef (byteAt p 0) (byteAt p 1) s = some i →
      s.call i = some e → e.role = .origin → e.state = .requested →
      e.far = some { line := l, addr := some src, index := x } →
      (∃ t, Goes (.callAlertingReceived l src p) s t ∧ OtherCalls i s t ∧ SameBut [.ctu, .pi] s t
        ∧ t.call i = some { e with
            far := some { line := l, addr := some src, index := some (byteAt p 2) }, state := .ringing, timer := 0 })
      ∧ (∃ t, Goes (.callConnectReceived l src p) s t ∧ OtherCalls i s t ∧ SameBut [.ctu, .pi] s t
        ∧ t.ctu.recency = s.ctu.recency.filter (fun j => j != i) ++ [i]
        ∧ t.call i = some { e with
            far := some { line := l, addr := some src, index := some (byteAt p 2) }, state := .connected, timer := 0
            silence := ⟨0, 0⟩, connected := some { round := s.tb.running, tick := s.tb.tick } })

/-- R124, R130, R132 to R135: an entry answered is CONNECTED; rejected, cleared by the CP, timed out, refused or cleared by a
neighbour it is FREE and off the recency list, and no other entry changes; a lowered budget is kept at once. -/
def Obligations.CallsAnsweredAndEnded : Prop :=
  (∀ (i : Fin 12) (e : Call) (tag : Byte) (s : State), s.call i = some e →
    (e.role = .destination → e.state = .ringing →
      (∃ t, Goes (.callAnswer .cp tag [byteOf i.val]) s (respond .cp tag (done []) t) ∧ OtherCalls i s t
        ∧ t.call i = some { e with state := .connected, timer := 0, silence := ⟨0, 0⟩, connected := some s.now }
        ∧ t.ctu.recency = s.ctu.recency.filter (fun j => j != i) ++ [i] ∧ SameBut [.cs, .ctu, .pi] s t)
      ∧ ∃ t, Goes (.callReject .cp tag [byteOf i.val]) s (respond .cp tag (done []) t) ∧ CallGone i s t)
    ∧ (e.role ≠ .transit → ∃ t, Goes (.callClear .cp tag [byteOf i.val]) s (respond .cp tag (done []) t) ∧ CallGone i s t)
    ∧ (e.role = .transit → Goes (.callClear .cp tag [byteOf i.val]) s (respond .cp tag (refused .denied) s))
    ∧ (∀ n c, timerLimit e = some (n, c) → n ≤ e.timer + 1 → ∃ t, Goes (.callStateTimeout i) s t ∧ CallGone i s t)
    ∧ (∀ l : Line, e.state = .connected → e.uses l = true → 39 ≤ e.silence.get l →
        ∃ t, Goes (.callLossTimeout i) s t ∧ CallGone i s t)
    ∧ (∀ (l : Line) (src : Nat) (p : Bytes), s.quiet = false → byteAt p 0 ≤ 62 → byteAt p 1 ≤ 11 →
        findRef (byteAt p 0) (byteAt p 1) s = some i →
        (sideMatches e.far l src = true → ∃ t, Goes (.callRefusedReceived l src p) s t ∧ CallGone i s t)
        ∧ ((sideMatches e.up l src = true ∨ sideMatches e.far l src = true) →
            ∃ t, Goes (.callClearReceived l src p) s t ∧ CallGone i s t)))
  ∧ ∀ (n : Nat) (tag : Byte) (s : State), n < 256 → CallsKept s →
      ∃ t d, Goes (.callBudgetSet .cp tag [byteOf n]) s (respond .cp tag (done d) t) ∧ t.ctu.budgetSet = min 10 n
        ∧ (∀ l : Line, reservations t l ≤ budgetInForce t) ∧ (∀ i, t.call i = s.call i ∨ t.call i = none)
        ∧ SameBut [.cs, .ctu, .pi] s t

/-- R137 to R139: a matched VOICE cell fills the receive buffer of an endpoint, or the relay slot of a transit toward the other
line, and counts an overrun where the older was not taken; VOICE_PUT fills the transmit buffer; VOICE_TAKE empties the
receive buffer and answers it with the overrun count. -/
def Obligations.VoiceCarried : Prop :=
  (∀ (i : Fin 12) (e : Call) (l : Line) (src : Nat) (v : Bytes) (s : State), s.quiet = false → s.call i = some e →
    e.state = .connected → (sideMatches e.up l src = true ∨ sideMatches e.far l src = true) →
    (e.role ≠ .transit → Goes (.callCellReceived l src i.val (some v)) s (s.setCall i (some { e with
      silence := e.silence.set l 0, rx := some v, overrun := if e.rx = none then e.overrun else min 65535 (e.overrun + 1) })))
    ∧ (e.role = .transit → Goes (.callCellReceived l src i.val (some v)) s (s.setCall i (some { e with
      silence := e.silence.set l 0, relay := e.relay.set l.other (some (.voice v))
      overrun := if e.relay.get l.other = none then e.overrun else min 65535 (e.overrun + 1) }))))
  ∧ ∀ (i : Fin 12) (e : Call) (tag : Byte) (v : Bytes) (s : State), s.call i = some e → e.state = .connected →
      e.role ≠ .transit → v.length = 24 →
      Goes (.voicePut .cp tag (byteOf i.val :: v)) s
        (respond .cp tag (done (u16 e.underrun)) (s.setCall i (some { e with tx := some v })))
      ∧ Goes (.voiceTake .cp tag [byteOf i.val]) s
        (respond .cp tag (done (e.rx.getD [] ++ u16 e.overrun)) (s.setCall i (some { e with rx := none })))

/-! ## Chapter 8: vehicles and the roadway block -/

/-- R144, R145, R148, R149, R152: the radio: a sync byte opens a frame; a frame judged bad and a frame that times out are
discarded and counted; the oldest ORDER frame is sent; the beacon of a vehicle known brings its entry up to date and is answered
with the order that the table gives it; the beacon of one not known takes the lowest free entry and is answered so too, or with
WAIT when the table is full. That a frame given whole is judged and taken in HUNT as in FRAME is the model's choice (log 22), as
is that ORDER frames wait in a list without limit (log 23), that the timeout row acts at the brink (log 2), and that a beacon's
methane value, with the level it brings back, goes before the derivation (log 45). -/
def Obligations.RadioFrames : Prop :=
  (∀ s : State, (s.vu.radio.inFrame = true → Goes .syncByteReceived s s)
    ∧ (s.vu.radio.inFrame = false →
        Goes .syncByteReceived s (s.updVu fun u => { u with radio := { u.radio with inFrame := true, frameAge := 0 } })))
  ∧ (∀ (f : Bytes) (r : DiscardReason) (s : State), judgeFrame f = .inl r →
      Goes (.radioFrameDiscard f) s (s.updVu fun u => { u with radio := { u.radio with
        inFrame := false, frameAge := 0, discards := min 65535 (u.radio.discards + 1), lastReason := some r } }))
  ∧ (∀ s : State, s.vu.radio.inFrame = true → 63 ≤ s.vu.radio.frameAge →
      Goes .radioTimeout s (s.updVu fun u => { u with radio := { u.radio with
        inFrame := false, frameAge := 0, discards := min 65535 (u.radio.discards + 1), lastReason := some .timeout } }))
  ∧ (∀ (f : Bytes) (rest : List Bytes) (s : State), s.vu.radio.orders = f :: rest →
      Goes .orderFrameSend s (s.updVu fun u => { u with radio := { u.radio with orders := rest, lastSent := f } }))
  ∧ (∀ (f : Bytes) (b : Beacon) (i : Fin 16) (v : Vehicle) (s : State), judgeFrame f = .inr b → findVehicle b.id s = some i →
      s.vehicle i = some v →
      ∃ t w, Goes (.beacon f) s t ∧ t.vehicle i = some w ∧ w.id = v.id ∧ w.kind = b.kind ∧ w.heading = b.heading
        ∧ w.firstStamp = v.firstStamp ∧ w.lastHeard = s.tb.running ∧ w.unheard = 0 ∧ w.manualStop = v.manualStop
        ∧ w.methane = b.methane.map (min 10000)
        ∧ (v.first ≠ none → w.first = v.first)
        ∧ (v.first = none → w.first = match b.heading with
            | .inbye => some .inbye
            | .outbye => some .outbye
            | .stopped => none)
        ∧ w.order = orderOf t w ∧ w.echoOk = decide (b.echo = w.order.code)
        ∧ t.vu.radio = { s.vu.radio with inFrame := false, frameAge := 0, beacons := min 65535 (s.vu.radio.beacons + 1)
                                         orders := s.vu.radio.orders ++ [orderFrame b.id w.order] }
        ∧ StampsOnly s t ∧ t.sbm = s.sbm ∧ t.pending = s.pending)
  ∧ (∀ (f : Bytes) (b : Beacon) (i : Fin 16) (s : State), judgeFrame f = .inr b → findVehicle b.id s = none →
      s.vehicle i = none → (∀ j : Fin 16, j < i → (s.vehicle j).isSome = true) →
      ∃ t v, Goes (.beacon f) s t ∧ t.vehicle i = some v ∧ v.id = b.id ∧ v.kind = b.kind ∧ v.heading = b.heading
        ∧ v.firstStamp = s.now ∧ v.lastHeard = s.tb.running ∧ v.unheard = 0 ∧ v.manualStop = false
        ∧ v.order = orderOf t v ∧ v.echoOk = decide (b.echo = v.order.code)
        ∧ t.vu.radio = { s.vu.radio with inFrame := false, frameAge := 0, beacons := min 65535 (s.vu.radio.beacons + 1)
                                         orders := s.vu.radio.orders ++ [orderFrame b.id v.order] }
        ∧ StampsOnly s t ∧ t.sbm = s.sbm ∧ t.pending = s.pending)
  ∧ ∀ (f : Bytes) (b : Beacon) (s : State), judgeFrame f = .inr b → (∀ i, ∃ v, s.vehicle i = some v ∧ v.id ≠ b.id) →
      b.methane = none →
      ∃ t, Goes (.beacon f) s t ∧ t.vu.entries = s.vu.entries ∧ t.vu.tableFull = true
        ∧ t.vu.radio.orders = s.vu.radio.orders ++ [orderFrame b.id .wait] ∧ SameBut [.vu, .pi] s t

/-- R150, R159, R162: a vehicle whose unheard count reaches the presence timeout leaves its entry; a request unanswered for
100 rounds is built again; a member whose age reaches the transit limit becomes overdue and stays a member. -/
def Obligations.VehicleTimers : Prop :=
  (∀ (i : Fin 16) (v : Vehicle) (s : State), s.vehicle i = some v → s.vu.cfg.presence ≤ v.unheard + 1 →
    ∃ t, Goes (.vehicleDeparture i) s t ∧ t.vehicle i = none ∧ t.vu.tableFull = false ∧ SameBut [.cs, .vu, .pi] s t)
  ∧ (∀ (i : Fin 16) (v : Vehicle) (s : State), s.vehicle i = some v → v.request = .requested → 99 ≤ v.resend →
      ∃ t, Goes (.blockRequestResend i) s t ∧ Reports (s.setVehicle i (some { v with resend := 0 })) t
        ∧ (s.tb.role = .junction → s.cs.staging = none → s.cs.queues.outbye.signal.length < 16 →
            ∃ c : Cell, t.cs.queues.outbye.signal = s.cs.queues.outbye.signal ++ [c] ∧ c.kind = 48 ∧ c.dst = 63
              ∧ c.payload = u16 v.id ++ u8 v.kind.code))
  ∧ ∀ (pre post : List Member) (m : Member) (s : State), s.vu.members = pre ++ m :: post → (∀ x ∈ pre, x.id ≠ m.id) →
      m.overdue = false → s.vu.cfg.transit ≤ m.age + 1 →
      ∃ t, Goes (.memberOverdue m.id) s t
        ∧ Reports (s.updVu fun u => { u with members := pre ++ { m with age := m.age + 1, overdue := true } :: post }) t

/-- R152, R154: VEHICLE_ORDER, and the order that the seven lines of the table give an entry, the first that applies. At line 3 the
order is EVACUATE also for an entry whose request is NONE where the outbye block is not governed, at a re-derivation too (log 45). -/
def Obligations.VehicleOrdered : Prop :=
  (∀ (s : State) (v : Vehicle) (trip stop evac alarm gov out : Prop),
    trip = (v.kind = .diesel ∧ s.vu.methane = .trip) → stop = (v.manualStop = true) → evac = (s.vu.level = .evacuate) →
    alarm = (v.kind = .diesel ∧ s.vu.methane = .alarm ∧ (v.heading = .inbye ∨ v.heading = .stopped)) →
    gov = (v.heading = .inbye ∧ s.vu.cfg.governs = true) → out = (v.heading = .outbye ∧ s.vu.cfg.outbyeGoverned = true) →
    (trip → orderOf s v = .shutdown)
    ∧ (¬trip → stop → orderOf s v = .stop)
    ∧ (¬trip → ¬stop → evac → orderOf s v =
        if (v.heading = .outbye ∨ v.heading = .stopped) ∧ (v.request = .granted ∨ s.vu.cfg.outbyeGoverned = false)
        then .evacuate else .wait)
    ∧ (¬trip → ¬stop → ¬evac → alarm → orderOf s v = .noEntry)
    ∧ (¬trip → ¬stop → ¬evac → ¬alarm → gov → orderOf s v = if v.role = .member then .proceed else .wait)
    ∧ (¬trip → ¬stop → ¬evac → ¬alarm → out → orderOf s v = if v.request = .granted then .proceed else .wait)
    ∧ (¬trip → ¬stop → ¬evac → ¬alarm → ¬gov → ¬out → orderOf s v = .proceed))
  ∧ ∀ (src : Source) (tag : Byte) (id : Nat) (stop : Bool) (s : State) (k : Instr),
    k = (if stop then .vehicleOrderStop src tag id else .vehicleOrderRelease src tag id) →
    (src = .sp → Goes k s (respond src tag (refused .denied) s))
    ∧ (src ≠ .sp → (id = 0 ∨ 4095 < id) → Goes k s (respond src tag (refused .badParam) s))
    ∧ (src ≠ .sp → 1 ≤ id → id ≤ 4095 → (∀ i v, s.vehicle i = some v → v.id ≠ id) →
        Goes k s (respond src tag (refused .noEntry) s))
    ∧ (∀ (i : Fin 16) (v : Vehicle), src ≠ .sp → 1 ≤ id → id ≤ 4095 → findVehicle id s = some i → s.vehicle i = some v →
        ∃ t w, Goes k s (respond src tag (done (u16 id ++ [byteOf (flag stop), byteOf w.order.code])) t)
          ∧ t = rederive i (s.setVehicle i (some { v with manualStop := stop }))
          ∧ t.vehicle i = some w ∧ w.manualStop = stop ∧ w.order = orderOf t w ∧ w.id = id ∧ SameBut [.cs, .vu, .pi] s t
          ∧ (v.manualStop = stop → t = rederive i s))
    ∧ (∀ r : Bytes, frameGood r = true → byteAt r 0 = 56 → byteAt r 2 = 3 → 1 < byteAt r 5 → src ≠ .sp →
        Goes (.unknownCommand src r) s (respond src (r.getD 1 0) (refused .badParam) s))

/-- R156 to R162: the roadway block: BLOCK_CONFIGURE sets the five values; a request at a governing node with the roadway free is
granted at once; a request at a node that does not govern is granted for the asking; a grant reaches its vehicle; an exit
takes a member from the list; BLOCK_FORCE_CLEAR empties it. -/
def Obligations.RoadwayBlock : Prop :=
  (∀ (tag : Byte) (p : Bytes) (s : State) (c : BlockConfig), p.length = 7 → byteAt p 0 ≤ 1 → byteAt p 1 ≤ 1 →
    (s.tb.role = .head → byteAt p 1 = 0) →
    c = { governs := byteAt p 0 == 1, outbyeGoverned := byteAt p 1 == 1, convoy := min 4 (max 1 (byteAt p 2))
          transit := min 12000 (max 200 (wordAt p 3)), presence := min 1000 (max 20 (wordAt p 5)) } →
    (s.vu.cfg.governs = true → c.governs = false → s.vu.members ≠ [] →
      Goes (.blockConfigure .cp tag p) s (respond .cp tag (refused .wrongState) s))
    ∧ ((s.vu.cfg.governs = true → c.governs = false → s.vu.members = []) →
        ∃ t, Goes (.blockConfigure .cp tag p) s (respond .cp tag (done (blockConfigBytes c)) t) ∧ t.vu.cfg = c
          ∧ SameBut [.cs, .vu, .pi] s t))
  ∧ (∀ (p : Bytes) (s : State), 1 ≤ wordAt p 0 → wordAt p 0 ≤ 4095 →
      (s.vu.cfg.governs = false →
        Goes (.blockRequestReceived .inbye p) s (sendAdjacent .inbye 49 (u16 (wordAt p 0)) s))
      ∧ (s.vu.cfg.governs = true → s.vu.members = [] → s.vu.waits = [] → s.vu.dir = .free → 0 < convoyInForce s →
          ∃ t, Goes (.blockRequestReceived .inbye p) s t ∧ SameBut [.cs, .vu, .pi] s t
            ∧ t.vu = { s.vu with
                members := [{ id := wordAt p 0, round := s.tb.running, age := 0, overdue := false }], dir := .outbyeBound }))
  ∧ (∀ (p : Bytes) (s : State) (i : Fin 16) (v : Vehicle), 1 ≤ wordAt p 0 → wordAt p 0 ≤ 4095 →
      findVehicle (wordAt p 0) s = some i → s.vehicle i = some v → v.request = .requested →
      ∃ t w, Goes (.blockGrantReceived .outbye p) s t ∧ t.vehicle i = some w ∧ w.id = v.id ∧ w.request = .granted
        ∧ w.order = orderOf t w ∧ SameBut [.cs, .vu, .pi] s t)
  ∧ (∀ (p : Bytes) (s : State), 1 ≤ wordAt p 1 → wordAt p 1 ≤ 4095 → byteAt p 0 ≤ 1 → s.vu.waits = [] →
      (∃ m ∈ s.vu.members, m.id = wordAt p 1) →
      ∃ t, Goes (.blockExitReceived .inbye p) s t ∧ t.vu.members = s.vu.members.filter (fun m => m.id != wordAt p 1)
        ∧ (t.vu.members = [] → t.vu.dir = .free) ∧ (t.vu.members ≠ [] → t.vu.dir = s.vu.dir) ∧ SameBut [.vu] s t)
  ∧ ∀ (src : Source) (tag : Byte) (s : State), src ≠ .sp → s.vu.waits = [] →
      ∃ t, Goes (.blockForceClear src tag []) s (respond src tag (done [byteOf s.vu.members.length]) t)
        ∧ t.vu.members = [] ∧ t.vu.dir = .free ∧ (∀ i v, t.vehicle i = some v → v.role ≠ .member) ∧ SameBut [.vu] s t

/-! ## Chapter 9: ports, rights and notices -/

/-- R167: the response slot of a port: a command's response replaces what it holds and is unread, and RESPONSE_LOST is set if
the older one was unread; a read returns the response, or the empty indication, and marks it read, and a second read returns
the same; every command from a port ends in a response in its slot. -/
def Obligations.ResponseSlots : Prop :=
  (∀ (p : Port) (tag : Byte) (a : Answer) (s : State),
    respond (portSource p) tag a s = s.updPort p (fun ps => { ps with
      slot := some { tag := tag, status := a.status, data := a.data }, slotRead := false
      responseLost := ps.responseLost || !ps.slotRead }))
  ∧ (∀ (p : Port) (s : State), ∃ t u, Goes (.responseRead p) s t ∧ Goes (.responseRead p) t u
      ∧ t = s.updPort p (fun ps => { ps with slotRead := true, lastRead := (t.pi.ports.get p).lastRead })
      ∧ (t.pi.ports.get p).lastRead = (match (s.pi.ports.get p).slot with
          | some r => r.tag :: byteOf r.status :: byteOf r.data.length :: r.data
                        ++ [checkByte (r.tag :: byteOf r.status :: byteOf r.data.length :: r.data)]
          | none => [0x00#8, 0xFF#8, 0x00#8, 0x01#8])
      ∧ u = t)
  ∧ ∀ (p : Port) (tag : Byte) (params : Bytes) (right : Bool) (body : State → State × Answer) (s : State),
      ∃ a t, command (portSource p) tag params right body s = respond (portSource p) tag a t

/-- R172 to R174: a notice posted to a port: of a disabled kind it is lost; one that updates a queued notice takes its place; it
joins the tail while it is unmaskable or fewer than 24 maskable ones are queued; a HIGH one takes the place of the newest LOW
one; otherwise it is lost; the last two set NOTICE_OVERFLOW. -/
def Obligations.NoticePosting : Prop :=
  ∀ (n : Notice) (ps : PortState),
    SamePort ps (ps.post n)
    ∧ (n.kind.maskable = true → holdsKind ps.enabled n.kind = false → ps.post n = ps)
    ∧ ((n.kind.maskable = false ∨ holdsKind ps.enabled n.kind = true) →
        (∀ (a b : List Notice) (q : Notice), ps.queue = a ++ q :: b → coalesces n q = true → (∀ x ∈ a, coalesces n x = false) →
          ps.post n = { ps with queue := a ++ n :: b })
        ∧ ((∀ x ∈ ps.queue, coalesces n x = false) →
          ((n.kind.maskable = false ∨ maskableCount ps.queue < 24) → ps.post n = { ps with queue := ps.queue ++ [n] })
          ∧ (n.kind.maskable = true → 24 ≤ maskableCount ps.queue →
              (∀ (a b : List Notice) (q : Notice), holdsKind ps.high n.kind = true → ps.queue = a ++ q :: b →
                lowNotice ps q = true → (∀ x ∈ b, lowNotice ps x = false) →
                ps.post n = { ps with queue := a ++ b ++ [n], noticeOverflow := true })
              ∧ ((holdsKind ps.high n.kind = false ∨ ∀ x ∈ ps.queue, lowNotice ps x = false) →
                ps.post n = { ps with noticeOverflow := true }))))

/-- R175: NOTICE_TAKE. -/
def Obligations.NoticeTake : Prop :=
  ∀ (p : Port) (tag : Byte) (s : State) (ps : PortState), ps = s.pi.ports.get p →
    (s.noticeLine p = true ↔ ps.queue ≠ [])
    ∧ (ps.queue = [] → Goes (.noticeTake (portSource p) tag []) s (respond (portSource p) tag (done [0#8]) s))
    ∧ ∀ (a b : List Notice) (n : Notice), ps.queue = a ++ n :: b →
        ((n.kind.maskable = false ∧ ∀ x ∈ a, x.kind.maskable = true)
          ∨ ((∀ x ∈ ps.queue, x.kind.maskable = true) ∧ holdsKind ps.high n.kind = true
              ∧ ∀ x ∈ a, holdsKind ps.high x.kind = false)
          ∨ (a = [] ∧ (∀ x ∈ ps.queue, x.kind.maskable = true) ∧ ∀ x ∈ ps.queue, holdsKind ps.high x.kind = false)) →
        Goes (.noticeTake (portSource p) tag []) s (respond (portSource p) tag
          (done (byteOf (a ++ b).length :: byteOf n.kind.code :: stampBytes (some n.stamp) ++ n.data))
          (s.updPort p fun q => { q with queue := a ++ b }))

/-- R141, R164, R176, R177: the notice settings of the issuing port alone change; CALL_READ, VEHICLE_READ, BLOCK_READ and
STATUS_READ change nothing; the clear option of STATUS_READ clears the port's two flags and the reset-cause record. That the
flags are cleared before the response is written, which may set RESPONSE_LOST again, is the model's inference (log 41). -/
def Obligations.SettingsAndReads : Prop :=
  (∀ (p : Port) (tag : Byte) (a b : Byte) (s : State) (m : BitVec 16), m = a ++ b → m ≠ 0#16 → m.getLsbD 15 = false →
    (∃ d, Goes (.noticeEnableSet (portSource p) tag [a, b]) s (respond (portSource p) tag (done d)
        (s.updPort p fun ps => { ps with enabled := ps.enabled ||| m })))
    ∧ (∃ d, Goes (.noticeEnableClear (portSource p) tag [a, b]) s (respond (portSource p) tag (done d)
        (s.updPort p fun ps => { ps with enabled := ps.enabled &&& ~~~m })))
    ∧ (∃ d, Goes (.noticeGroupSet (portSource p) tag [a, b, 0#8]) s (respond (portSource p) tag (done d)
        (s.updPort p fun ps => { ps with high := ps.high ||| m })))
    ∧ ∃ d, Goes (.noticeGroupSet (portSource p) tag [a, b, 1#8]) s (respond (portSource p) tag (done d)
        (s.updPort p fun ps => { ps with high := ps.high &&& ~~~m })))
  ∧ (∀ (tag : Byte) (i : Fin 12) (s : State), ∃ d, Goes (.callRead .cp tag [byteOf i.val]) s (respond .cp tag (done d) s))
  ∧ (∀ (src : Source) (tag : Byte) (i : Fin 16) (page : Nat) (s : State),
      (∃ d, Goes (.vehicleRead src tag [byteOf i.val]) s (respond src tag (done d) s))
      ∧ (∃ d, Goes (.blockRead src tag []) s (respond src tag (done d) s))
      ∧ ∃ d, Goes (.statusRead src tag page) s (respond src tag (done d) s))
  ∧ ∀ (p : Port) (tag : Byte) (s : State), ∃ d t, Goes (.statusReadClear (portSource p) tag 0) s (respond (portSource p) tag (done d) t)
      ∧ t.pi.powerOn = false ∧ t.pi.external = false
      ∧ t.pi.ports = s.pi.ports.set p { s.pi.ports.get p with responseLost := false, noticeOverflow := false }
      ∧ SameBut [.pi] s t

/-- R179, R184: IDENT_READ: vendor code, part code 4320, revision, role and node address, from every source in every state. -/
def Obligations.IdentRead : Prop :=
  ∀ (src : Source) (tag : Byte) (s : State),
    Goes (.identRead src tag []) s (respond src tag (done [0x0F#8, 0x3A#8, byteOf (4320 / 256), byteOf 4320, 1#8,
      (match s.tb.role with
        | .junction => 0#8
        | .head => 1#8), byteOf s.tb.address]) s)

/-- R171: a command from a source without its right is refused with DENIED and changes nothing. -/
def Obligations.RightsRefused : Prop :=
  ∀ (src : Source) (tag : Byte) (p : Bytes) (s : State), p.length ≤ 32 →
    (src ≠ .sp → ∀ i ∈ [Instr.channelConfigure src tag p, .channelEnable src tag p, .channelDisable src tag p, .tripReset src tag p,
        .superviseStart src tag p, .superviseRefresh src tag p, .overrideRequest src tag p, .supplyConfigure src tag p,
        .cellTake src tag (0#8 :: p.take 31), .alarmRaiseEvacuate src tag],
      Goes i s (respond src tag (refused .denied) s))
    ∧ (src = .cp → ∀ i ∈ [Instr.tripManual src tag p, .overrideCancel src tag p],
        Goes i s (respond src tag (refused .denied) s))
    ∧ (src ≠ .surface → ∀ i ∈ [Instr.overrideConfirm src tag p, .evacuate src tag p],
        Goes i s (respond src tag (refused .denied) s))
    ∧ (src = .surface → ∀ i ∈ [Instr.alarmRaiseAlert src tag, .alertClearOwn src tag, .alertClearBoth src tag,
        .busRelease src tag p true, .busRelease src tag p false, .noticeEnableSet src tag p, .noticeEnableClear src tag p,
        .noticeGroupSet src tag p, .noticeTake src tag p, .statusReadClear src tag 0],
        Goes i s (respond src tag (refused .denied) s))
    ∧ (src = .sp → ∀ i ∈ [Instr.refugeAck src tag p, .vehicleOrderStop src tag 1, .vehicleOrderRelease src tag 1,
        .blockForceClear src tag p, .trunkConfigure src tag p, .trunkStart src tag p, .trunkHalt src tag p, .trunkSetup src tag p],
        Goes i s (respond src tag (refused .denied) s))
    ∧ (src ≠ .cp → ∀ i ∈ [Instr.refugeConfigure src tag p, .callOpen src tag p, .callAnswer src tag p, .callReject src tag p,
        .callClear src tag p, .callRead src tag p, .voicePut src tag p, .voiceTake src tag p, .callBudgetSet src tag p,
        .blockConfigure src tag p, .messageSend src tag p, .sounderSilence src tag p, .filterSet src tag p,
        .holdConfigure src tag p, .cellTake src tag (1#8 :: p.take 31)],
        Goes i s (respond src tag (refused .denied) s))
    ∧ ((s.tb.role = .junction ∨ src = .surface) → ∀ i ∈ [Instr.allClear src tag p, .remote src tag p],
        Goes i s (respond src tag (refused .denied) s))

/-- R166, R169 to R171, R184: a raw record is answered BAD_FRAME or UNKNOWN_COMMAND; one that came in a COMMAND cell is executed
with source SURFACE, but REMOTE and STATUS_READ with the clear option are DENIED there; REMOTE at a head queues the wrapped record
for its target, or for target 0 executes it at the head with source SURFACE, and is ACCEPTED with the record's tag; a full queue
refuses it. What the UNKNOWN_COMMAND row carries is the model's choice (log 15). -/
def Obligations.RecordsChecked : Prop :=
  (∀ (src : Source) (r : Bytes) (s : State),
    ((32 < byteAt r 2 ∨ r.length ≠ byteAt r 2 + 4 ∨ byteSum r ≠ 0) →
      Goes (.unknownCommand src r) s (respond src (r.getD 1 0) (refused .badFrame) s)
      ∧ Goes (.commandReceived r) s (respond .surface (r.getD 1 0) (refused .badFrame) s))
    ∧ (frameGood r = true → (byteAt r 0 = 0 ∨ (4 < byteAt r 0 ∧ byteAt r 0 < 8) ∨ (12 < byteAt r 0 ∧ byteAt r 0 < 16)
          ∨ (16 < byteAt r 0 ∧ byteAt r 0 < 20) ∨ (23 < byteAt r 0 ∧ byteAt r 0 < 28) ∨ (35 < byteAt r 0 ∧ byteAt r 0 < 40)
          ∨ byteAt r 0 = 47 ∨ (60 < byteAt r 0 ∧ byteAt r 0 < 64) ∨ 70 < byteAt r 0) →
      Goes (.unknownCommand src r) s (respond src (r.getD 1 0) (refused .unknownCommand) s)
      ∧ Goes (.commandReceived r) s (respond .surface (r.getD 1 0) (refused .unknownCommand) s)))
  ∧ (∀ (r : Bytes) (s : State) (tag : Byte) (p : Bytes), frameGood r = true → tag = r.getD 1 0 → p = (r.drop 3).take (byteAt r 2) →
      (byteAt r 0 = 41 → ∃ t, Goes (.commandReceived r) s t ∧ Goes (.evacuate .surface tag p) s t)
      ∧ (byteAt r 0 = 28 → ∃ t, Goes (.commandReceived r) s t ∧ Goes (.tripManual .surface tag p) s t)
      ∧ (byteAt r 0 = 33 → ∃ t, Goes (.commandReceived r) s t ∧ Goes (.overrideConfirm .surface tag p) s t)
      ∧ (byteAt r 0 = 3 → ∃ t, Goes (.commandReceived r) s t ∧ Goes (.trunkHalt .surface tag p) s t)
      ∧ (byteAt r 0 = 46 → ∃ t, Goes (.commandReceived r) s t ∧ Goes (.refugeAck .surface tag p) s t)
      ∧ ((byteAt r 0 = 70 ∨ (byteAt r 0 = 68 ∧ 1 ≤ byteAt r 2 ∧ byteAt r 3 = 1)) →
          Goes (.commandReceived r) s (respond .surface tag (refused .denied) s)))
  ∧ (∀ (q : Port) (tag : Byte) (r : Bytes) (s : State), s.tb.role = .head → byteAt r 2 ≤ 20 → r.length = byteAt r 2 + 4 →
      s.cs.queues.inbye.signal.length < 16 →
      ∃ t, Goes (.commandReceived r) s t
        ∧ Goes (.remote (portSource q) tag (0#8 :: r)) s (respond (portSource q) tag (accepted [r.getD 1 0]) t))
  ∧ ∀ (q : Port) (tag : Byte) (target : Nat) (r : Bytes) (s : State), s.tb.role = .head → target ≤ 63 →
      (target ≠ s.tb.address ∨ target = 63) → target ≠ 0 → byteAt r 2 ≤ 20 → r.length = byteAt r 2 + 4 →
      (s.cs.queues.inbye.signal.length < 16 →
        Goes (.remote (portSource q) tag (byteOf target :: r)) s
          (respond (portSource q) tag (accepted [r.getD 1 0]) (sendTo 64 target r s)))
      ∧ (16 ≤ s.cs.queues.inbye.signal.length →
        Goes (.remote (portSource q) tag (byteOf target :: r)) s (respond (portSource q) tag (refused .noCells) s))

/-! ## What every step keeps -/

/-- R80 to R82, R86: from every state in which no persisting cause stands without the latch, and latch, record and stamp stand
and fall together, every step leads to such a state. -/
def Obligations.StepKeepsTrip : Prop := ∀ s t : State, TripHeld s → step s = .next t → TripHeld t

/-- R45 to R47: from every state with both sensor buses legal, every step leads to such a state. -/
def Obligations.StepKeepsBuses : Prop := ∀ s t : State, BusesLegal s → step s = .next t → BusesLegal t

/-- R60, R64, R92: from every state in which a PENDING or ACTIVE override leaves an uncovered voting CH4 bus channel, every step
leads to such a state. -/
def Obligations.StepKeepsCoverage : Prop := ∀ s t : State, CoverageKept s → step s = .next t → CoverageKept t

/-- R122, R123, R125, R140, R142: from every state whose calls are within budget, on the recency list, and not ROUTINE under
EVACUATE, every step leads to such a state. R121: and from every state that holds at most one entry in use under any reference. -/
def Obligations.StepKeepsCalls : Prop :=
  (∀ s t : State, CallsKept s → step s = .next t → CallsKept t) ∧ ∀ s t : State, RefsOnce s → step s = .next t → RefsOnce t

/-- R76, R101, R108: from every state in which level, supply mode and node methane level are held alike by the blocks they are
handed to, every step leads to such a state. R153: and from every state in which no DIESEL vehicle carries PROCEED or EVACUATE
while the node methane level is TRIP, nor PROCEED while it is ALARM and the vehicle does not head OUTBYE. -/
def Obligations.StepKeepsHandOvers : Prop :=
  (∀ s t : State, HandedOver s → step s = .next t → HandedOver t)
  ∧ ∀ s t : State, DieselHeld s → step s = .next t → DieselHeld t

/-- R24, R34, R156, R157, R172: from every state with its outgoing, delivery and notice queues, its wait list and its member list
within their capacities and at most one notice of each unmaskable kind at a port, every step leads to such a state. -/
def Obligations.StepKeepsCapacity : Prop := ∀ s t : State, WithinCapacity s → step s = .next t → WithinCapacity t

/-- R80, R103, R104, R108: from every state whose trip causes, local causes and section level are what their inputs give, every
step leads to such a state: each change of an input or a term is followed by the derivation. -/
def Obligations.StepKeepsDerivation : Prop := ∀ s t : State, LevelsDerived s → step s = .next t → LevelsDerived t

/-- Every invariant of this section holds right after reset. -/
def Obligations.ResetMeetsInvariants : Prop :=
  TripHeld State.reset ∧ BusesLegal State.reset ∧ CoverageKept State.reset ∧ CallsKept State.reset ∧ HandedOver State.reset
    ∧ WithinCapacity State.reset ∧ LevelsDerived State.reset ∧ DieselHeld State.reset ∧ RefsOnce State.reset
end

