-- ==== Sys2Proof/Laws/State.lean ====
section
/-! SUPPORT. The small lemmas of the state's updates: one for each field of each update, so that no proof unfolds a record
update. -/

namespace Sys2Proof.Machine

/-! ## updTb -/

@[simp] theorem State.updTb_tb (f : TimeBase → TimeBase) (s : State) : (s.updTb f).tb = f s.tb := rfl
@[simp] theorem State.updTb_cs (f : TimeBase → TimeBase) (s : State) : (s.updTb f).cs = s.cs := rfl
@[simp] theorem State.updTb_sbm (f : TimeBase → TimeBase) (s : State) : (s.updTb f).sbm = s.sbm := rfl
@[simp] theorem State.updTb_gcu (f : TimeBase → TimeBase) (s : State) : (s.updTb f).gcu = s.gcu := rfl
@[simp] theorem State.updTb_tu (f : TimeBase → TimeBase) (s : State) : (s.updTb f).tu = s.tu := rfl
@[simp] theorem State.updTb_sau (f : TimeBase → TimeBase) (s : State) : (s.updTb f).sau = s.sau := rfl
@[simp] theorem State.updTb_ctu (f : TimeBase → TimeBase) (s : State) : (s.updTb f).ctu = s.ctu := rfl
@[simp] theorem State.updTb_vu (f : TimeBase → TimeBase) (s : State) : (s.updTb f).vu = s.vu := rfl
@[simp] theorem State.updTb_pi (f : TimeBase → TimeBase) (s : State) : (s.updTb f).pi = s.pi := rfl
@[simp] theorem State.updTb_pending (f : TimeBase → TimeBase) (s : State) : (s.updTb f).pending = s.pending := rfl

/-! ## updCs -/

@[simp] theorem State.updCs_tb (f : CellSwitch → CellSwitch) (s : State) : (s.updCs f).tb = s.tb := rfl
@[simp] theorem State.updCs_cs (f : CellSwitch → CellSwitch) (s : State) : (s.updCs f).cs = f s.cs := rfl
@[simp] theorem State.updCs_sbm (f : CellSwitch → CellSwitch) (s : State) : (s.updCs f).sbm = s.sbm := rfl
@[simp] theorem State.updCs_gcu (f : CellSwitch → CellSwitch) (s : State) : (s.updCs f).gcu = s.gcu := rfl
@[simp] theorem State.updCs_tu (f : CellSwitch → CellSwitch) (s : State) : (s.updCs f).tu = s.tu := rfl
@[simp] theorem State.updCs_sau (f : CellSwitch → CellSwitch) (s : State) : (s.updCs f).sau = s.sau := rfl
@[simp] theorem State.updCs_ctu (f : CellSwitch → CellSwitch) (s : State) : (s.updCs f).ctu = s.ctu := rfl
@[simp] theorem State.updCs_vu (f : CellSwitch → CellSwitch) (s : State) : (s.updCs f).vu = s.vu := rfl
@[simp] theorem State.updCs_pi (f : CellSwitch → CellSwitch) (s : State) : (s.updCs f).pi = s.pi := rfl
@[simp] theorem State.updCs_pending (f : CellSwitch → CellSwitch) (s : State) : (s.updCs f).pending = s.pending := rfl

/-! ## updGcu -/

@[simp] theorem State.updGcu_tb (f : GasUnit → GasUnit) (s : State) : (s.updGcu f).tb = s.tb := rfl
@[simp] theorem State.updGcu_cs (f : GasUnit → GasUnit) (s : State) : (s.updGcu f).cs = s.cs := rfl
@[simp] theorem State.updGcu_sbm (f : GasUnit → GasUnit) (s : State) : (s.updGcu f).sbm = s.sbm := rfl
@[simp] theorem State.updGcu_gcu (f : GasUnit → GasUnit) (s : State) : (s.updGcu f).gcu = f s.gcu := rfl
@[simp] theorem State.updGcu_tu (f : GasUnit → GasUnit) (s : State) : (s.updGcu f).tu = s.tu := rfl
@[simp] theorem State.updGcu_sau (f : GasUnit → GasUnit) (s : State) : (s.updGcu f).sau = s.sau := rfl
@[simp] theorem State.updGcu_ctu (f : GasUnit → GasUnit) (s : State) : (s.updGcu f).ctu = s.ctu := rfl
@[simp] theorem State.updGcu_vu (f : GasUnit → GasUnit) (s : State) : (s.updGcu f).vu = s.vu := rfl
@[simp] theorem State.updGcu_pi (f : GasUnit → GasUnit) (s : State) : (s.updGcu f).pi = s.pi := rfl
@[simp] theorem State.updGcu_pending (f : GasUnit → GasUnit) (s : State) : (s.updGcu f).pending = s.pending := rfl

/-! ## updTu -/

@[simp] theorem State.updTu_tb (f : TripUnit → TripUnit) (s : State) : (s.updTu f).tb = s.tb := rfl
@[simp] theorem State.updTu_cs (f : TripUnit → TripUnit) (s : State) : (s.updTu f).cs = s.cs := rfl
@[simp] theorem State.updTu_sbm (f : TripUnit → TripUnit) (s : State) : (s.updTu f).sbm = s.sbm := rfl
@[simp] theorem State.updTu_gcu (f : TripUnit → TripUnit) (s : State) : (s.updTu f).gcu = s.gcu := rfl
@[simp] theorem State.updTu_tu (f : TripUnit → TripUnit) (s : State) : (s.updTu f).tu = f s.tu := rfl
@[simp] theorem State.updTu_sau (f : TripUnit → TripUnit) (s : State) : (s.updTu f).sau = s.sau := rfl
@[simp] theorem State.updTu_ctu (f : TripUnit → TripUnit) (s : State) : (s.updTu f).ctu = s.ctu := rfl
@[simp] theorem State.updTu_vu (f : TripUnit → TripUnit) (s : State) : (s.updTu f).vu = s.vu := rfl
@[simp] theorem State.updTu_pi (f : TripUnit → TripUnit) (s : State) : (s.updTu f).pi = s.pi := rfl
@[simp] theorem State.updTu_pending (f : TripUnit → TripUnit) (s : State) : (s.updTu f).pending = s.pending := rfl

/-! ## updSau -/

@[simp] theorem State.updSau_tb (f : AlarmUnit → AlarmUnit) (s : State) : (s.updSau f).tb = s.tb := rfl
@[simp] theorem State.updSau_cs (f : AlarmUnit → AlarmUnit) (s : State) : (s.updSau f).cs = s.cs := rfl
@[simp] theorem State.updSau_sbm (f : AlarmUnit → AlarmUnit) (s : State) : (s.updSau f).sbm = s.sbm := rfl
@[simp] theorem State.updSau_gcu (f : AlarmUnit → AlarmUnit) (s : State) : (s.updSau f).gcu = s.gcu := rfl
@[simp] theorem State.updSau_tu (f : AlarmUnit → AlarmUnit) (s : State) : (s.updSau f).tu = s.tu := rfl
@[simp] theorem State.updSau_sau (f : AlarmUnit → AlarmUnit) (s : State) : (s.updSau f).sau = f s.sau := rfl
@[simp] theorem State.updSau_ctu (f : AlarmUnit → AlarmUnit) (s : State) : (s.updSau f).ctu = s.ctu := rfl
@[simp] theorem State.updSau_vu (f : AlarmUnit → AlarmUnit) (s : State) : (s.updSau f).vu = s.vu := rfl
@[simp] theorem State.updSau_pi (f : AlarmUnit → AlarmUnit) (s : State) : (s.updSau f).pi = s.pi := rfl
@[simp] theorem State.updSau_pending (f : AlarmUnit → AlarmUnit) (s : State) : (s.updSau f).pending = s.pending := rfl

/-! ## updCtu -/

@[simp] theorem State.updCtu_tb (f : CallUnit → CallUnit) (s : State) : (s.updCtu f).tb = s.tb := rfl
@[simp] theorem State.updCtu_cs (f : CallUnit → CallUnit) (s : State) : (s.updCtu f).cs = s.cs := rfl
@[simp] theorem State.updCtu_sbm (f : CallUnit → CallUnit) (s : State) : (s.updCtu f).sbm = s.sbm := rfl
@[simp] theorem State.updCtu_gcu (f : CallUnit → CallUnit) (s : State) : (s.updCtu f).gcu = s.gcu := rfl
@[simp] theorem State.updCtu_tu (f : CallUnit → CallUnit) (s : State) : (s.updCtu f).tu = s.tu := rfl
@[simp] theorem State.updCtu_sau (f : CallUnit → CallUnit) (s : State) : (s.updCtu f).sau = s.sau := rfl
@[simp] theorem State.updCtu_ctu (f : CallUnit → CallUnit) (s : State) : (s.updCtu f).ctu = f s.ctu := rfl
@[simp] theorem State.updCtu_vu (f : CallUnit → CallUnit) (s : State) : (s.updCtu f).vu = s.vu := rfl
@[simp] theorem State.updCtu_pi (f : CallUnit → CallUnit) (s : State) : (s.updCtu f).pi = s.pi := rfl
@[simp] theorem State.updCtu_pending (f : CallUnit → CallUnit) (s : State) : (s.updCtu f).pending = s.pending := rfl

/-! ## updVu -/

@[simp] theorem State.updVu_tb (f : VehicleUnit → VehicleUnit) (s : State) : (s.updVu f).tb = s.tb := rfl
@[simp] theorem State.updVu_cs (f : VehicleUnit → VehicleUnit) (s : State) : (s.updVu f).cs = s.cs := rfl
@[simp] theorem State.updVu_sbm (f : VehicleUnit → VehicleUnit) (s : State) : (s.updVu f).sbm = s.sbm := rfl
@[simp] theorem State.updVu_gcu (f : VehicleUnit → VehicleUnit) (s : State) : (s.updVu f).gcu = s.gcu := rfl
@[simp] theorem State.updVu_tu (f : VehicleUnit → VehicleUnit) (s : State) : (s.updVu f).tu = s.tu := rfl
@[simp] theorem State.updVu_sau (f : VehicleUnit → VehicleUnit) (s : State) : (s.updVu f).sau = s.sau := rfl
@[simp] theorem State.updVu_ctu (f : VehicleUnit → VehicleUnit) (s : State) : (s.updVu f).ctu = s.ctu := rfl
@[simp] theorem State.updVu_vu (f : VehicleUnit → VehicleUnit) (s : State) : (s.updVu f).vu = f s.vu := rfl
@[simp] theorem State.updVu_pi (f : VehicleUnit → VehicleUnit) (s : State) : (s.updVu f).pi = s.pi := rfl
@[simp] theorem State.updVu_pending (f : VehicleUnit → VehicleUnit) (s : State) : (s.updVu f).pending = s.pending := rfl

/-! ## updPi -/

@[simp] theorem State.updPi_tb (f : PortUnit → PortUnit) (s : State) : (s.updPi f).tb = s.tb := rfl
@[simp] theorem State.updPi_cs (f : PortUnit → PortUnit) (s : State) : (s.updPi f).cs = s.cs := rfl
@[simp] theorem State.updPi_sbm (f : PortUnit → PortUnit) (s : State) : (s.updPi f).sbm = s.sbm := rfl
@[simp] theorem State.updPi_gcu (f : PortUnit → PortUnit) (s : State) : (s.updPi f).gcu = s.gcu := rfl
@[simp] theorem State.updPi_tu (f : PortUnit → PortUnit) (s : State) : (s.updPi f).tu = s.tu := rfl
@[simp] theorem State.updPi_sau (f : PortUnit → PortUnit) (s : State) : (s.updPi f).sau = s.sau := rfl
@[simp] theorem State.updPi_ctu (f : PortUnit → PortUnit) (s : State) : (s.updPi f).ctu = s.ctu := rfl
@[simp] theorem State.updPi_vu (f : PortUnit → PortUnit) (s : State) : (s.updPi f).vu = s.vu := rfl
@[simp] theorem State.updPi_pi (f : PortUnit → PortUnit) (s : State) : (s.updPi f).pi = f s.pi := rfl
@[simp] theorem State.updPi_pending (f : PortUnit → PortUnit) (s : State) : (s.updPi f).pending = s.pending := rfl

/-! ## updBus -/

@[simp] theorem State.updBus_tb (b : Bus) (f : BusMaster → BusMaster) (s : State) :
    (s.updBus b f).tb = s.tb := rfl
@[simp] theorem State.updBus_cs (b : Bus) (f : BusMaster → BusMaster) (s : State) :
    (s.updBus b f).cs = s.cs := rfl
@[simp] theorem State.updBus_sbm (b : Bus) (f : BusMaster → BusMaster) (s : State) :
    (s.updBus b f).sbm = s.sbm.set b (f (s.sbm.get b)) := rfl
@[simp] theorem State.updBus_gcu (b : Bus) (f : BusMaster → BusMaster) (s : State) :
    (s.updBus b f).gcu = s.gcu := rfl
@[simp] theorem State.updBus_tu (b : Bus) (f : BusMaster → BusMaster) (s : State) :
    (s.updBus b f).tu = s.tu := rfl
@[simp] theorem State.updBus_sau (b : Bus) (f : BusMaster → BusMaster) (s : State) :
    (s.updBus b f).sau = s.sau := rfl
@[simp] theorem State.updBus_ctu (b : Bus) (f : BusMaster → BusMaster) (s : State) :
    (s.updBus b f).ctu = s.ctu := rfl
@[simp] theorem State.updBus_vu (b : Bus) (f : BusMaster → BusMaster) (s : State) :
    (s.updBus b f).vu = s.vu := rfl
@[simp] theorem State.updBus_pi (b : Bus) (f : BusMaster → BusMaster) (s : State) :
    (s.updBus b f).pi = s.pi := rfl
@[simp] theorem State.updBus_pending (b : Bus) (f : BusMaster → BusMaster) (s : State) :
    (s.updBus b f).pending = s.pending := rfl

/-! ## updPort -/

@[simp] theorem State.updPort_tb (p : Port) (f : PortState → PortState) (s : State) :
    (s.updPort p f).tb = s.tb := rfl
@[simp] theorem State.updPort_cs (p : Port) (f : PortState → PortState) (s : State) :
    (s.updPort p f).cs = s.cs := rfl
@[simp] theorem State.updPort_sbm (p : Port) (f : PortState → PortState) (s : State) :
    (s.updPort p f).sbm = s.sbm := rfl
@[simp] theorem State.updPort_gcu (p : Port) (f : PortState → PortState) (s : State) :
    (s.updPort p f).gcu = s.gcu := rfl
@[simp] theorem State.updPort_tu (p : Port) (f : PortState → PortState) (s : State) :
    (s.updPort p f).tu = s.tu := rfl
@[simp] theorem State.updPort_sau (p : Port) (f : PortState → PortState) (s : State) :
    (s.updPort p f).sau = s.sau := rfl
@[simp] theorem State.updPort_ctu (p : Port) (f : PortState → PortState) (s : State) :
    (s.updPort p f).ctu = s.ctu := rfl
@[simp] theorem State.updPort_vu (p : Port) (f : PortState → PortState) (s : State) :
    (s.updPort p f).vu = s.vu := rfl
@[simp] theorem State.updPort_pi (p : Port) (f : PortState → PortState) (s : State) :
    (s.updPort p f).pi = { s.pi with ports := s.pi.ports.set p (f (s.pi.ports.get p)) } := rfl
@[simp] theorem State.updPort_pending (p : Port) (f : PortState → PortState) (s : State) :
    (s.updPort p f).pending = s.pending := rfl

/-! ## updStatus -/

@[simp] theorem State.updStatus_tb (l : Line) (f : LineStatus → LineStatus) (s : State) :
    (s.updStatus l f).tb = s.tb := rfl
@[simp] theorem State.updStatus_cs (l : Line) (f : LineStatus → LineStatus) (s : State) :
    (s.updStatus l f).cs = { s.cs with status := s.cs.status.set l (f (s.cs.status.get l)) } := rfl
@[simp] theorem State.updStatus_sbm (l : Line) (f : LineStatus → LineStatus) (s : State) :
    (s.updStatus l f).sbm = s.sbm := rfl
@[simp] theorem State.updStatus_gcu (l : Line) (f : LineStatus → LineStatus) (s : State) :
    (s.updStatus l f).gcu = s.gcu := rfl
@[simp] theorem State.updStatus_tu (l : Line) (f : LineStatus → LineStatus) (s : State) :
    (s.updStatus l f).tu = s.tu := rfl
@[simp] theorem State.updStatus_sau (l : Line) (f : LineStatus → LineStatus) (s : State) :
    (s.updStatus l f).sau = s.sau := rfl
@[simp] theorem State.updStatus_ctu (l : Line) (f : LineStatus → LineStatus) (s : State) :
    (s.updStatus l f).ctu = s.ctu := rfl
@[simp] theorem State.updStatus_vu (l : Line) (f : LineStatus → LineStatus) (s : State) :
    (s.updStatus l f).vu = s.vu := rfl
@[simp] theorem State.updStatus_pi (l : Line) (f : LineStatus → LineStatus) (s : State) :
    (s.updStatus l f).pi = s.pi := rfl
@[simp] theorem State.updStatus_pending (l : Line) (f : LineStatus → LineStatus) (s : State) :
    (s.updStatus l f).pending = s.pending := rfl

/-! ## updQueues -/

@[simp] theorem State.updQueues_tb (l : Line) (f : OutQueues → OutQueues) (s : State) :
    (s.updQueues l f).tb = s.tb := rfl
@[simp] theorem State.updQueues_cs (l : Line) (f : OutQueues → OutQueues) (s : State) :
    (s.updQueues l f).cs = { s.cs with queues := s.cs.queues.set l (f (s.cs.queues.get l)) } := rfl
@[simp] theorem State.updQueues_sbm (l : Line) (f : OutQueues → OutQueues) (s : State) :
    (s.updQueues l f).sbm = s.sbm := rfl
@[simp] theorem State.updQueues_gcu (l : Line) (f : OutQueues → OutQueues) (s : State) :
    (s.updQueues l f).gcu = s.gcu := rfl
@[simp] theorem State.updQueues_tu (l : Line) (f : OutQueues → OutQueues) (s : State) :
    (s.updQueues l f).tu = s.tu := rfl
@[simp] theorem State.updQueues_sau (l : Line) (f : OutQueues → OutQueues) (s : State) :
    (s.updQueues l f).sau = s.sau := rfl
@[simp] theorem State.updQueues_ctu (l : Line) (f : OutQueues → OutQueues) (s : State) :
    (s.updQueues l f).ctu = s.ctu := rfl
@[simp] theorem State.updQueues_vu (l : Line) (f : OutQueues → OutQueues) (s : State) :
    (s.updQueues l f).vu = s.vu := rfl
@[simp] theorem State.updQueues_pi (l : Line) (f : OutQueues → OutQueues) (s : State) :
    (s.updQueues l f).pi = s.pi := rfl
@[simp] theorem State.updQueues_pending (l : Line) (f : OutQueues → OutQueues) (s : State) :
    (s.updQueues l f).pending = s.pending := rfl

/-! ## setChannel -/

@[simp] theorem State.setChannel_tb (i : Fin 16) (c : Channel) (s : State) :
    (s.setChannel i c).tb = s.tb := rfl
@[simp] theorem State.setChannel_cs (i : Fin 16) (c : Channel) (s : State) :
    (s.setChannel i c).cs = s.cs := rfl
@[simp] theorem State.setChannel_sbm (i : Fin 16) (c : Channel) (s : State) :
    (s.setChannel i c).sbm = s.sbm := rfl
@[simp] theorem State.setChannel_gcu (i : Fin 16) (c : Channel) (s : State) :
    (s.setChannel i c).gcu = { s.gcu with channels := vset s.gcu.channels i c } := rfl
@[simp] theorem State.setChannel_tu (i : Fin 16) (c : Channel) (s : State) :
    (s.setChannel i c).tu = s.tu := rfl
@[simp] theorem State.setChannel_sau (i : Fin 16) (c : Channel) (s : State) :
    (s.setChannel i c).sau = s.sau := rfl
@[simp] theorem State.setChannel_ctu (i : Fin 16) (c : Channel) (s : State) :
    (s.setChannel i c).ctu = s.ctu := rfl
@[simp] theorem State.setChannel_vu (i : Fin 16) (c : Channel) (s : State) :
    (s.setChannel i c).vu = s.vu := rfl
@[simp] theorem State.setChannel_pi (i : Fin 16) (c : Channel) (s : State) :
    (s.setChannel i c).pi = s.pi := rfl
@[simp] theorem State.setChannel_pending (i : Fin 16) (c : Channel) (s : State) :
    (s.setChannel i c).pending = s.pending := rfl

/-! ## setRefuge -/

@[simp] theorem State.setRefuge_tb (i : Fin 4) (r : Refuge) (s : State) :
    (s.setRefuge i r).tb = s.tb := rfl
@[simp] theorem State.setRefuge_cs (i : Fin 4) (r : Refuge) (s : State) :
    (s.setRefuge i r).cs = s.cs := rfl
@[simp] theorem State.setRefuge_sbm (i : Fin 4) (r : Refuge) (s : State) :
    (s.setRefuge i r).sbm = s.sbm := rfl
@[simp] theorem State.setRefuge_gcu (i : Fin 4) (r : Refuge) (s : State) :
    (s.setRefuge i r).gcu = s.gcu := rfl
@[simp] theorem State.setRefuge_tu (i : Fin 4) (r : Refuge) (s : State) :
    (s.setRefuge i r).tu = s.tu := rfl
@[simp] theorem State.setRefuge_sau (i : Fin 4) (r : Refuge) (s : State) :
    (s.setRefuge i r).sau = { s.sau with refuges := vset s.sau.refuges i r } := rfl
@[simp] theorem State.setRefuge_ctu (i : Fin 4) (r : Refuge) (s : State) :
    (s.setRefuge i r).ctu = s.ctu := rfl
@[simp] theorem State.setRefuge_vu (i : Fin 4) (r : Refuge) (s : State) :
    (s.setRefuge i r).vu = s.vu := rfl
@[simp] theorem State.setRefuge_pi (i : Fin 4) (r : Refuge) (s : State) :
    (s.setRefuge i r).pi = s.pi := rfl
@[simp] theorem State.setRefuge_pending (i : Fin 4) (r : Refuge) (s : State) :
    (s.setRefuge i r).pending = s.pending := rfl

/-! ## setCall -/

@[simp] theorem State.setCall_tb (i : Fin 12) (e : Option Call) (s : State) :
    (s.setCall i e).tb = s.tb := rfl
@[simp] theorem State.setCall_cs (i : Fin 12) (e : Option Call) (s : State) :
    (s.setCall i e).cs = s.cs := rfl
@[simp] theorem State.setCall_sbm (i : Fin 12) (e : Option Call) (s : State) :
    (s.setCall i e).sbm = s.sbm := rfl
@[simp] theorem State.setCall_gcu (i : Fin 12) (e : Option Call) (s : State) :
    (s.setCall i e).gcu = s.gcu := rfl
@[simp] theorem State.setCall_tu (i : Fin 12) (e : Option Call) (s : State) :
    (s.setCall i e).tu = s.tu := rfl
@[simp] theorem State.setCall_sau (i : Fin 12) (e : Option Call) (s : State) :
    (s.setCall i e).sau = s.sau := rfl
@[simp] theorem State.setCall_ctu (i : Fin 12) (e : Option Call) (s : State) :
    (s.setCall i e).ctu = { s.ctu with entries := vset s.ctu.entries i e } := rfl
@[simp] theorem State.setCall_vu (i : Fin 12) (e : Option Call) (s : State) :
    (s.setCall i e).vu = s.vu := rfl
@[simp] theorem State.setCall_pi (i : Fin 12) (e : Option Call) (s : State) :
    (s.setCall i e).pi = s.pi := rfl
@[simp] theorem State.setCall_pending (i : Fin 12) (e : Option Call) (s : State) :
    (s.setCall i e).pending = s.pending := rfl

/-! ## setVehicle -/

@[simp] theorem State.setVehicle_tb (i : Fin 16) (e : Option Vehicle) (s : State) :
    (s.setVehicle i e).tb = s.tb := rfl
@[simp] theorem State.setVehicle_cs (i : Fin 16) (e : Option Vehicle) (s : State) :
    (s.setVehicle i e).cs = s.cs := rfl
@[simp] theorem State.setVehicle_sbm (i : Fin 16) (e : Option Vehicle) (s : State) :
    (s.setVehicle i e).sbm = s.sbm := rfl
@[simp] theorem State.setVehicle_gcu (i : Fin 16) (e : Option Vehicle) (s : State) :
    (s.setVehicle i e).gcu = s.gcu := rfl
@[simp] theorem State.setVehicle_tu (i : Fin 16) (e : Option Vehicle) (s : State) :
    (s.setVehicle i e).tu = s.tu := rfl
@[simp] theorem State.setVehicle_sau (i : Fin 16) (e : Option Vehicle) (s : State) :
    (s.setVehicle i e).sau = s.sau := rfl
@[simp] theorem State.setVehicle_ctu (i : Fin 16) (e : Option Vehicle) (s : State) :
    (s.setVehicle i e).ctu = s.ctu := rfl
@[simp] theorem State.setVehicle_vu (i : Fin 16) (e : Option Vehicle) (s : State) :
    (s.setVehicle i e).vu = { s.vu with entries := vset s.vu.entries i e } := rfl
@[simp] theorem State.setVehicle_pi (i : Fin 16) (e : Option Vehicle) (s : State) :
    (s.setVehicle i e).pi = s.pi := rfl
@[simp] theorem State.setVehicle_pending (i : Fin 16) (e : Option Vehicle) (s : State) :
    (s.setVehicle i e).pending = s.pending := rfl

/-! ## Pairs and tables -/

@[simp] theorem PerLine.get_set_same {α : Type} (p : PerLine α) (l : Line) (x : α) : (p.set l x).get l = x := by cases l <;> rfl
@[simp] theorem PerLine.get_set_other {α : Type} (p : PerLine α) (l : Line) (x : α) : (p.set l x).get l.other = p.get l.other := by
  cases l <;> rfl
theorem PerLine.get_set_of_ne {α : Type} (p : PerLine α) (l k : Line) (x : α) (h : k ≠ l) : (p.set l x).get k = p.get k := by
  cases l <;> cases k <;> first | rfl | exact absurd rfl h
@[simp] theorem PerPort.get_set_same {α : Type} (p : PerPort α) (q : Port) (x : α) : (p.set q x).get q = x := by cases q <;> rfl
theorem PerPort.get_set_of_ne {α : Type} (p : PerPort α) (q r : Port) (x : α) (h : r ≠ q) : (p.set q x).get r = p.get r := by
  cases q <;> cases r <;> first | rfl | exact absurd rfl h
@[simp] theorem PerBus.get_set_same {α : Type} (p : PerBus α) (b : Bus) (x : α) : (p.set b x).get b = x := by cases b <;> rfl
theorem PerBus.get_set_of_ne {α : Type} (p : PerBus α) (b c : Bus) (x : α) (h : c ≠ b) : (p.set b x).get c = p.get c := by
  cases b <;> cases c <;> first | rfl | exact absurd rfl h

@[simp] theorem vset_get_same {α : Type} {n : Nat} (v : Vector α n) (i : Fin n) (x : α) : (vset v i x).get i = x := by
  simp [vset, Vector.get_eq_getElem]
theorem vset_get_of_ne {α : Type} {n : Nat} (v : Vector α n) (i j : Fin n) (x : α) (h : j ≠ i) :
    (vset v i x).get j = v.get j := by
  have h2 : i.val ≠ j.val := fun e => h (Fin.ext e.symm)
  simp [vset, Vector.get_eq_getElem, h2]

@[simp] theorem State.channel_setChannel (s : State) (i : Fin 16) (c : Channel) : (s.setChannel i c).channel i = c := by
  simp [State.channel]
@[simp] theorem State.refuge_setRefuge (s : State) (i : Fin 4) (r : Refuge) : (s.setRefuge i r).refuge i = r := by
  simp [State.refuge]
@[simp] theorem State.call_setCall (s : State) (i : Fin 12) (e : Option Call) : (s.setCall i e).call i = e := by
  simp [State.call]
@[simp] theorem State.vehicle_setVehicle (s : State) (i : Fin 16) (e : Option Vehicle) : (s.setVehicle i e).vehicle i = e := by
  simp [State.vehicle]
theorem State.call_setCall_of_ne (s : State) (i j : Fin 12) (e : Option Call) (h : j ≠ i) : (s.setCall i e).call j = s.call j := by
  simp [State.call, vset_get_of_ne _ _ _ _ h]
theorem State.vehicle_setVehicle_of_ne (s : State) (i j : Fin 16) (e : Option Vehicle) (h : j ≠ i) :
    (s.setVehicle i e).vehicle j = s.vehicle j := by
  simp [State.vehicle, vset_get_of_ne _ _ _ _ h]
theorem State.channel_setChannel_of_ne (s : State) (i j : Fin 16) (c : Channel) (h : j ≠ i) :
    (s.setChannel i c).channel j = s.channel j := by
  simp [State.channel, vset_get_of_ne _ _ _ _ h]
theorem State.refuge_setRefuge_of_ne (s : State) (i j : Fin 4) (r : Refuge) (h : j ≠ i) :
    (s.setRefuge i r).refuge j = s.refuge j := by
  simp [State.refuge, vset_get_of_ne _ _ _ _ h]

/-! ## Frames -/

theorem SameBut.refl (may : List Block) (s : State) : SameBut may s s := by
  intro b _; cases b <;> rfl

theorem SameBut.trans {may : List Block} {s t u : State} (h : SameBut may s t) (k : SameBut may t u) : SameBut may s u := by
  intro b hb
  have h1 := h b hb
  have h2 := k b hb
  cases b <;> simp only [Same] at * <;> exact h2.trans h1

end Sys2Proof.Machine
end

