-- ==== Sys2Proof/Laws/Reports.lean ====
section
/-! SUPPORT. What the shared reporting operations can do: each of them reports and does nothing else (Safety.lean), and what
each leaves in the port or the queue it touches. -/

namespace Sys2Proof.Machine

/-! ## Reports is an order -/

theorem SameStatus.refl (a : LineStatus) : SameStatus a a := rfl

theorem SameStatus.trans {a b c : LineStatus} (h : SameStatus a b) (k : SameStatus b c) : SameStatus a c := by
  simp only [SameStatus] at *
  rw [k, h]

theorem SamePort.trans {a b c : PortState} (h : SamePort a b) (k : SamePort b c) : SamePort a c := by
  simp only [SamePort] at *
  rw [k, h]

theorem Reports.refl (s : State) : Reports s s :=
  ⟨SameBut.refl _ s, ⟨rfl, rfl, rfl⟩, ⟨rfl, rfl, rfl⟩⟩

theorem Reports.trans {s t u : State} (h : Reports s t) (k : Reports t u) : Reports s u := by
  refine ⟨h.blocks.trans k.blocks, ⟨?_, h.cs.2.1.trans k.cs.2.1, h.cs.2.2.trans k.cs.2.2⟩,
    ⟨?_, h.pi.2.1.trans k.pi.2.1, h.pi.2.2.trans k.pi.2.2⟩⟩
  · rw [k.cs.1, h.cs.1]
  · rw [k.pi.1, h.pi.1]

namespace Reports

variable {s t : State}

theorem tb (h : Reports s t) : t.tb = s.tb := h.blocks .tb (by decide)
theorem sbm (h : Reports s t) : t.sbm = s.sbm := h.blocks .sbm (by decide)
theorem gcu (h : Reports s t) : t.gcu = s.gcu := h.blocks .gcu (by decide)
theorem tu (h : Reports s t) : t.tu = s.tu := h.blocks .tu (by decide)
theorem sau (h : Reports s t) : t.sau = s.sau := h.blocks .sau (by decide)
theorem ctu (h : Reports s t) : t.ctu = s.ctu := h.blocks .ctu (by decide)
theorem vu (h : Reports s t) : t.vu = s.vu := h.blocks .vu (by decide)
theorem pending (h : Reports s t) : t.pending = s.pending := h.blocks .pending (by decide)

end Reports

theorem SameBut.of_fields {s t : State} (h1 : t.tb = s.tb) (h2 : t.sbm = s.sbm) (h3 : t.gcu = s.gcu) (h4 : t.tu = s.tu)
    (h5 : t.sau = s.sau) (h6 : t.ctu = s.ctu) (h7 : t.vu = s.vu) (h8 : t.pending = s.pending) :
    SameBut [.cs, .pi] s t := by
  intro b hb
  cases b <;> first | assumption | (simp at hb)

/-! ## Notices (R172 to R174) -/

theorem PortState.post_same (n : Notice) (ps : PortState) : SamePort ps (ps.post n) := by
  simp only [SamePort, PortState.post]
  split
  · rfl
  · split
    · rfl
    · split
      · rfl
      · split <;> rfl

theorem updPort_reports (p : Port) (f : PortState → PortState) (h : ∀ ps, SamePort ps (f ps)) (s : State) :
    Reports s (s.updPort p f) := by
  refine ⟨SameBut.of_fields rfl rfl rfl rfl rfl rfl rfl rfl, ⟨rfl, rfl, rfl⟩, ?_⟩
  cases p
  · exact ⟨rfl, h _, rfl⟩
  · exact ⟨rfl, rfl, h _⟩

theorem post_reports (p : Port) (k : NoticeKind) (d : Bytes) (s : State) : Reports s (post p k d s) :=
  updPort_reports p _ (fun ps => PortState.post_same _ ps) s

theorem postBoth_reports (k : NoticeKind) (d : Bytes) (s : State) : Reports s (postBoth k d s) :=
  (post_reports .sp k d s).trans (post_reports .cp k d _)

theorem post_cs (p : Port) (k : NoticeKind) (d : Bytes) (s : State) : (post p k d s).cs = s.cs := rfl
theorem postBoth_cs (k : NoticeKind) (d : Bytes) (s : State) : (postBoth k d s).cs = s.cs := rfl

/-! ## Indications (R36, R37) -/

theorem updStatus_reports (l : Line) (f : LineStatus → LineStatus) (h : ∀ st, SameStatus st (f st)) (s : State) :
    Reports s (s.updStatus l f) := by
  refine ⟨SameBut.of_fields rfl rfl rfl rfl rfl rfl rfl rfl, ?_, ⟨rfl, rfl, rfl⟩⟩
  cases l
  · exact ⟨rfl, h _, rfl⟩
  · exact ⟨rfl, rfl, h _⟩

theorem latchInd_reports (l : Line) (i : Indication) (s : State) : Reports s (latchInd l i s) := by
  unfold latchInd
  split
  · exact Reports.refl s
  · exact (updStatus_reports l _ (fun st => by cases i <;> rfl) s).trans (postBoth_reports _ _ _)

/-! ## Cells (R23 to R25, R34) -/

theorem updQueues_reports (l : Line) (f : OutQueues → OutQueues) (s : State) : Reports s (s.updQueues l f) :=
  ⟨SameBut.of_fields rfl rfl rfl rfl rfl rfl rfl rfl, ⟨rfl, rfl, rfl⟩, ⟨rfl, rfl, rfl⟩⟩

theorem joinQueue_reports (l : Line) (c : Cell) (s : State) : Reports s (joinQueue l c s) := by
  unfold joinQueue
  cases c.classOf <;> simp only
  · exact Reports.refl s
  · split
    · exact updQueues_reports l _ s
    · exact latchInd_reports l _ s
  · exact Reports.refl s
  · split
    · exact updQueues_reports l _ s
    · split
      · exact updQueues_reports l _ s
      · exact latchInd_reports l _ s

theorem joinLocal_reports (l : Line) (c : Cell) (s : State) : Reports s (joinLocal l c s) := by
  unfold joinLocal
  split
  · exact Reports.refl s
  · exact joinQueue_reports l c s

theorem placeCell_reports (l : Line) (c : Cell) (s : State) : Reports s (placeCell l c s) := by
  unfold placeCell
  split
  · exact ⟨SameBut.of_fields rfl rfl rfl rfl rfl rfl rfl rfl, ⟨rfl, rfl, rfl⟩, ⟨rfl, rfl, rfl⟩⟩
  · exact joinLocal_reports l c s

theorem setDeliveryQueue_reports (b : Bool) (q : List Cell) (s : State) : Reports s (setDeliveryQueue b q s) := by
  refine ⟨SameBut.of_fields rfl rfl rfl rfl rfl rfl rfl rfl, ?_, ⟨rfl, rfl, rfl⟩⟩
  cases b <;> exact ⟨rfl, rfl, rfl⟩

theorem latchArrival_reports (f : Option Line) (i : Indication) (s : State) : Reports s (latchArrival f i s) := by
  cases f
  · exact (latchInd_reports _ i s).trans (latchInd_reports _ i _)
  · exact latchInd_reports _ i s

theorem deliver_reports (f : Option Line) (c : Cell) (s : State) : Reports s (deliver f c s) := by
  unfold deliver
  simp only
  split
  · split
    · exact (setDeliveryQueue_reports _ _ s).trans (post_reports _ _ _ _)
    · exact setDeliveryQueue_reports _ _ s
  · split
    · exact latchArrival_reports f _ s
    · split
      · exact (setDeliveryQueue_reports _ _ s).trans (latchArrival_reports f _ _)
      · exact latchArrival_reports f _ s

theorem sendTo_reports (kind dst : Nat) (p : Bytes) (s : State) : Reports s (sendTo kind dst p s) := by
  unfold sendTo
  simp only
  split
  · split
    · exact Reports.refl s
    · exact deliver_reports none _ s
  · exact placeCell_reports _ _ s

theorem sendAdjacent_reports (l : Line) (kind : Nat) (p : Bytes) (s : State) : Reports s (sendAdjacent l kind p s) :=
  placeCell_reports _ _ s

/-! ## Responses (R167, R170) -/

/-- A response leaves every block but the Cell Switch and the Port Interface as it was. -/
theorem respond_blocks (src : Source) (tag : Byte) (a : Answer) (s : State) : SameBut [.cs, .pi] s (respond src tag a s) := by
  cases src
  · exact SameBut.of_fields rfl rfl rfl rfl rfl rfl rfl rfl
  · exact SameBut.of_fields rfl rfl rfl rfl rfl rfl rfl rfl
  · exact (sendTo_reports _ _ _ s).blocks

/-- A response into a port's slot leaves the Cell Switch as it was. -/
theorem respond_port_cs (p : Port) (tag : Byte) (a : Answer) (s : State) : (respond (portSource p) tag a s).cs = s.cs := by
  cases p <;> rfl

/-- R166: what a command does: a bad frame, a right not held, or its body and the response. -/
theorem command_cases (src : Source) (tag : Byte) (params : Bytes) (right : Bool) (body : State → State × Answer) (s : State) :
    (32 < params.length ∧ command src tag params right body s = respond src tag (refused .badFrame) s) ∨
    (params.length ≤ 32 ∧ right = false ∧ command src tag params right body s = respond src tag (refused .denied) s) ∨
    (params.length ≤ 32 ∧ right = true ∧ command src tag params right body s = respond src tag (body s).2 (body s).1) := by
  unfold command
  by_cases h : 32 < params.length
  · exact .inl ⟨h, by simp [h]⟩
  · refine .inr ?_
    cases right
    · exact .inl ⟨by omega, rfl, by simp [h]⟩
    · exact .inr ⟨by omega, rfl, by simp [h]⟩

/-- R166: a command with its right, and parameters a record can carry. -/
theorem command_right (src : Source) (tag : Byte) (params : Bytes) (body : State → State × Answer) (s : State)
    (h : params.length ≤ 32) : command src tag params true body s = respond src tag (body s).2 (body s).1 := by
  simp [command, Nat.not_lt.mpr h]

end Sys2Proof.Machine
end

