-- ==== Sys2Proof/Laws/Events.lean ====
section
/-! SUPPORT. What the shared operations over ticks, destinations, transactions and cleared calls can do, said once each. -/

namespace Sys2Proof.Machine

/-! ## Ticks (R1, R144) -/

/-- In HUNT a tick does nothing at the radio port. -/
@[simp] theorem Radio.ticks_of_hunt (n : Nat) (r : Radio) (h : r.inFrame = false) : r.ticks n = r := by
  simp [Radio.ticks, h]

/-- In a frame, ticks age it, or discard it once it has had its 64. -/
theorem Radio.ticks_of_frame (n : Nat) (r : Radio) (h : r.inFrame = true) :
    (r.frameAge + n < 64 ∧ r.ticks n = { r with frameAge := r.frameAge + n })
    ∨ (64 ≤ r.frameAge + n ∧ r.ticks n = r.discard .timeout) := by
  by_cases k : 64 ≤ r.frameAge + n
  · exact .inr ⟨k, by simp [Radio.ticks, h, Config.radioTimeoutTicks, k]⟩
  · exact .inl ⟨by omega, by simp [Radio.ticks, h, Config.radioTimeoutTicks, k]⟩

/-- Ticks touch the Time Base and the Vehicle Unit alone. -/
theorem advanceTicks_blocks (n : Nat) (s : State) : SameBut [.tb, .vu] s (advanceTicks n s) := by
  intro b hb
  cases b <;> first | rfl | (simp at hb)

/-! ## Destinations (R23) -/

/-- The destinations that are this node. -/
theorem ownDest_iff (d : Nat) (s : State) : ownDest d s = true ↔ d ≠ 63 ∧ (d = s.tb.address ∨ (s.tb.role = .head ∧ d = 0)) := by
  simp [ownDest, State.isHead]

/-! ## Transactions (R43, R54) -/

/-- A transaction in flight ends: the bus is IDLE with nothing in flight, and the completion is handed over unless it was
discarded. -/
theorem endTransaction_cases (b : Bus) (hold : Nat) (signs : List BusSign) (c : Target → Completion) (s : State) :
    ((s.bus b).inFlight = none ∧ endTransaction b hold signs c s = s)
    ∨ ∃ f t, (s.bus b).inFlight = some f
        ∧ t = s.updBus b (fun m => { m with
            state := .idle, inFlight := none, holdTotal := min 17 hold, owesStop := m.owesStop || signs.isEmpty
            wire := m.wire ++ signs })
        ∧ ((f.discarded = true ∧ endTransaction b hold signs c s = t)
          ∨ (f.discarded = false ∧ endTransaction b hold signs c s = handOver f.poll.target (c f.poll.target) t)) := by
  unfold endTransaction
  cases h : (s.bus b).inFlight with
  | none => exact .inl ⟨rfl, rfl⟩
  | some f =>
    refine .inr ⟨f, _, rfl, rfl, ?_⟩
    cases k : f.discarded
    · exact .inr ⟨rfl, by simp [k]⟩
    · exact .inl ⟨rfl, by simp [k]⟩

/-- A held clock adds its ticks to the hold total, or abandons the transaction. -/
theorem holdClock_cases (b : Bus) (n : Nat) (s : State) :
    ((s.bus b).inFlight = none ∧ holdClock b n s = s)
    ∨ ((s.bus b).inFlight.isSome = true ∧ (s.bus b).holdTotal + n ≤ 16
        ∧ holdClock b n s = s.updBus b fun m => { m with holdTotal := (s.bus b).holdTotal + n })
    ∨ ((s.bus b).inFlight.isSome = true ∧ 16 < (s.bus b).holdTotal + n ∧ holdClock b n s = timeoutTransaction b s) := by
  unfold holdClock
  cases h : (s.bus b).inFlight with
  | none => exact .inl ⟨rfl, by simp⟩
  | some f =>
    by_cases k : 16 < (s.bus b).holdTotal + n
    · exact .inr (.inr ⟨rfl, k, by simp [k]⟩)
    · exact .inr (.inl ⟨rfl, by omega, by simp [k]⟩)

/-! ## Calls cleared (R121, R132) -/

theorem postCallState_reports (i : Fin 12) (e : Call) (new before : Nat) (s : State) : Reports s (postCallState i e new before s) := by
  unfold postCallState
  cases e.role <;> first | exact post_reports _ _ _ s | exact Reports.refl s

theorem sendClear_reports (e : Call) (c : CallCause) (addr : Nat) (l : Line) (s : State) : Reports s (sendClear e c addr l s) := by
  unfold sendClear
  split
  · exact sendAdjacent_reports ..
  · exact Reports.refl s

/-- An entry is cleared: nothing happens to a FREE one; one in use is freed after reports. -/
theorem clearCall_cases (i : Fin 12) (c : CallCause) (addr : Nat) (except? : Option Line) (s : State) :
    (s.call i = none ∧ clearCall i c addr except? s = s)
    ∨ ∃ t, (s.call i).isSome = true ∧ Reports s t ∧ clearCall i c addr except? s = freeCall i t := by
  unfold clearCall
  cases h : s.call i with
  | none => exact .inl ⟨rfl, rfl⟩
  | some e =>
    have line (l : Line) (t : State) : Reports t (if except? = some l then t else sendClear e c addr l t) := by
      split
      · exact Reports.refl t
      · exact sendClear_reports ..
    exact .inr ⟨_, rfl, ((line .outbye s).trans (line .inbye _)).trans (postCallState_reports ..), rfl⟩

/-- A reference is made free: nothing happens where no entry holds it; the one that does is freed after reports. -/
theorem clearRef_cases (origin idx : Nat) (s : State) :
    (findRef origin idx s = none ∧ clearRef origin idx s = s)
    ∨ ∃ i t, findRef origin idx s = some i ∧ Reports s t ∧ clearRef origin idx s = freeCall i t := by
  unfold clearRef
  cases h : findRef origin idx s with
  | none => exact .inl ⟨rfl, rfl⟩
  | some i =>
    have hi : (s.call i).isSome = true := by
      have := List.find?_some h
      cases hc : s.call i <;> simp_all
    obtain ⟨hn, -⟩ | ⟨t, -, hr, ht⟩ := clearCall_cases i .stale s.tb.address none s
    · simp [hn] at hi
    · exact .inr ⟨i, t, rfl, hr, ht⟩

end Sys2Proof.Machine
end

