-- ==== Sys2Proof/WellFormed.lean ====
section
/-! DEFINITION. Which commands can come from outside the part at all: byte strings of the lengths the layouts of
Chapter 10 give, and quantities in their ranges. The machine answers every command, well-formed or not; statements
about what reaches the part use this check. -/

namespace Sys2Proof

/-- R181: a cell on a line is 32 bytes. -/
def wfCell (cell : Bytes) : Bool := cell.length == 32

/-- R3: six address straps. -/
def wfStraps (n : Nat) : Bool := n < 64

/-- R98: the battery-level input is 0..1023 counts. -/
def wfBattery (n : Nat) : Bool := n ≤ 1023

/-- R98: samples in range. -/
def wfSamples (smp : Samples) : Bool := wfBattery smp.battery

/-- R184: parameters of a record, 0..32 bytes. -/
def wfParams (p : Bytes) : Bool := p.length ≤ 32

/-- R19: a source address, 0..62. -/
def wfAddress (n : Nat) : Bool := n ≤ 62

/-- R181: a payload of a stated length. -/
def wfPayload (n : Nat) (p : Bytes) : Bool := p.length == n

/-- R182: a COMMAND cell wraps a record of 4..24 bytes. -/
def wfWrapped (p : Bytes) : Bool := 4 ≤ p.length && p.length ≤ 24

/-- R182: the payload of a CALL cell: 24 bytes for VOICE, none for SILENCE. -/
def wfVoice : Option Bytes → Bool
  | some p => p.length == 24
  | none => true

/-- R181: a CALL cell's destination field is 6 bits. -/
def wfIndex (n : Nat) : Bool := n < 64

/-- R184: a vehicle id parameter takes two bytes. -/
def wfIdParam (n : Nat) : Bool := n < 65536

/-- R185: a page, 0..255. -/
def wfPage (n : Nat) : Bool := n < 256

/-- R146: a vehicle id, 1..4095. -/
def wfVehicleId (n : Nat) : Bool := 1 ≤ n && n ≤ 4095

/-- R188: the bytes of a radio frame after its sync byte: a length byte, at most 16 body bytes and a check byte. -/
def wfFrame (f : Bytes) : Bool := 1 ≤ f.length && f.length ≤ 18

/-- R43: the clock hold of a transaction that was not abandoned is at most 16 ticks. -/
def wfReply : BusReply → Bool
  | .silent hold => hold ≤ 16
  | .bytes _ _ _ _ hold => hold ≤ 16

/-- A command that can come from outside the part. -/
def Instr.wf : Instr → Bool
  | .powerOnReset _ straps => wfStraps straps
  | .externalReset _ straps => wfStraps straps
  | .roundStart smp => wfSamples smp
  | .markerWindowClose smp => wfSamples smp
  | .listenTimeout => true
  | .holdoverLimit => true
  | .candidateDrop => true
  | .rejoinRunLapse => true
  | .trunkCommandApply => true
  | .markerReceived cell smp => wfCell cell && wfSamples smp
  | .uplinkReceived cell => wfCell cell
  | .cellReceived _ cell => wfCell cell
  | .carrierLost _ => true
  | .holdPeriodExpiry _ => true
  | .heldCountExpiry _ => true
  | .remoteLevelExpiry _ => true
  | .transactionStart _ _ => true
  | .transactionComplete _ reply => wfReply reply
  | .holdTimeout hold => 1 ≤ hold.ticks
  | .releaseSequence _ _ => true
  | .busFailed _ => true
  | .supplyModeChange _ battery => wfBattery battery
  | .supervisionLapse => true
  | .overrideWindowExpiry => true
  | .overrideDurationExpiry => true
  | .mobileSilenceTimeout => true
  | .readingReportDue _ => true
  | .announcementEnd => true
  | .refugePeriodicReport _ => true
  | .callStateTimeout _ => true
  | .callLossTimeout _ => true
  | .callSetupReceived _ src payload => wfAddress src && wfPayload 9 payload
  | .callAlertingReceived _ src payload => wfAddress src && wfPayload 3 payload
  | .callConnectReceived _ src payload => wfAddress src && wfPayload 3 payload
  | .callRefusedReceived _ src payload => wfAddress src && wfPayload 4 payload
  | .callClearReceived _ src payload => wfAddress src && wfPayload 4 payload
  | .callCellReceived _ src index voice => wfAddress src && wfIndex index && wfVoice voice
  | .blockRequestReceived _ payload => wfPayload 3 payload
  | .blockGrantReceived _ payload => wfPayload 2 payload
  | .blockExitReceived _ payload => wfPayload 3 payload
  | .commandReceived record => wfWrapped record
  | .radioFrameDiscard frame => wfFrame frame
  | .radioTimeout => true
  | .beacon frame => wfFrame frame
  | .orderFrameSend => true
  | .vehicleDeparture _ => true
  | .blockRequestResend _ => true
  | .memberOverdue id => wfVehicleId id
  | .responseRead _ => true
  | .unknownCommand _ _ => true
  | .trunkConfigure _ _ params => wfParams params
  | .trunkStart _ _ params => wfParams params
  | .trunkHalt _ _ params => wfParams params
  | .trunkSetup _ _ params => wfParams params
  | .filterSet _ _ params => wfParams params
  | .holdConfigure _ _ params => wfParams params
  | .cellTake _ _ params => wfParams params
  | .lineStatusRead _ _ params => wfParams params
  | .messageSend _ _ params => wfParams params
  | .busRelease _ _ params _ => wfParams params
  | .channelConfigure _ _ params => wfParams params
  | .channelEnable _ _ params => wfParams params
  | .channelDisable _ _ params => wfParams params
  | .channelRead _ _ params => wfParams params
  | .tripManual _ _ params => wfParams params
  | .tripReset _ _ params => wfParams params
  | .superviseStart _ _ params => wfParams params
  | .superviseRefresh _ _ params => wfParams params
  | .overrideRequest _ _ params => wfParams params
  | .overrideConfirm _ _ params => wfParams params
  | .overrideCancel _ _ params => wfParams params
  | .supplyConfigure _ _ params => wfParams params
  | .alarmRaiseAlert _ _ => true
  | .alarmRaiseEvacuate _ _ => true
  | .evacuate _ _ params => wfParams params
  | .alertClearOwn _ _ => true
  | .alertClearBoth _ _ => true
  | .allClear _ _ params => wfParams params
  | .sounderSilence _ _ params => wfParams params
  | .refugeConfigure _ _ params => wfParams params
  | .refugeAck _ _ params => wfParams params
  | .callOpen _ _ params => wfParams params
  | .callAnswer _ _ params => wfParams params
  | .callReject _ _ params => wfParams params
  | .callClear _ _ params => wfParams params
  | .callRead _ _ params => wfParams params
  | .voicePut _ _ params => wfParams params
  | .voiceTake _ _ params => wfParams params
  | .callBudgetSet _ _ params => wfParams params
  | .vehicleOrderStop _ _ id => wfIdParam id
  | .vehicleOrderRelease _ _ id => wfIdParam id
  | .vehicleRead _ _ params => wfParams params
  | .blockConfigure _ _ params => wfParams params
  | .blockRead _ _ params => wfParams params
  | .blockForceClear _ _ params => wfParams params
  | .noticeEnableSet _ _ params => wfParams params
  | .noticeEnableClear _ _ params => wfParams params
  | .noticeGroupSet _ _ params => wfParams params
  | .noticeTake _ _ params => wfParams params
  | .statusRead _ _ page => wfPage page
  | .statusReadClear _ _ page => wfPage page
  | .identRead _ _ params => wfParams params
  | .remote _ _ params => wfParams params
  | .syncByteReceived => true
  | .clockLetGo _ => true

end Sys2Proof
end

