-- ==== Sys2Proof/Tests/Slice0.lean ====
section
/-! SUPPORT. Tests: an ill-formed command for each check of WellFormed; the manual's own numbers and worked cases; small steps;
and, for every statement with hypotheses, a state and operands that meet them (`wit_<statement>`), at boundary values where a
statement has ranges. -/

namespace Sys2Proof.Tests

-- One theorem at a time: dozens of kernel checks at once take more threads than the check allows.
set_option Elab.async false

open Sys2Proof Sys2Proof.Machine

/-! ## Builders -/

/-- The samples of an ordinary round. -/
def smp : Samples := { mains := true, battery := 700, carrier := ⟨.throughout, .throughout⟩, busHigh := ⟨true, true⟩ }

/-- The part after reset in another trunk state. -/
def inTrunk (x : TrunkState) : State := State.reset.updTb fun t => { t with trunk := x }

/-- The next state of a command; the state itself if it stopped (no command of this model stops). -/
def after (i : Instr) (s : State) : State :=
  match exec i s with
  | .next t => t
  | _ => s

/-- The thresholds and confirm count of the methane head of 4.3, on bus 1 at head 9. -/
def ch4 : ChannelConfig :=
  { kind := .ch4, poll := some { bus := .one, addr := 9, zero := 410, span := 35, interval := 1, phase := 0, missLimit := 3 }
    window := 8, report := 1, adviseSet := 50, alarmSet := 100, tripSet := 125, adviseClear := 45, alarmClear := 90
    tripClear := 115, confirm := 2, failSafe := true, vote := true, riseLimit := 10, binding := none, alertAt := .alarm
    evacuateAt := .trip }

/-- The oxygen head of 4.3. -/
def o2 : ChannelConfig :=
  { ch4 with kind := .o2, window := 2, adviseSet := 1950, alarmSet := 1900, tripSet := 1750, adviseClear := 1980
             alarmClear := 1930, tripClear := 1800, riseLimit := 0 }

/-- A channel configured, enabled and OK. -/
def chan (f : ChannelConfig) : Channel := { Channel.reset with enabled := true, cfg := some f, status := .ok }

/-- The part with channel 0 in use. -/
def sChan : State := State.reset.setChannel 0 (chan ch4)

/-- The part with a poll of channel 0 in flight on bus 1. -/
def sFlight : State :=
  sChan.updBus .one fun m => { m with
    state := .polling, inFlight := some { poll := { target := .chan 0, addr := 9 }, discarded := false } }

/-- A call entry of a role and state, both sides on neighbours 0 and 2. -/
def aCall (role : CallRole) (st : CallState) : Call :=
  { newCall st role 1 0 .urgent (some { line := .outbye, addr := some 0, index := some 3 }) none 3 101 none with
      timer := 639, silence := ⟨39, 39⟩ }

/-- The part with one call entry. -/
def sCall (e : Call) : State := { State.reset with ctu := { CallUnit.boot with entries := vset CallUnit.boot.entries 0 (some e), recency := [0] } }

/-- An ORIGIN entry toward neighbour 2 on INBYE. -/
def originCall : Call := newCall .requested .origin 1 0 .urgent none (some { line := .inbye, addr := some 2, index := none }) 3 101 none

/-- A vehicle entry. -/
def aVehicle : Vehicle :=
  { id := 7, kind := .shuttle, heading := .outbye, first := some .outbye, firstStamp := ⟨0, 0⟩, lastHeard := 0, unheard := 99
    order := .wait, echoOk := false, manualStop := false, methane := none, role := .none, request := .requested, resend := 99 }

/-- The part with vehicle 7 in entry 0. -/
def sVehicle : State := State.reset.setVehicle 0 (some aVehicle)

/-- A member of the roadway block at its transit limit. -/
def aMember : Member := { id := 7, round := 0, age := 2399, overdue := false }

/-- The part governing its inbye block, with a member. -/
def sMember : State := State.reset.updVu fun u => { u with cfg := { u.cfg with governs := true }, dir := .inbyeBound, members := [aMember] }

/-- The part with refuge 0 configured, open, called, under the latch. -/
def sRefuge : State :=
  (State.reset.setRefuge 0 { Refuge.reset with head := some (.one, 20), state := .doorOpen, called := true, report := 199 }).updSau
    fun a => { a with latch := true }

/-- The part with supervision in a state. -/
def sSup (x : SupervisionState) : State := State.reset.updTu fun u => { u with sup := { state := x, period := some 4, count := 1 } }

/-- The part with an override in a state. -/
def sOvr (x : OverrideState) : State :=
  sChan.updTu fun u => { u with ovr := { u.ovr with state := x, set := 2#16, duration := some 20, window := 1, durCount := 1 } }

/-- The head. -/
def head : State := powerOn .head 0 State.reset

/-- A notice of a kind. -/
def aNotice (k : NoticeKind) : Notice := { kind := k, stamp := ⟨0, 0⟩, data := [0, 0, 0, 0, 0, 0] }

/-- A cell of a kind for a node. -/
def aCell (kind : Nat) (cls : CellClass) (dst : Nat) (p : Bytes) : Cell :=
  { kind := kind, cls := cls, src := 0, dst := dst, hop := 0, stamp := 0, payload := p }

/-- The marker of round 1 from the head. -/
def marker1 : Bytes := encodeCell (aCell 1 .alarm 63 [0x00, 0x01, 0x00, 0x00, 0x00, 0x00, 0x00])

/-- The UPLINK of a neighbour in BATTERY with its TRIP_OUT energised. -/
def uplink1 : Bytes := encodeCell { aCell 2 .alarm 63 [0x00, 0x01, 0x08, 0x00, 0x01] with src := 2 }

/-- A beacon of vehicle 7, a diesel heading INBYE, no methane. -/
def beacon7 : Bytes := [8, 1, 0, 7, 1, 1, 0, 0xFF, 0xFF, 0xF0]

/-! ## WellFormed: an ill-formed command for each check -/

theorem test_wf_straps : (Instr.powerOnReset .head 64).wf = false := by decide
theorem test_wf_samples : (Instr.roundStart { smp with battery := 1024 }).wf = false := by decide
theorem test_wf_battery : (Instr.supplyModeChange true 1024).wf = false := by decide
theorem test_wf_cell : (Instr.cellReceived .inbye (List.replicate 31 0)).wf = false := by decide
theorem test_wf_hold : (Instr.holdTimeout ⟨.one, 0⟩).wf = false ∧ (Instr.holdTimeout ⟨.one, 1⟩).wf = true := by decide
theorem test_wf_reply : (Instr.transactionComplete .one (.silent 17)).wf = false := by decide
theorem test_wf_address : (Instr.callClearReceived .inbye 63 [0, 0, 0, 0]).wf = false := by decide
theorem test_wf_payload : (Instr.callSetupReceived .inbye 1 [0]).wf = false := by decide
theorem test_wf_index : (Instr.callCellReceived .inbye 1 64 none).wf = false := by decide
theorem test_wf_voice : (Instr.callCellReceived .inbye 1 0 (some [0])).wf = false := by decide
theorem test_wf_wrapped : (Instr.commandReceived [0, 0, 0]).wf = false := by decide
theorem test_wf_frame : (Instr.beacon []).wf = false := by decide
theorem test_wf_vehicle : (Instr.memberOverdue 0).wf = false := by decide
theorem test_wf_params : (Instr.identRead .sp 0 (List.replicate 33 0)).wf = false := by decide
theorem test_wf_id : (Instr.vehicleOrderStop .cp 0 65536).wf = false := by decide
theorem test_wf_page : (Instr.statusRead .sp 0 256).wf = false := by decide
theorem test_wf_good : (Instr.beacon beacon7).wf = true ∧ (Instr.markerReceived marker1 smp).wf = true := by decide +kernel

/-! ## The manual's own numbers -/

/-- R181: over the nine ASCII bytes of the digits 1 to 9 the CRC is 29B1 hexadecimal. -/
theorem test_crc : crc [0x31, 0x32, 0x33, 0x34, 0x35, 0x36, 0x37, 0x38, 0x39] = 0x29B1#16 := by decide +kernel
/-- R181: a cell as sent has a good CRC, and one changed bit makes it bad. -/
theorem test_crc_cell : crcGood marker1 = true ∧ crcGood (marker1.set 8 1) = false := by decide +kernel
/-- R67: the four rows of its table. -/
theorem test_calibration :
    calibrate .ch4 1000 64 1002 false = ⟨1, false, false⟩ ∧ calibrate .ch4 1000 64 998 false = ⟨0, false, true⟩
    ∧ calibrate .ch4 1000 64 999 false = ⟨0, false, false⟩ ∧ calibrate .ch4 0 65535 4095 false = ⟨10000, true, false⟩ := by decide +kernel
/-- R44: the example reply: status 33, high 4, low 186, check 32 reads 1210; 184 in place of 186 is CHECK_BAD. -/
theorem test_reply : classify 1 (.bytes 33 4 186 32 0) = .reading 1210 false
    ∧ classify 1 (.bytes 33 4 184 32 0) = .miss .checkBad := by decide +kernel
/-- 4.3, the rise condition alone: readings 5 and 8 of its table. -/
theorem test_rise : averageOf 8 [40, 44, 47, 50, 55] = some 47 ∧ riseOf .ch4 [40, 44, 47, 50, 55] = 15
    ∧ averageOf 8 [40, 44, 47, 50, 55, 56, 57, 57] = some 51 ∧ riseOf .ch4 [40, 44, 47, 50, 55, 56, 57, 57] = 7 := by decide +kernel
/-- The channel after raw counts, one reading each. -/
def readAll (f : ChannelConfig) (z span : Nat) (raws : List Nat) : Channel :=
  raws.foldl (fun c raw => c.read f false (calibrate f.kind z span raw false) false ⟨0, 0⟩) (chan f)
/-- 4.3, the oxygen head: level and average after readings 3, 4, 6 and 7. -/
theorem test_oxygen :
    ((readAll o2 200 160 [3550, 3300, 3250]).level, (readAll o2 200 160 [3550, 3300, 3250]).average) = (.advise, some 1922)
    ∧ ((readAll o2 200 160 [3550, 3300, 3250, 150]).level, (readAll o2 200 160 [3550, 3300, 3250, 150]).confirm) = (.alarm, 1)
    ∧ (readAll o2 200 160 [3550, 3300, 3250, 150, 3260, 3280]).level = .alarm
    ∧ (readAll o2 200 160 [3550, 3300, 3250, 150, 3260, 3280, 3340]).level = .advise := by decide +kernel
/-- 9.4, a full queue at the SP: the port as its worked sequence starts. -/
def fullPort : PortState :=
  { PortState.boot with queue :=
      [aNotice .levelChange, aNotice .levelChange, aNotice .levelChange, { aNotice .lineEvent with data := [0, 0, 0, 0, 0, 0] }]
        ++ List.replicate 19 (aNotice .vehicleEvent) }
/-- 9.4: its rows up to TABLE_FULL. -/
theorem test_full_queue :
    let p1 := (fullPort.post (aNotice .trip)).post (aNotice .vehicleEvent)
    let p2 := (p1.post (aNotice .lineEvent)).post (aNotice .levelChange)
    let p3 := p2.post (aNotice .tableFull)
    maskableCount p1.queue = 24 ∧ p1.noticeOverflow = false ∧ maskableCount p2.queue = 24 ∧ p2.noticeOverflow = true
      ∧ (p2.queue.filter (fun n => n.kind = .vehicleEvent)).length = 19 ∧ p3.queue = p2.queue := by decide +kernel
/-- R188: a BEACON is 11 bytes with its sync byte, its bytes sum to 0; an ORDER frame is 7. -/
theorem test_beacon : judgeFrame beacon7 = .inr { id := 7, kind := .diesel, heading := .inbye, echo := 0, methane := none }
    ∧ judgeFrame (beacon7.set 0 9) = .inl .length ∧ judgeFrame (beacon7.set 3 8) = .inl .check
    ∧ (orderFrame 7 .wait).length = 7 := by decide +kernel

/-! ## Small steps -/

/-- 9.6: State.reset is what a power-on reset of a junction strapped to 1 leaves. -/
theorem test_reset_is_power_on : powerOn .junction 1 State.reset = State.reset := by decide +kernel
/-- R3: the rows of its table, at the ends of their ranges. -/
theorem test_straps : (powerOn .junction 62 State.reset).tb.trunk = .listen ∧ (powerOn .junction 63 State.reset).tb.trunk = .setup
    ∧ (powerOn .junction 0 State.reset).tb.trunk = .setup ∧ head.tb.trunk = .leading
    ∧ (powerOn .head 1 State.reset).tb.addressInvalid = true := by decide +kernel
/-- R86: after reset nothing persists, and TRIP_RESET energises TRIP_OUT. -/
theorem test_trip_reset : (after (.tripReset .sp 1 []) State.reset).tripOut = true := by decide +kernel
/-- R9: the marker of the round keeps CARRY; its absence enters HOLDOVER. -/
theorem test_carry : (after (.markerReceived marker1 smp) ((inTrunk .carry).updTb fun t => { t with lead := some 0 })).tb.trunk = .carry
    ∧ (after (.markerWindowClose smp) (inTrunk .carry)).tb.trunk = .holdover := by decide +kernel
/-- R1: the running count wraps from 4095 to 0. -/
theorem test_wrap : (after (.roundStart smp) (State.reset.updTb fun t => { t with running := 4095 })).tb.running = 0 := by decide +kernel
/-- R152, R157: a vehicle heading INBYE at a governing node with the roadway free is granted and told to PROCEED. -/
theorem test_grant :
    let t := after (.beacon beacon7) (State.reset.updVu fun u => { u with cfg := { u.cfg with governs := true } })
    (t.vehicle 0).map Vehicle.order = some .proceed ∧ t.vu.members.map Member.id = [7] := by decide +kernel
/-- R105, R112: EVACUATE from the surface: strobe and sounder. -/
theorem test_evacuate : (after (.evacuate .surface 1 []) State.reset).strobe = true
    ∧ (after (.evacuate .surface 1 []) State.reset).sounder = true := by decide +kernel
/-- R84, R175: the notice of the restart trip is taken with its record. -/
theorem test_notice_take : ((after (.noticeTake .sp 1 []) State.reset).pi.ports.sp.slot.map Response.data)
    = some [0x00, 0x01, 0x00, 0x00, 0x00, 0xA0, 0x00, 0xFF, 0x00, 0x00, 0x00] := by decide +kernel

/-- R42: the address byte carries the head address in bits 7 to 1 and bit 0 set. -/
theorem test_address_byte : addressByte 9 = 0x13#8 ∧ addressByte 127 = 0xFF#8 := by decide
/-- R169, R23: at a head strapped to 63 a REMOTE with target 63 goes into the INBYE SIGNAL queue (log 44). -/
theorem test_remote_63 :
    (after (.remote .sp 1 [63, 69, 2, 0, 0xB9]) (powerOn .head 63 State.reset)).cs.queues.inbye.signal.map Cell.dst = [63] := by
  decide +kernel
/-- R112, R2: an ALERT that a marker brings sounds 100 rounds: its count stands at 100 after the round start it came with. -/
theorem test_announce_by_marker :
    (after (.markerReceived (encodeCell (aCell 1 .alarm 63 [0x00, 0x01, 0x00, 0x00, 0x01, 0x00, 0x00])) smp) (inTrunk .carry)).sau.announce
      = 100 := by decide +kernel
/-- R23, R169 (log 44): a head strapped to 1 keeps what it builds for node 0. -/
theorem test_strapped_head : (powerOn .head 1 State.reset).cs.safetyQ.length = 1
    ∧ (powerOn .head 1 State.reset).cs.queues.inbye.signal = [] := by decide +kernel

/-! ## Witnesses -/

theorem wit_StepRunsFront : ({ State.reset with pending := [Instr.listenTimeout, .orderFrameSend] } : State).pending
    = .listenTimeout :: [.orderFrameSend] := by decide
/-- The part in a frame of an age. -/
def sAged (n : Nat) : State := State.reset.updVu fun u => { u with radio := { u.radio with inFrame := true, frameAge := n } }
theorem wit_StepIdles : (State.reset.pending = [] ∧ State.reset.vu.radio.inFrame = false)
    ∧ ((sAged 62).pending = [] ∧ (sAged 62).vu.radio.inFrame = true ∧ (sAged 62).vu.radio.frameAge < 63)
    ∧ ((sAged 63).vu.radio.inFrame = true ∧ 63 ≤ (sAged 63).vu.radio.frameAge) := by decide
theorem wit_RoundStartOwnTiming : (State.reset.tb.trunk ≠ .carry ∧ State.reset.tb.trunk ≠ .join)
    ∧ ((inTrunk .join).tb.trunk = .join ∧ (inTrunk .join).tb.joinCnt = 0) ∧ (inTrunk .carry).tb.trunk = .carry := by decide
/-- A DATA queue of 3 cells on OUTBYE between marks, HOLDING or not, with a period count. -/
def sMarks (high low : Nat) (holding : Bool) (period : Nat) : State :=
  State.reset.updCs fun c => { c with
    queues := ⟨⟨[], List.replicate 3 (aCell 98 .data 0 [])⟩, ⟨[], []⟩⟩, holdParams := { high := high, low := low, length := 8 }
    holding := ⟨⟨holding, period⟩, ⟨false, 0⟩⟩ }
/-- The rows of the table of R31 where they meet: a queue of 3 at and around each mark, a period count of 1 and of 2. -/
theorem wit_RoundStartOwnTiming_marks :
    ((examineQueue .outbye (sMarks 4 0 false 0)).cs.holding.outbye.holding, (examineQueue .outbye (sMarks 3 0 false 0)).cs.holding.outbye,
      (examineQueue .outbye (sMarks 9 3 true 1)).cs.announce.inbye, (examineQueue .outbye (sMarks 9 2 true 2)).cs.holding.outbye.period,
      (examineQueue .outbye (sMarks 9 2 true 1)).cs.announce.inbye)
      = (false, ⟨true, 8⟩, some 0, 1, some 8) := by decide +kernel
/-- Channel 0 due on bus 1, joining an empty list and dropped where its head has its place; refuge 0 due; a bus that fails. -/
theorem wit_RoundStartOwnTiming_polls :
    (channelDue sChan .one 0 = some { target := .chan 0, addr := 9 } ∧ refugeDue (sRefuge) .one 0 = some { target := .refuge 0, addr := 20 })
    ∧ ({ target := .chan 0, addr := 9 } ∈ dueAt 1 .one sChan ∧ { target := .chan 0, addr := 9 } ∈ joining 1 .one sChan)
    ∧ ({ target := .chan 0, addr := 9 } ∈ dueAt 1 .one sFlight ∧ { target := .chan 0, addr := 9 } ∉ joining 1 .one sFlight)
    ∧ (sFlight.bus .one).state = .polling ∧ (∀ (b : Bus) (p : Poll), p ∈ dueAt 1 b State.reset → p.target ≠ .chan 0)
    ∧ reservePoll (sChan.setChannel 1 (chan { ch4 with kind := .airflow })) { target := .chan 1, addr := 9 } = true := by
  refine ⟨by decide +kernel, by decide +kernel, by decide +kernel, by decide, fun b p h => ?_, by decide +kernel⟩
  have : dueAt 1 b State.reset = [] := by cases b <;> decide +kernel
  rw [this] at h; cases h
theorem wit_RoundStartOwnTiming_holds : BusHolds true BusMaster.boot ∧ BusHolds false { BusMaster.boot with state := .releasing, release := 2 }
    ∧ ¬ BusHolds false { BusMaster.boot with state := .releasing, release := 3 }
    ∧ ¬ BusHolds false { BusMaster.boot with state := .failed } :=
  ⟨.inl rfl, .inr ⟨by decide, fun _ => by decide⟩,
    fun h => h.elim (by decide) (fun x => absurd (x.2 rfl) (by decide)), fun h => h.elim (by decide) (fun x => absurd rfl x.1)⟩
/-- What that marker carries. -/
def m1 : Marker := markerOf (decodeCell marker1)
/-- The part in a trunk state, one tick before the next round start, at a phase age, with a join count and a run of a lead. -/
def sHunt (x : TrunkState) (phase n lead : Nat) : State :=
  (inTrunk x).updTb fun t => { t with phaseAge := phase, joinCnt := n, runLead := lead }
theorem wit_markerCell (x : TrunkState) (phase n lead : Nat) : MarkerCell marker1 m1 (sHunt x phase n lead) :=
  ⟨rfl, by decide +kernel, by decide +kernel, by decide +kernel, rfl, show m1.lead < 1 by decide +kernel⟩
theorem wit_MarkerCarries :
    ((sHunt .carry 252 0 0).tb.pendingCmd = none ∧ (sHunt .carry 252 0 0).tb.trunk = .carry ∧ validEarly (sHunt .carry 252 0 0).tb m1 = true)
    ∧ (validEarly (sHunt .carry 260 0 0).tb m1 = true ∧ validEarly (sHunt .carry 251 0 0).tb m1 = false
      ∧ validEarly (sHunt .carry 261 0 0).tb m1 = false)
    ∧ ((State.reset.tb.trunk = .listen ∧ State.reset.tb.listenAge + 1 < State.reset.tb.params.listenTimeout * State.reset.tb.params.noiseFactor)
      ∧ State.reset.tb.quietCnt + 1 < State.reset.tb.params.listenTimeout)
    ∧ ((sHunt .join 256 0 0).tb.trunk = .join ∧ (sHunt .join 256 0 0).tb.joinCnt = 0 ∧ (sHunt .join 251 1 0).tb.joinCnt ≠ 0
      ∧ validEarly (sHunt .join 251 1 0).tb m1 = false ∧ m1.lead ≠ (sHunt .join 256 1 1).tb.runLead)
    ∧ (validEarly (sHunt .join 252 1 0).tb m1 = true ∧ m1.lead = (sHunt .join 252 1 0).tb.runLead
      ∧ (sHunt .join 252 6 0).tb.joinCnt + 1 < (sHunt .join 252 6 0).tb.params.joinCount
      ∧ (sHunt .join 252 7 0).tb.params.joinCount ≤ (sHunt .join 252 7 0).tb.joinCnt + 1) := by decide +kernel
theorem wit_MarkerCarries_calm (x : TrunkState) (phase n lead : Nat) : Calm smp (sHunt x phase n lead) :=
  ⟨⟨.inl rfl, .inl rfl⟩, rfl, show State.reset.sau.causes.gasEvacuate = (localCausesOf State.reset).gasEvacuate by decide +kernel⟩
/-- The part in CARRY under a lead and an old epoch, with an EVACUATE latch and an aged INBYE remote level. -/
def sLatched (lead : Nat) : State :=
  (((sHunt .carry 256 0 0).updTb fun t => { t with lead := some lead, epoch := 9 }).updSau fun a => { a with latch := true }).updCs
    fun c => { c with remote := ⟨⟨.normal, 3⟩, ⟨.alert, 3⟩⟩ }
/-- R13, R40, R110: a new epoch under the lead held clears the latch, under another lead it stands; both ages are 0 after it. -/
theorem test_adoptions : m1.epoch ≠ (sLatched 0).tb.epoch ∧ (after (.markerReceived marker1 smp) (sLatched 0)).sau.latch = false
    ∧ (after (.markerReceived marker1 smp) (sLatched 2)).sau.latch = true
    ∧ (after (.markerReceived marker1 smp) (sLatched 0)).cs.remote = ⟨⟨.normal, 0⟩, ⟨.normal, 0⟩⟩ := by decide +kernel
theorem wit_MarkerCarries_limits :
    (let s := (sHunt .join 252 7 0).updTb fun t => { t with listenAge := 399 }
     s.tb.params.listenTimeout * s.tb.params.noiseFactor ≤ s.tb.listenAge + 1)
    ∧ (let s := (sHunt .join 252 7 0).updTb fun t => { t with quietCnt := 99 }
       s.tb.params.listenTimeout ≤ if ({ smp with carrier := ⟨.absent, .absent⟩ } : Samples).carrier.outbye = .absent then s.tb.quietCnt + 1 else 0) := by
  decide
/-- The part with a candidate of a round and age, a late window, a running count, and a rejoin run. -/
def sHold (x : TrunkState) (running age n : Nat) : State :=
  (inTrunk x).updTb fun t => { t with
    running := running, phaseAge := 4, lateUntil := some 4, candidate := some { round := 0, age := age }
    rejoin := { count := n, lead := 0, round := 0, age := age } }
theorem wit_WindowCloseEntersHoldover : ((inTrunk .carry).tb.trunk = .carry ∧ (inTrunk .carry).tb.pendingCmd = none)
    ∧ ((inTrunk .carry).tb.role = .junction ∧ crcGood (marker1.set 8 1) = false
      ∧ (sHunt .carry 252 0 0).tb.phaseAge = 252 ∧ (sHunt .join 260 1 0).tb.phaseAge = 260
      ∧ (sHold .islandLead 5 252 1).tb.rejoin.age = 252 ∧ (inTrunk .holdover).tb.trunk = .holdover)
    ∧ (validEarly (sHunt .carry 251 0 0).tb m1 = false ∧ validEarly (sHunt .holdover 252 0 0).tb m1 = true)
    ∧ (validEarly (sHold .holdover 1 0 0).tb m1 = false ∧ validLate (sHold .holdover 1 0 0).tb m1 = true)
    ∧ (validEarly (sHold .holdover 5 252 0).tb m1 = false ∧ validLate (sHold .holdover 5 252 0).tb m1 = false
      ∧ confirms (sHold .holdover 5 252 0).tb m1 = true ∧ confirms (sHold .holdover 5 260 0).tb m1 = true
      ∧ confirms (sHold .holdover 5 251 0).tb m1 = false ∧ confirms (sHold .holdover 5 261 0).tb m1 = false)
    ∧ (extendsRun (sHold .islandLead 5 252 6).tb m1 = true ∧ extendsRun (sHold .islandLead 5 260 7).tb m1 = true
      ∧ extendsRun (sHold .islandLead 5 261 6).tb m1 = false
      ∧ (sHold .islandLead 5 252 6).tb.rejoin.count + 1 < (sHold .islandLead 5 252 6).tb.params.joinCount
      ∧ (sHold .islandLead 5 252 7).tb.params.joinCount ≤ (sHold .islandLead 5 252 7).tb.rejoin.count + 1) := by decide +kernel
theorem wit_WindowClose_cell (x : TrunkState) (r a n : Nat) : MarkerCell marker1 m1 (sHold x r a n) :=
  ⟨rfl, by decide +kernel, by decide +kernel, by decide +kernel, rfl, show m1.lead < 1 by decide +kernel⟩
/-- The part one round short of a hunt limit, or of the holdover limit, or with a candidate or a run past its window. -/
def atLimit (x : TrunkState) : State :=
  State.reset.updTb fun t => { t with
    trunk := x, listenAge := 399, holdoverCnt := 39, candidate := some { round := 1, age := 260 }
    rejoin := { count := 1, lead := 0, round := 1, age := 260 } }
theorem wit_TrunkLimits :
    ((atLimit .holdover).tb.trunk = .holdover ∧ (atLimit .holdover).tb.candidate = some { round := 1, age := 260 }
        ∧ (atLimit .holdover).tb.pendingCmd = none)
    ∧ ((atLimit .islandLead).tb.trunk = .islandLead ∧ (atLimit .islandLead).tb.rejoin.count ≠ 0
        ∧ 260 ≤ (atLimit .islandLead).tb.rejoin.age)
    ∧ ((atLimit .listen).tb.trunk = .listen
        ∧ (atLimit .listen).tb.params.listenTimeout * (atLimit .listen).tb.params.noiseFactor ≤ (atLimit .listen).tb.listenAge + 1)
    ∧ (atLimit .holdover).tb.params.holdoverLimit ≤ (atLimit .holdover).tb.holdoverCnt + 1
    ∧ (let s := (inTrunk .join).updTb fun t => { t with quietCnt := 99 }
       s.tb.trunk = .join ∧ s.cs.status.outbye.carrier = false ∧ s.cs.status.outbye.lostThisRound = false
        ∧ s.tb.params.listenTimeout ≤ s.tb.quietCnt + 1)
    ∧ ((atLimit .listen).updTb fun t => { t with pendingCmd := some { cmd := .halt, src := .cp, tag := 5 } }).tb.pendingCmd ≠ none := by
  decide
/-- Both resets, with a strapping for each row of the table of R3 at its limits. -/
theorem wit_ResetsRestart :
    (Instr.powerOnReset .head 0 = .powerOnReset .head 0 ∨ Instr.powerOnReset .head 0 = .externalReset .head 0)
    ∧ (Instr.externalReset .junction 62 = .powerOnReset .junction 62 ∨ Instr.externalReset .junction 62 = .externalReset .junction 62)
    ∧ (1 ≤ 1 ∧ 1 ≤ 62) ∧ (1 ≤ 62 ∧ 62 ≤ 62) ∧ (1 : Nat) ≠ 0 ∧ ((0 : Nat) = 0 ∨ 62 < 0) ∧ ((63 : Nat) = 0 ∨ 62 < 63) := by decide
/-- The part with a trunk command pending. -/
def sPending (c : TrunkCommand) (x : TrunkState) : State :=
  (inTrunk x).updTb fun t => { t with pendingCmd := some { cmd := c, src := .cp, tag := 5 } }
theorem wit_TrunkCommandTaken :
    ((inTrunk .setup).tb.pendingCmd = none ∧ (inTrunk .setup).tb.trunk = .setup
      ∧ (List.replicate 7 (0 : Byte)).length = 7 ∧ (Source.cp ≠ .sp))
    ∧ State.reset.tb.trunk ≠ .setup ∧ (sPending .halt .listen).tb.pendingCmd ≠ none
    ∧ (¬ (TrunkState.listen = .setup ∨ TrunkState.listen = .halted)) ∧ (inTrunk .halted).tb.trunk = .halted := by decide
theorem wit_TrunkCommandTaken_takenIn : TakenIn .start (inTrunk .setup).tb ∧ TakenIn .halt State.reset.tb
    ∧ TakenIn .setup (inTrunk .halted).tb ∧ ¬ TakenIn .start State.reset.tb ∧ ¬ TakenIn .halt (inTrunk .setup).tb
    ∧ ¬ TakenIn .setup (inTrunk .setup).tb := by
  refine ⟨.inl ⟨rfl, rfl⟩, ⟨by decide, by decide⟩, rfl, ?_, ?_, ?_⟩
  · rintro (⟨h, _⟩ | h) <;> exact absurd h (by decide)
  · exact fun h => h.1 rfl
  · exact fun h => absurd (show TrunkState.setup = .halted from h) (by decide)
theorem wit_TrunkCommandApplied :
    (sPending .start .halted).tb.pendingCmd = some { cmd := .start, src := .cp, tag := 5 } ∧ TakenIn .start (sPending .start .halted).tb
    ∧ (sPending .start .halted).tb.role = .junction ∧ head.tb.role = .head ∧ TakenIn .halt head.tb
    ∧ TakenIn .halt (sPending .halt .carry).tb ∧ TakenIn .setup (sPending .setup .halted).tb ∧ Source.cp = portSource .cp :=
  ⟨rfl, .inr rfl, rfl, by decide +kernel, ⟨by decide +kernel, by decide +kernel⟩, ⟨by decide, by decide⟩, rfl, rfl⟩
theorem wit_RoundFillsSixteen : (sendsOn State.reset .outbye = true ∧ sendsOn State.reset .inbye = true ∧ connectedOn .outbye State.reset = 0)
    ∧ (let s := sCall (aCall .destination .connected)
       connectedOn .outbye s = 1 ∧ sendsOn s .outbye = true)
    ∧ (sendsOn head .inbye = true ∧ head.tb.trunk = .leading) ∧ sendsCellZero State.reset .inbye = false
    ∧ (sendsOn (inTrunk .holdover) .inbye = true ∧ sendsCellZero (inTrunk .holdover) .inbye = true)
    ∧ (sLatched 0).tb.trunk = .carry ∧ (sLatched 0).tb.lead = some 0 ∧ (inTrunk .islandLead).tb.trunk = .islandLead := by decide +kernel
/-- The same with a hold request for a length. -/
def uplinkHold (n : Byte) : Bytes := encodeCell { aCell 2 .alarm 63 [0x00, 0x01, 0x0C, n, 0x01] with src := 2 }
theorem wit_UplinkTaken : crcGood uplink1 = true ∧ byteAt uplink1 0 = 2 ∧ byteAt uplink1 1 % 32 = 5
    ∧ byteAt uplink1 6 = State.reset.tb.epoch ∧ bitOf (byteAt uplink1 8) 2 = false
    ∧ byteAt uplink1 6 ≠ (State.reset.updTb fun t => { t with epoch := 1 }).tb.epoch
    ∧ (crcGood (uplinkHold 0) = true ∧ bitOf (byteAt (uplinkHold 0) 8) 2 = true ∧ byteAt (uplinkHold 255) 9 ≠ 0) := by decide +kernel
/-- A MESSAGE for a node, and a cell of an unknown kind. -/
def raw98 (dst : Nat) : Bytes := encodeCell (aCell 98 .data dst [1])
def raw200 : Bytes := encodeCell (aCell 200 .data 0 [])
theorem wit_CellsDisposed :
    ((decodeCell (raw98 1)).kind = 98 ∧ (decodeCell (raw98 1)).classOf ≠ .call ∧ crcGood (raw98 1) = true
      ∧ State.reset.tb.role ≠ .head ∧ dropped State.reset .outbye (rawLength (raw98 1)) (decodeCell (raw98 1)) = false
      ∧ (decodeCell (raw98 1)).dst = State.reset.tb.address ∧ (decodeCell (raw98 63)).dst = 63
      ∧ (decodeCell (raw98 1)).kind ∉ [16, 17, 18, 19, 20, 48, 49, 50, 64])
    ∧ (crcGood ((raw98 1).set 5 1) = false ∧ crcGood raw200 = true ∧ (decodeCell raw200).classOf ≠ .call
      ∧ dropped State.reset .outbye (rawLength raw200) (decodeCell raw200) = true)
    ∧ (crcGood (raw98 3) = true ∧ dropped State.reset .outbye (rawLength (raw98 3)) (decodeCell (raw98 3)) = false
      ∧ (decodeCell (raw98 3)).dst ≠ State.reset.tb.address ∧ (decodeCell (raw98 3)).dst ≠ 63 ∧ State.reset.quiet = false
      ∧ onwardLine (decodeCell (raw98 3)).dst State.reset = Line.other .outbye
      ∧ onwardLine (decodeCell (raw98 0)).dst State.reset = .outbye
      ∧ reserveRefuses (decodeCell (raw98 3)) State.reset = false ∧ (inTrunk .halted).quiet = true
      ∧ reserveRefuses (decodeCell (raw98 3)) (State.reset.updCs fun c => { c with supplyMode := .reserve }) = true) := by decide +kernel
/-- A cell for each of the other ways: MARKER, UPLINK, IDLE, a VOICE cell, a CALL_SETUP for node 1. -/
theorem wit_CellsDisposed_kinds :
    (crcGood marker1 = true ∧ (decodeCell marker1).kind = 1 ∧ (decodeCell uplink1).kind = 2)
    ∧ (let raw := encodeCell (aCell 0 .alarm 0 [])
       crcGood raw = true ∧ (decodeCell raw).kind = 0)
    ∧ (let raw := encodeCell (aCell 80 .call 0 (List.replicate 24 0))
       crcGood raw = true ∧ (decodeCell raw).classOf = .call ∧ dropped State.reset .inbye (rawLength raw) (decodeCell raw) = false)
    ∧ (let raw := encodeCell (aCell 16 .signal 63 [5, 0, 3, 1, 1, 0, 101, 0, 0])
       crcGood raw = true ∧ (decodeCell raw).kind = 16 ∧ dropped State.reset .inbye (rawLength raw) (decodeCell raw) = false) := by
  decide +kernel
/-- The part with full outgoing and delivery queues. -/
def sFull : State :=
  State.reset.updCs fun c => { c with
    queues := ⟨⟨List.replicate 16 (aCell 32 .signal 0 []), List.replicate 48 (aCell 98 .data 0 [])⟩, ⟨[], []⟩⟩
    safetyQ := List.replicate 64 (aCell 96 .data 1 []), generalQ := List.replicate 64 (aCell 36 .signal 1 []) }
theorem wit_OutgoingQueues :
    ((aCell 32 .signal 0 []).classOf = .signal ∧ State.reset.cs.queues.outbye.signal.length < 16
      ∧ 16 ≤ sFull.cs.queues.outbye.signal.length)
    ∧ ((aCell 98 .data 0 []).classOf = .data ∧ 48 ≤ sFull.cs.queues.outbye.data.length
      ∧ (∀ q ∈ sFull.cs.queues.outbye.data, coalescesReport (aCell 98 .data 0 []) q = false)
      ∧ State.reset.cs.queues.outbye.data.length < 48)
    ∧ coalescesReport (aCell 96 .data 0 [1]) (aCell 96 .data 0 [1]) = true := by decide +kernel
theorem wit_DeliveryQueues :
    (safetyKind 32 = true ∧ safetyKind 98 = false) ∧ (deliveryQueue true State.reset).length < 64
    ∧ deliveryQueue true State.reset = [] ∧ 64 ≤ (deliveryQueue true sFull).length ∧ (aCell 96 .data 1 []).classOf = .data
    ∧ (aCell 32 .signal 1 []).classOf ≠ .data
    ∧ deliveryQueue true sFull = [] ++ aCell 96 .data 1 [] :: List.replicate 63 (aCell 96 .data 1 [])
    ∧ 64 ≤ (deliveryQueue false sFull).length ∧ (∀ e ∈ deliveryQueue false sFull, e.classOf ≠ .data) := by decide +kernel
/-- The part with lines at their limits. -/
def sLines : State :=
  sFull.updCs fun c => { c with
    held := ⟨1, 0⟩, holding := ⟨⟨true, 1⟩, ⟨false, 0⟩⟩, remote := ⟨⟨.alert, 39⟩, ⟨.normal, 0⟩⟩ }
theorem wit_LineEvents : (sLines.cs.remote.get .outbye).age = 39 ∧ (sLines.cs.remote.get .outbye).level ≠ .normal
    ∧ sLines.cs.held.get .outbye = 1 ∧ (sLines.cs.holding.get .outbye).holding = true ∧ (sLines.cs.holding.get .outbye).period = 1
    ∧ sLines.cs.holdParams.low < (sLines.cs.queues.get .outbye).data.length := by decide
theorem wit_CellTake : deliveryQueue (takesSafety .sp) State.reset = []
    ∧ deliveryQueue (takesSafety .cp) sFull = aCell 36 .signal 1 [] :: List.replicate 63 (aCell 36 .signal 1 [])
    ∧ safetyKind 32 = takesSafety .sp := by decide +kernel
theorem wit_CellSwitchCommands :
    ([0x01, 0x07] : Bytes).length = 2 ∧ ([0x01, 0x07] : Bytes).getD 0 0 = lineByte .inbye ∧ byteAt [0x01, 0x07] 1 ≤ 7
    ∧ 1 < byteAt [0x02, 0x00] 0 ∧ 7 < byteAt [0x00, 0x08] 1 ∧ ([0, 0, 0] : Bytes).length = 3
    ∧ (62 ≤ 62 ∧ 62 ≠ State.reset.tb.address ∧ (List.replicate 24 (0 : Byte)).length ≤ 24 ∧ State.reset.cs.supplyMode ≠ .reserve
      ∧ (State.reset.cs.queues.get (onwardLine 62 State.reset)).data.length < 48 ∧ State.reset.cs.staging = none)
    ∧ ((powerOn .head 1 State.reset).tb.role = .head ∧ (0 : Nat) ≠ (powerOn .head 1 State.reset).tb.address
      ∧ 62 ≠ (powerOn .head 1 State.reset).tb.address ∧ (62 : Nat) ≠ 0) := by decide +kernel
/-- Bus 1 in a state, one poll pending. -/
def sBus (x : BusState) : State :=
  sChan.updBus .one fun m => { m with state := x, list := [{ target := .chan 0, addr := 9 }], started := 15, release := 3 }
theorem wit_BusMasterSteps :
    (((sBus .idle).bus .one).state = .idle ∧ ((sBus .idle).bus .one).started < 16
      ∧ ((sBus .idle).bus .one).list = { target := .chan 0, addr := 9 } :: [])
    ∧ ((sBus .failed).bus .one).state ≠ .idle ∧ (State.reset.bus .one).list = []
    ∧ 16 ≤ ((State.reset.updBus .one fun m => { m with started := 16 }).bus .one).started
    ∧ ((sBus .releasing).bus .one).state = .releasing ∧ ((sBus .failed).bus .one).state = .failed
    ∧ ((sBus .polling).bus .one).state = .polling
    ∧ ((sFlight.bus .one).inFlight.isSome = true ∧ (sFlight.bus .one).holdTotal + 16 ≤ 16) := by decide
theorem wit_BusFails : ((sBus .releasing).bus .one).state = .releasing ∧ 3 ≤ ((sBus .releasing).bus .one).release
    ∧ (∃ p ∈ ((sBus .releasing).bus .one).list, p.target = .chan 0) ∧ ((sBus .releasing).channel 0).cfg = some ch4
    ∧ ch4.poll.isSome = true ∧ ((sBus .releasing).channel 0).enabled = true
    ∧ (∀ p ∈ ((sBus .releasing).bus .one).list, p.target ≠ .chan 1)
    ∧ ((sBus .releasing).bus .one).list = [] ++ { target := .chan 0, addr := 9 } :: [] ∧ ((sBus .failed).bus .one).state ≠ .releasing
    ∧ (((sBus .releasing).updBus .one fun m => { m with release := 2 }).bus .one).release < 3 := by decide +kernel
/-- Polls of a channel at its miss limit and of a refuge with two misses, on a bus about to fail. -/
def sFailing : State :=
  ((sBus .releasing).setChannel 0 { chan ch4 with miss := 2, level := .alarm }).setRefuge 0
    { Refuge.reset with head := some (.one, 20), state := .vacant, miss := 2 } |>.updBus .one fun m => { m with
      list := [{ target := .chan 0, addr := 9 }, { target := .refuge 0, addr := 20 }] }
theorem wit_BusFails_both :
    ((sFailing.bus .one).list = [] ++ { target := .chan 0, addr := 9 } :: [{ target := .refuge 0, addr := 20 }]
      ∧ (sFailing.bus .one).list = [{ target := .chan 0, addr := 9 }] ++ { target := .refuge 0, addr := 20 } :: []
      ∧ (sFailing.refuge 0).state ≠ .unused)
    ∧ (let t := after (.busFailed .one) sFailing
       (t.channel 0).status = .fault ∧ (t.channel 0).level = .alarm ∧ (t.channel 0).miss = 3 ∧ (t.refuge 0).state = .noResponse) := by
  decide +kernel
theorem wit_CompletionClasses :
    (16 < 17 ∧ 16 ≤ 16) ∧ (33 + 4 + 186 + 32) % 256 = 255 ∧ (33 + 4 + 184 + 32) % 256 ≠ 255
    ∧ (33 / 32 = 1 ∧ 33 / 32 ≠ 2) ∧ (bitOf 33 3 = false ∧ bitOf 33 4 = false ∧ bitOf 41 3 = true ∧ bitOf 49 4 = true)
    ∧ (256 * 15 + 255 ≤ 4095 ∧ 4095 < 256 * 16 + 0) ∧ 192 / 32 = 6 := by decide
theorem wit_TransactionEnds :
    ((sFlight.bus .one).inFlight = some { poll := { target := .chan 0, addr := 9 }, discarded := false }
      ∧ (sFlight.channel 0).cfg = some ch4
      ∧ ch4.poll = some { bus := .one, addr := 9, zero := 410, span := 35, interval := 1, phase := 0, missLimit := 3 }
      ∧ (sFlight.channel 0).enabled = true ∧ classify 1 (heldReply 0 (.bytes 33 4 186 32 16)) = .reading 1210 false
      ∧ classify 1 (heldReply 1 (.bytes 33 4 186 32 16)) = .miss .holdTimeout
      ∧ classify 1 (heldReply 17 (.silent 0)) = .miss .noAck ∧ classify 1 (heldReply 0 (.bytes 49 4 186 16 0)) = .warmup
      ∧ 16 < (sFlight.bus .one).holdTotal + 17 ∧ (sFlight.bus .one).holdTotal + 16 ≤ 16)
    ∧ ((sFlight.updBus .one fun m => m.drop (.chan 0)).bus .one).inFlight
        = some { poll := { target := .chan 0, addr := 9 }, discarded := true } := by decide +kernel
/-- Refuge 0 configured, its poll in flight on bus 1. -/
def sRefugeFlight : State :=
  (State.reset.setRefuge 0 { Refuge.reset with head := some (.one, 20), state := .noResponse }).updBus .one fun m => { m with
    state := .polling, inFlight := some { poll := { target := .refuge 0, addr := 20 }, discarded := false } }
theorem wit_TransactionEnds_refuge :
    ((sRefugeFlight.bus .one).inFlight = some { poll := { target := .refuge 0, addr := 20 }, discarded := false }
      ∧ (sRefugeFlight.refuge 0).state ≠ .unused)
    ∧ (∃ f, classify 6 (heldReply 0 (.bytes 192 64 3 252 0)) = .refuge f ∧ f.doorOpen = false ∧ f.occupants = 3 ∧ f.pressed = true)
    ∧ (classify 6 (heldReply 0 (.silent 0)) = .miss .noAck ∧ classify 6 (heldReply 0 (.bytes 208 0 0 47 0)) = .warmup)
    ∧ (let t := after (.transactionComplete .one (.bytes 192 64 3 252 0)) sRefugeFlight
       (t.refuge 0).state ≠ (sRefugeFlight.refuge 0).state ∧ (t.refuge 0).state = .occupied ∧ (t.refuge 0).called = true)
    ∧ (sRefugeFlight.tb.role = .junction ∧ sRefugeFlight.tb.address ≠ 0 ∧ sRefugeFlight.cs.staging = none
      ∧ sRefugeFlight.cs.queues.outbye.signal.length < 16) := by
  refine ⟨by decide +kernel, ⟨{ doorOpen := false, occupants := 3, pressed := true, plantFault := false }, by decide +kernel⟩,
    by decide +kernel, by decide +kernel, by decide +kernel⟩
theorem wit_AverageAndRise : ([40, 44, 47, 50, 55] : List Nat) ≠ [] ∧ 1 ≤ 8 ∧ (∀ v ∈ [40, 44, 47, 50, 55], v ≤ 55)
    ∧ ([1, 2, 3, 4] : List Nat).length < 5 ∧ (List.replicate 8 0 : List Nat).length ≤ 8 ∧ GasKind.ch4.rising = true
    ∧ GasKind.o2.rising = false ∧ ({ Channel.reset with status := .ok } : Channel).status = .ok := by decide
theorem wit_CalibrationAndLevel : 2 * (256 * (roundProduct 128) - 128).natAbs = 256 ∧ 0 ≤ roundProduct 128
    ∧ roundProduct 128 ≤ (GasKind.ch4.maximum : Int) ∧ roundProduct (-128) < 0 ∧ (GasKind.ch4.maximum : Int) < roundProduct 2560128
    ∧ GasLevel.alarm.code ≤ GasLevel.trip.code ∧ GasKind.ch4.better 95 (ch4.clearOf .alarm) = false
    ∧ (GasLevel.normal.code < GasLevel.alarm.code ∧ ch4.kind.better 89 (ch4.clearOf .alarm) = true
      ∧ riseCondition ch4.riseLimit 9 = false ∧ riseCondition ch4.riseLimit 10 = true)
    ∧ (ch4.confirm ≤ 2 ∧ 1 < ch4.confirm ∧ ch4.kind.worseEq 100 ch4.alarmSet = true ∧ ch4.kind.worseEq 99 ch4.alarmSet = false) := by
  decide +kernel
/-- A CHANNEL_CONFIGURE of channel 6 as the oxygen head of 4.3, and two that are refused. -/
def o2Params : Bytes :=
  [6, 4, 1, 22, 0, 200, 0, 160, 2, 1, 0, 0, 0x07, 0x9E, 0x07, 0x6C, 0x06, 0xD6, 0x07, 0xBC, 0x07, 0x8A, 0x07, 0x08, 2, 3, 3, 0, 0, 1, 1, 1]
/-- A CHANNEL_CONFIGURE of channel 15 as methane, its poll fields out of every range; and the same with another kind. -/
def mobileParams (kind : Byte) : Bytes :=
  [15, kind, 9, 0, 255, 255, 0, 0, 255, 0, 255, 7, 0, 50, 0, 100, 0, 125, 0, 45, 0, 90, 0, 115, 0, 0, 255, 255, 255, 0, 0, 0]
theorem wit_ChannelConfigured :
    (o2Params.length = 32 ∧ byteAt o2Params 0 = (6 : Fin 16).val ∧ ((configOf 6 o2Params).map ordered) = some true
      ∧ State.reset.tu.ovr.state = .none)
    ∧ configOf 6 (o2Params.set 1 9) = none ∧ (configOf 6 (o2Params.set 12 0)).map ordered = some false
    ∧ coverageLost (sOvr .active) 6 (((sOvr .active).channel 6).configured o2) = false := by decide +kernel
theorem wit_ChannelConfigured_fields :
    ((configOf 15 (mobileParams 1)).map ordered = some true ∧ (configOf 15 (mobileParams 1)).map ChannelConfig.kind = some .ch4
      ∧ (configOf 15 (mobileParams 4)).map ChannelConfig.kind = some .o2)
    ∧ (configOf 0 (o2Params.set 0 0)).isSome = true ∧ (sOvr .active).tu.ovr.state ≠ .none
    ∧ (configOf 0 (o2Params.set 0 0)).map (fun f => coverageLost (sOvr .active) 0 (((sOvr .active).channel 0).configured f)) = some true
    ∧ (configOf 6 (o2Params.set 29 4)).isSome = true ∧ configOf 6 (o2Params.set 29 5) = none
    ∧ (configOf 6 (o2Params.set 3 127)).isSome = true ∧ configOf 6 (o2Params.set 3 128) = none := by decide +kernel
theorem wit_ChannelEnabledAndRead : (State.reset.channel 0).cfg = none ∧ (sChan.channel 0).cfg.isSome = true
    ∧ (sChan.channel 0).enabled = true ∧ sChan.tu.ovr.state = .none
    ∧ ((State.reset.setChannel 0 { chan ch4 with enabled := false }).channel 0).enabled = false := by decide
/-- Channel 15 one round short of its silence limit. -/
def sMobile : State := State.reset.setChannel 15 { chan { ch4 with poll := none } with silence := 99 }
theorem wit_ChannelTimers :
    ((sMobile.channel 15).cfg.isSome = true ∧ (sMobile.channel 15).enabled = true ∧ (sMobile.channel 15).status = .ok
      ∧ 99 ≤ (sMobile.channel 15).silence)
    ∧ ((sChan.channel 0).cfg = some ch4 ∧ (sChan.channel 0).enabled = true ∧ ch4.report ≠ 0
      ∧ ch4.report ≤ (sChan.channel 0).report + 1 ∧ sChan.gcu.supplyMode ≠ .reserve ∧ sChan.cs.supplyMode ≠ .reserve
      ∧ sChan.tb.role = .junction ∧ sChan.tb.address ≠ 0 ∧ sChan.cs.staging = none)
    ∧ (sChan.updGcu fun g => { g with supplyMode := .reserve }).gcu.supplyMode = .reserve := by decide
/-- The part with the trip latch clear. -/
def sClear : State := after (.tripReset .sp 1 []) State.reset
theorem wit_TripManual : sClear.tu.latch = false ∧ State.reset.tu.latch = true ∧ State.reset.tu.record = some restartRecord
    ∧ restartRecord.capture.manual = false ∧ restartRecord.later.manual = false
    ∧ (after (.tripManual .sp 1 []) sClear).tu.record.map (fun r => r.capture.manual) = some true := by decide +kernel
theorem wit_TripReset : sClear.tu.latch = false ∧ State.reset.tu.latch = true ∧ State.reset.tu.causes = .empty
    ∧ (State.reset.updTu fun u => { u with causes := { CauseSet.empty with gas := true } }).tu.causes ≠ .empty
    ∧ Source.cp ≠ .sp := by decide +kernel
theorem wit_Supervision : (sSup .running).tu.sup.state = .running ∧ (sSup .running).tu.sup.count ≤ 1
    ∧ (sSup .running).tu.sup.period = some 4 ∧ (sSup .late).tu.sup.state = .late ∧ (sSup .late).tu.sup.count ≤ 1
    ∧ State.reset.tu.sup.state = .off ∧ (sSup .expired).tu.sup.state = .expired ∧ ([0, 4] : Bytes).length = 2 := by decide
theorem wit_Supervision_held : TripHeld (sSup .late) := ⟨by decide, by decide, by decide⟩
theorem wit_OverrideRequested :
    ([0, 2, 0, 20] : Bytes).length = 4 ∧ BitVec.ofNat 16 (wordAt [0, 2, 0, 20] 0) ≠ 0#16 ∧ BitVec.ofNat 16 (wordAt [0, 0, 0, 20] 0) = 0#16
    ∧ (sOvr .pending).tu.ovr.state ≠ .none ∧ sChan.tu.ovr.state = .none ∧ sChan.sau.level ≠ .evacuate
    ∧ (sChan.updSau fun a => { a with level := .evacuate }).sau.level = .evacuate
    ∧ uncoveredVoter 2#16 0 (sChan.channel 0) = true ∧ (∀ c : Fin 16, uncoveredVoter 1#16 c (sChan.channel c) = false) := by decide +kernel
theorem wit_OverrideRuns :
    ((sOvr .pending).tu.ovr.state = .pending ∧ (sOvr .pending).tu.ovr.window ≤ 1)
    ∧ ((sOvr .active).tu.ovr.state = .active ∧ (sOvr .active).tu.ovr.durCount ≤ 1 ∧ (sOvr .active).tu.ovr.state ≠ .none)
    ∧ (([0, 2, 0, 20] : Bytes).length = 4 ∧ (sOvr .pending).tu.ovr.set = BitVec.ofNat 16 (wordAt [0, 2, 0, 20] 0)
      ∧ (sOvr .pending).tu.ovr.duration = some (wordAt [0, 2, 0, 20] 2) ∧ (sOvr .pending).sau.covered = 0#16
      ∧ (localCausesOf (sOvr .pending)).gasEvacuate = false ∧ (sOvr .pending).sau.latch = false
      ∧ (sOvr .pending).cs.remote.outbye.level ≠ .evacuate ∧ (sOvr .pending).cs.remote.inbye.level ≠ .evacuate)
    ∧ ((sOvr .pending).tb.role = .junction ∧ (sOvr .pending).tb.address ≠ 0 ∧ (sOvr .pending).cs.staging = none
      ∧ (sOvr .pending).cs.queues.outbye.signal.length < 15) := by decide +kernel
/-- A Supply Monitor with its runs at their limits. -/
def aSupply (m : SupplyMode) : SupplyMonitor :=
  { TripUnit.boot.supply with mode := m, absentRun := 1, presentRun := 19, lowRun := 3, highRun := 19 }
theorem wit_SupplyModeChanges :
    ((aSupply .mains).sample false 0).change = some .battery ∧ ((aSupply .battery).sample true 700).change = some .mains
    ∧ ((aSupply .battery).sample false 0).change = some .reserve ∧ ((aSupply .reserve).sample false 600).change = some .battery
    ∧ 20 ≤ ((aSupply .battery).sample true 700).presentRun ∧ (aSupply .battery).presentRun < 20
    ∧ (aSupply .mains).mode = .mains ∧ (aSupply .reserve).mode = .reserve
    ∧ ([0, 0, 0, 0] : Bytes).length = 4 := by decide +kernel
theorem wit_ManualAlarm : (Source.sp = .sp ∧ Instr.alarmRaiseEvacuate .sp 1 = .alarmRaiseEvacuate .sp 1)
    ∧ (after (.alarmRaiseAlert .sp 1) { State.reset with sau := { State.reset.sau with latch := true } }).sau.latch = true := by decide +kernel
theorem wit_ManualAlarm_handed : HandedOver State.reset := ⟨by decide, by decide, by decide⟩
theorem wit_ManualAlarm_announce : (State.reset.updSau fun a => { a with announce := 1 }).sau.announce = 1 := by decide
theorem wit_SounderSilenced : (State.reset.updSau fun a => { a with level := .alert, announce := 1 }).sau.level = .alert
    ∧ State.reset.sau.level ≠ .alert ∧ State.reset.sau.announce = 0
    ∧ Source.sp ≠ .cp := by decide
theorem wit_AllClear : head.tb.role = .head ∧ head.tu.ovr.state = .none ∧ State.reset.tb.role = .junction := by decide +kernel
theorem wit_Refuges : (1 ≤ 127 ∧ 127 ≤ 127) ∧ (State.reset.refuge 0).state = .unused ∧ (sRefuge.refuge 0).state ≠ .unused
    ∧ (sRefuge.refuge 0).called = true ∧ (∀ k, k ≠ 0 → (sRefuge.refuge k).called = false) ∧ sRefuge.sau.latch = true
    ∧ (sRefuge.refuge 0).state = .doorOpen ∧ 199 ≤ (sRefuge.refuge 0).report
    ∧ ((State.reset.setRefuge 1 { Refuge.reset with state := .vacant }).refuge 1).called = false
    ∧ (sRefuge.tb.role = .junction ∧ sRefuge.tb.address ≠ 0 ∧ sRefuge.cs.staging = none
      ∧ sRefuge.cs.queues.outbye.signal.length < 16) ∧ (head.tb.role = .head ∧ head.cs.generalQ.length < 64) := by decide +kernel
/-- The part in CARRY, where calls may be opened. -/
def sCarry : State := inTrunk .carry
theorem wit_CallOpened :
    ([0x00, 0x65, 0x03, 0x00, 0x00, 0x01] : Bytes).length = 6 ∧ priorityOf (byteAt [0x00, 0x65, 0x03, 0x00, 0x00, 0x01] 5) = some .urgent
    ∧ 1 ≤ wordAt [0x00, 0x65, 0x03, 0x00, 0x00, 0x01] 0 ∧ wordAt [0x00, 0x65, 0x03, 0x00, 0x00, 0x01] 0 ≤ 999
    ∧ byteAt [0x00, 0x65, 0x03, 0x00, 0x00, 0x01] 2 ≤ 62 ∧ byteAt [0x00, 0x65, 0x03, 0x00, 0x00, 0x01] 2 ≠ sCarry.tb.address
    ∧ onwardLine 3 sCarry = .inbye ∧ sCarry.tb.trunk = .carry ∧ sCarry.ctu.supplyMode ≠ .reserve ∧ sCarry.ctu.level ≠ .evacuate
    ∧ reservations sCarry .inbye < budgetInForce sCarry ∧ sCarry.call 0 = none ∧ (∀ j : Fin 12, j < 0 → (sCarry.call j).isSome = true)
    ∧ sCarry.cs.staging = none ∧ (sCarry.cs.queues.get .inbye).signal.length < 16 := by decide +kernel
/-- Two entries in use with equal references are one, in a form that can be decided. -/
theorem refsOnce_of_refs {s : State} (h : ∀ i j : Fin 12, (s.call i).isSome = true →
    (s.call i).map (fun e => (e.origin, e.originIdx)) = (s.call j).map (fun e => (e.origin, e.originIdx)) → i = j) : RefsOnce s :=
  fun i j _ _ hi hj ho hx => h i j (by simp [hi]) (by simp [hi, hj, ho, hx])
/-- The part with a remnant of an earlier call of its own at entry 1, under the reference that CALL_OPEN takes with entry 0. -/
def sRemnant : State := makeCall 1 { aCall .destination .ringing with up := some { line := .inbye, addr := some 2, index := some 3 } } sCarry
theorem wit_CallOpened_remnant : sRemnant.call 0 = none ∧ findRef sRemnant.tb.address 0 sRemnant = some 1 ∧ sRemnant.tb.role = .junction
    ∧ sRemnant.cs.staging = none ∧ (sRemnant.cs.queues.get .inbye).signal.length < 15 := by decide +kernel
/-- R121: CALL_OPEN leaves one entry under its reference, and the CALL_CLEAR of the older goes before the CALL_SETUP. -/
theorem test_open_clears_remnant :
    let t := after (.callOpen .cp 1 [0x00, 0x65, 0x03, 0x00, 0x00, 0x01]) sRemnant
    (t.call 1, t.ctu.recency, t.cs.queues.inbye.signal.map Cell.kind) = (none, [0], [20, 16])
      ∧ (t.call 0).map Call.role = some .origin := by decide +kernel
/-- Line INBYE full with one ROUTINE call (budget 1); and a table full of calls of OUTBYE, no room wanted on INBYE. -/
def sBusy : State :=
  (sCall { originCall with priority := .routine }).updTb (fun t => { t with trunk := .carry }) |>.updCtu fun c => { c with budgetSet := 1 }
theorem wit_CallOpened_busy :
    (budgetInForce sBusy ≤ reservations sBusy .inbye ∧ sBusy.ctu.recency = [] ++ 0 :: []
      ∧ sBusy.call 0 = some { originCall with priority := .routine } ∧ ({ originCall with priority := .routine } : Call).uses .inbye = true
      ∧ Priority.routine.code < Priority.urgent.code)
    ∧ (∀ (k : Fin 12) (e : Call), sBusy.call k = some e → e.uses .inbye = true → Priority.routine.code ≤ e.priority.code)
    ∧ (let s := sCarry.updCtu fun c => { c with entries := Vector.replicate 12 (some (aCall .destination .ringing)) }
       reservations s .inbye < budgetInForce s ∧ ∀ j : Fin 12, (s.call j).isSome = true) :=
  ⟨by decide +kernel, fun _ _ _ _ => Nat.zero_le _, by decide +kernel⟩
theorem wit_CallSignalling :
    (sCarry.quiet = false ∧ byteAt [5, 0, 3, 1, 1, 0, 101, 0, 0] 0 ≤ 62 ∧ byteAt [5, 0, 3, 1, 1, 0, 101, 0, 0] 1 ≤ 11
      ∧ byteAt [5, 0, 3, 1, 1, 0, 101, 0, 0] 2 ≤ 11 ∧ 1 ≤ wordAt [5, 0, 3, 1, 1, 0, 101, 0, 0] 5
      ∧ wordAt [5, 0, 3, 1, 1, 0, 101, 0, 0] 5 ≤ 999 ∧ priorityOf (byteAt [5, 0, 3, 1, 1, 0, 101, 0, 0] 4) = some .urgent
      ∧ byteAt [5, 0, 3, 1, 1, 0, 101, 0, 0] 3 = sCarry.tb.address ∧ sCarry.tb.address ≤ 62 ∧ findRef 5 0 sCarry = none
      ∧ reservations sCarry .inbye < budgetInForce sCarry)
    ∧ (findRef (byteAt [1, 0, 4] 0) (byteAt [1, 0, 4] 1) (sCall originCall) = some 0 ∧ (sCall originCall).call 0 = some originCall
      ∧ (sCall originCall).quiet = false ∧ originCall.role = .origin ∧ originCall.state = .requested
      ∧ originCall.far = some { line := .inbye, addr := some 2, index := none }) := by decide +kernel
/-- A CALL_SETUP for a node beyond, one that would go back on INBYE, one in LISTEN, one against full lines. -/
theorem wit_CallSignalling_beyond :
    (byteAt [5, 0, 3, 0, 1, 0, 101, 0, 0] 3 ≠ sCarry.tb.address ∧ onwardLine 0 sCarry = Line.other .inbye ∧ onwardLine 9 sCarry = .inbye
      ∧ 62 < byteAt [5, 0, 3, 63, 1, 0, 101, 0, 0] 3 ∧ State.reset.tb.trunk = .listen ∧ State.reset.quiet = false)
    ∧ ((∀ k : Line, reservations sCarry k < budgetInForce sCarry) ∧ sCarry.tb.role = .junction ∧ sCarry.cs.staging = none
      ∧ (sCarry.cs.queues.get (Line.other .inbye)).signal.length < 16)
    ∧ (let s := sCarry.updCtu fun c => { c with budgetSet := 0 }
       (∃ k : Line, budgetInForce s ≤ reservations s k) ∧ ∀ j : Fin 12, s.call j = none) := by
  refine ⟨by decide +kernel, ⟨fun k => ?_, by decide +kernel⟩, ⟨.inbye, by decide +kernel⟩, by decide +kernel⟩
  cases k <;> decide +kernel
theorem wit_CallsAnsweredAndEnded :
    ((sCall (aCall .destination .ringing)).call 0 = some (aCall .destination .ringing)
      ∧ timerLimit (aCall .destination .ringing) = some (600, .noAnswer) ∧ 600 ≤ (aCall .destination .ringing).timer + 1)
    ∧ (aCall .transit .connected).role = .transit
    ∧ ((aCall .destination .connected).state = .connected ∧ (aCall .destination .connected).uses .outbye = true
      ∧ 39 ≤ (aCall .destination .connected).silence.get .outbye)
    ∧ (findRef 1 0 (sCall originCall) = some 0 ∧ sideMatches originCall.far .inbye 2 = true
      ∧ sideMatches (aCall .destination .connected).up .outbye 0 = true) := by decide +kernel
theorem wit_CallsAnsweredAndEnded_kept : CallsKept State.reset := by
  refine ⟨by decide +kernel, by decide, ?_, ?_⟩
  · intro l; cases l <;> decide +kernel
  · intro h; exact absurd h (by decide)
theorem wit_VoiceCarried :
    (sCall (aCall .destination .connected)).quiet = false
    ∧ (sCall (aCall .destination .connected)).call 0 = some (aCall .destination .connected)
    ∧ (aCall .destination .connected).state = .connected ∧ sideMatches (aCall .destination .connected).up .outbye 0 = true
    ∧ (aCall .destination .connected).role ≠ .transit ∧ (aCall .transit .connected).role = .transit
    ∧ (List.replicate 24 (0 : Byte)).length = 24 := by decide +kernel
/-- The part in a frame past its 64 ticks, with an ORDER frame waiting. -/
def sFrame : State := State.reset.updVu fun u => { u with radio := { u.radio with inFrame := true, frameAge := 64, orders := [orderFrame 7 .wait] } }
/-- The part with every vehicle entry in use. -/
def sCrowd : State := State.reset.updVu fun u => { u with entries := Vector.replicate 16 (some { aVehicle with id := 8 }) }
theorem wit_RadioFrames_known : judgeFrame beacon7 = .inr { id := 7, kind := .diesel, heading := .inbye, echo := 0, methane := none }
    ∧ findVehicle 7 sVehicle = some 0 ∧ sVehicle.vehicle 0 = some aVehicle ∧ aVehicle.first ≠ none
    ∧ ((sAged 63).vu.radio.inFrame = true ∧ 63 ≤ (sAged 63).vu.radio.frameAge) := by decide +kernel
theorem wit_RadioFrames : State.reset.vu.radio.inFrame = false ∧ sFrame.vu.radio.inFrame = true ∧ 64 ≤ sFrame.vu.radio.frameAge
    ∧ sFrame.vu.radio.orders = orderFrame 7 .wait :: [] ∧ judgeFrame [8, 1] = .inl .check
    ∧ judgeFrame beacon7 = .inr { id := 7, kind := .diesel, heading := .inbye, echo := 0, methane := none }
    ∧ findVehicle 7 State.reset = none ∧ State.reset.vehicle 0 = none := by decide +kernel
theorem wit_RadioFrames_full : ∀ i, ∃ v, sCrowd.vehicle i = some v ∧ v.id ≠ 7 := by
  intro i
  refine ⟨{ aVehicle with id := 8 }, ?_, by decide⟩
  revert i; decide +kernel
theorem wit_VehicleTimers :
    (sVehicle.vehicle 0 = some aVehicle ∧ sVehicle.vu.cfg.presence ≤ aVehicle.unheard + 1 ∧ aVehicle.request = .requested
      ∧ 99 ≤ aVehicle.resend ∧ sVehicle.tb.role = .junction ∧ sVehicle.cs.staging = none
      ∧ sVehicle.cs.queues.outbye.signal.length < 16)
    ∧ (sMember.vu.members = [] ++ aMember :: [] ∧ aMember.overdue = false ∧ sMember.vu.cfg.transit ≤ aMember.age + 1) := by decide
theorem wit_VehicleOrdered : (1 ≤ 4095 ∧ 4095 ≤ 4095 ∧ 4095 < 4096) ∧ findVehicle 7 sVehicle = some 0 ∧ sVehicle.vehicle 0 = some aVehicle
    ∧ aVehicle.manualStop = false ∧ (∀ i, State.reset.vehicle i = none)
    ∧ frameGood [56, 9, 3, 0, 7, 2, 0xB3] = true ∧ byteAt [56, 9, 3, 0, 7, 2, 0xB3] 0 = 56 ∧ byteAt [56, 9, 3, 0, 7, 2, 0xB3] 2 = 3
    ∧ 1 < byteAt [56, 9, 3, 0, 7, 2, 0xB3] 5 := by decide +kernel
/-- The part with a section level and a node methane level at the Vehicle Unit, governing or governed. -/
def sRoad (l : SectionLevel) (g : GasLevel) (gov out : Bool) : State :=
  State.reset.updVu fun u => { u with level := l, methane := g, cfg := { u.cfg with governs := gov, outbyeGoverned := out } }
/-- A DIESEL vehicle. -/
def aDiesel : Vehicle := { aVehicle with kind := .diesel }
/-- R152: a vehicle for each of the seven lines, in their order. -/
theorem wit_VehicleOrdered_lines :
    (orderOf (sRoad .evacuate .trip true true) aDiesel, orderOf (sRoad .evacuate .alarm true true) { aDiesel with manualStop := true },
      orderOf (sRoad .evacuate .alarm true false) aDiesel, orderOf (sRoad .alert .alarm true true) { aDiesel with heading := .stopped },
      orderOf (sRoad .alert .trip true true) { aVehicle with heading := .inbye, role := .waiting },
      orderOf (sRoad .alert .alarm true true) { aDiesel with request := .granted }, orderOf (sRoad .normal .normal false false) aVehicle)
      = (.shutdown, .stop, .evacuate, .noEntry, .wait, .proceed, .proceed) := by decide
theorem wit_RoadwayBlock :
    (([0, 1, 2, 0, 0, 0, 0] : Bytes).length = 7 ∧ byteAt [0, 1, 2, 0, 0, 0, 0] 0 ≤ 1 ∧ byteAt [0, 1, 2, 0, 0, 0, 0] 1 ≤ 1
      ∧ sMember.vu.cfg.governs = true ∧ sMember.vu.members ≠ [] ∧ State.reset.vu.members = [] ∧ sMember.tb.role ≠ .head)
    ∧ (1 ≤ wordAt [0x0F, 0xFF, 1] 0 ∧ wordAt [0x0F, 0xFF, 1] 0 ≤ 4095 ∧ State.reset.vu.cfg.governs = false)
    ∧ (let s := State.reset.updVu fun u => { u with cfg := { u.cfg with governs := true } }
       s.vu.cfg.governs = true ∧ s.vu.members = [] ∧ s.vu.waits = [] ∧ s.vu.dir = .free ∧ 0 < convoyInForce s)
    ∧ (findVehicle (wordAt [0, 7] 0) sVehicle = some 0 ∧ aVehicle.request = .requested)
    ∧ (wordAt [1, 0, 7] 1 = 7 ∧ byteAt [1, 0, 7] 0 ≤ 1 ∧ sMember.vu.waits = [] ∧ ∃ m ∈ sMember.vu.members, m.id = 7) := by decide +kernel
theorem wit_NoticePosting :
    (NoticeKind.maskable .trip = false ∧ NoticeKind.maskable .levelChange = true ∧ holdsKind PortState.boot.enabled .levelChange = true
      ∧ holdsKind 0#16 .levelChange = false ∧ coalesces (aNotice .trip) (aNotice .trip) = true)
    ∧ (24 ≤ maskableCount (List.replicate 24 (aNotice .vehicleEvent)) ∧ holdsKind PortState.boot.high .levelChange = true
      ∧ holdsKind PortState.boot.high .tableFull = false ∧ lowNotice PortState.boot (aNotice .vehicleEvent) = true)
    ∧ maskableCount (List.replicate 23 (aNotice .vehicleEvent)) < 24 := by decide +kernel
theorem wit_NoticeTake : State.reset.pi.ports.sp.queue = [] ++ restartNotice :: [] ∧ restartNotice.kind.maskable = false
    ∧ (aNotice .levelChange).kind.maskable = true ∧ holdsKind PortState.boot.high (aNotice .levelChange).kind = true
    ∧ holdsKind PortState.boot.high (aNotice .vehicleEvent).kind = false ∧ PortState.boot.queue = [] := by decide +kernel
theorem wit_SettingsAndReads : (0x7F#8 ++ 0xFF#8 : BitVec 16) ≠ 0#16 ∧ (0x7F#8 ++ 0xFF#8 : BitVec 16).getLsbD 15 = false := by decide
theorem wit_RightsRefused : (List.replicate 32 (0 : Byte)).length ≤ 32 ∧ Source.surface ≠ .sp ∧ Source.surface ≠ .cp
    ∧ Source.cp ≠ .surface ∧ State.reset.tb.role = .junction := by decide
theorem wit_RecordsChecked :
    (32 < byteAt [69, 1, 33] 2 ∧ ([69, 1, 0] : Bytes).length ≠ byteAt [69, 1, 0] 2 + 4 ∧ byteSum [69, 1, 0, 0] ≠ 0)
    ∧ (frameGood [99, 1, 0, 0x9C] = true ∧ 70 < byteAt [99, 1, 0, 0x9C] 0 ∧ frameGood [0, 0, 0, 0] = true)
    ∧ (frameGood [41, 1, 0, 0xD6] = true ∧ byteAt [41, 1, 0, 0xD6] 0 = 41 ∧ frameGood [70, 1, 0, 0xB9] = true
      ∧ frameGood [28, 1, 0, 0xE3] = true ∧ frameGood [3, 1, 0, 0xFC] = true
      ∧ frameGood [33, 1, 4, 0, 2, 0, 20, 0xC4] = true ∧ frameGood [46, 1, 1, 0, 0xD0] = true)
    ∧ (frameGood [68, 1, 1, 1, 0xB9] = true ∧ byteAt [68, 1, 1, 1, 0xB9] 0 = 68 ∧ byteAt [68, 1, 1, 1, 0xB9] 3 = 1
      ∧ frameGood [5, 1, 0, 0xFA] = true ∧ frameGood [47, 1, 0, 0xD0] = true)
    ∧ (head.tb.role = .head ∧ 63 ≠ head.tb.address ∧ (63 : Nat) ≠ 0 ∧ byteAt [69, 1, 0, 0xBA] 2 ≤ 20
      ∧ ((powerOn .head 63 State.reset).tb.role = .head ∧ (powerOn .head 63 State.reset).cs.queues.inbye.signal.length < 16)
      ∧ ([69, 1, 0, 0xBA] : Bytes).length = byteAt [69, 1, 0, 0xBA] 2 + 4 ∧ head.cs.queues.inbye.signal.length < 16
      ∧ 16 ≤ ({ head with cs := sFull.cs }.updCs fun c => { c with queues := ⟨c.queues.inbye, c.queues.outbye⟩ }).cs.queues.inbye.signal.length) := by
  decide +kernel
theorem wit_StepKeepsTrip : TripHeld State.reset := ⟨by decide, by decide, by decide⟩
theorem wit_StepKeepsBuses : BusesLegal State.reset :=
  ⟨⟨by decide, by decide, by decide, by decide⟩, ⟨by decide, by decide, by decide, by decide⟩⟩
theorem wit_StepKeepsCoverage : CoverageKept (sOvr .active) := fun _ => ⟨0, by decide +kernel⟩
theorem wit_StepKeepsCalls : CallsKept (sCall (aCall .destination .connected)) := by
  refine ⟨by decide +kernel, by decide, ?_, ?_⟩
  · intro l; cases l <;> decide +kernel
  · intro h; exact absurd h (by decide)
theorem wit_StepKeepsCalls_refs : RefsOnce (sCall (aCall .destination .connected)) := refsOnce_of_refs (by decide +kernel)
theorem wit_StepKeepsHandOvers : HandedOver sVehicle := ⟨by decide, by decide, by decide⟩
theorem wit_StepKeepsHandOvers_diesel : DieselHeld (sVehicle.updVu fun u => { u with entries := vset u.entries 0 (some aDiesel), methane := .trip }) := by
  unfold DieselHeld; decide +kernel
theorem wit_StepKeepsCapacity : WithinCapacity sFull :=
  ⟨by decide +kernel, by decide +kernel, by decide +kernel, by decide, by decide +kernel, by decide, fun k _ => by cases k <;> decide⟩
theorem wit_StepKeepsDerivation : LevelsDerived sVehicle := ⟨by decide +kernel, by decide +kernel, by decide +kernel⟩

end Sys2Proof.Tests
end

section
/-! PROOFS. The history of a gas channel, the average over its window, and the rise (R68, R69). -/

namespace Sys2Proof.Machine

/-! ## The history (R68) -/

/-- A value joins the newest end, and the values that no longer fit in 8 fall off the oldest. -/
theorem pushHistory_eq_drop (h : List Nat) (v : Nat) : pushHistory h v = (h ++ [v]).drop (h.length + 1 - 8) := by
  unfold pushHistory
  split
  next hroom => rw [Nat.sub_eq_zero_of_le hroom, List.drop_zero]
  next hfull =>
    have hdrop : h.length + 1 - 8 = h.length - 7 := by omega
    rw [hdrop, List.drop_append_of_le_length (Nat.sub_le ..)]

theorem length_pushHistory_le (h : List Nat) (v : Nat) : (pushHistory h v).length ≤ 8 := by
  rw [pushHistory_eq_drop, List.length_drop, List.length_append, List.length_singleton]
  omega

/-! ## The average over the window (R68) -/

theorem averageOf_of_ne_nil {w : Nat} {h : List Nat} (hw : 1 ≤ w) (hne : h ≠ []) :
    averageOf w h = some ((2 * (h.drop (h.length - min w h.length)).sum + min w h.length) / (2 * min w h.length)) := by
  have hlen : 0 < h.length := List.length_pos_of_ne_nil hne
  have hn : min w h.length ≠ 0 := by omega
  simp only [averageOf, if_neg hn]

/-- The newest `n` values, each at most `top`, add up to at most `n * top`. -/
theorem sum_newest_le {h : List Nat} {n top : Nat} (hn : n ≤ h.length) (htop : ∀ v ∈ h, v ≤ top) :
    (h.drop (h.length - n)).sum ≤ n * top := by
  have hle := List.sum_le_card_nsmul (h.drop (h.length - n)) top fun v hv => htop v (List.mem_of_mem_drop hv)
  rwa [List.length_drop, Nat.sub_sub_self hn, smul_eq_mul] at hle

/-- The mean of `n` values with a half rounded up lies no higher than a bound on the values: rounding adds less than one unit. -/
theorem roundedMean_le {n x top : Nat} (hn : 0 < n) (hx : x ≤ n * top) : (2 * x + n) / (2 * n) ≤ top := by
  refine Nat.le_of_lt_succ ((Nat.div_lt_iff_lt_mul (by omega)).2 ?_)
  calc 2 * x + n < 2 * (n * top) + 2 * n := by omega
    _ = (top + 1) * (2 * n) := by ring

/-! ## The rise (R69) -/

theorem riseOf_of_length_lt {k : GasKind} {h : List Nat} (hlt : h.length < 5) : riseOf k h = 0 := if_pos hlt

/-- With five values or more, only the newest and the fifth from the newest end count, in the direction of the kind. -/
theorem riseOf_append_five (k : GasKind) (pre : List Nat) (a b c d e : Nat) :
    riseOf k (pre ++ [a, b, c, d, e]) = if k.rising then (e : Int) - a else (a : Int) - e := by
  have hnewest : (pre ++ [a, b, c, d, e]).getD (pre.length + 4) 0 = e := by simp
  have hfifth : (pre ++ [a, b, c, d, e]).getD pre.length 0 = a := by simp
  have hlen : (pre ++ [a, b, c, d, e]).length = pre.length + 5 := by simp
  simp only [riseOf, hlen, Nat.add_sub_cancel, Nat.reduceSubDiff, hnewest, hfifth, neg_sub]
  exact if_neg (by omega)

theorem riseCondition_iff (limit : Nat) (rise : Int) :
    riseCondition limit rise = true ↔ limit ≠ 0 ∧ (limit : Int) ≤ rise := by
  simp [riseCondition]

/-! ## A reading (R68, R69) -/

@[simp] theorem Channel.returned_of_ok {c : Channel} (hok : c.status = .ok) : c.returned = c := if_pos hok

/-- A reading extends the history that the channel keeps on its return to OK. -/
theorem Channel.read_history (c : Channel) (f : ChannelConfig) (mobile : Bool) (v : Calibrated) (sat : Bool) (now : Stamp) :
    (c.read f mobile v sat now).history = pushHistory c.returned.history v.value := rfl

/-- The average and the rise of a reading are those of the history it leaves. -/
theorem Channel.read_average (c : Channel) (f : ChannelConfig) (mobile : Bool) (v : Calibrated) (sat : Bool) (now : Stamp) :
    (c.read f mobile v sat now).average = averageOf f.window (c.read f mobile v sat now).history := rfl

theorem Channel.read_rise (c : Channel) (f : ChannelConfig) (mobile : Bool) (v : Calibrated) (sat : Bool) (now : Stamp) :
    (c.read f mobile v sat now).rise = riseOf f.kind (c.read f mobile v sat now).history := rfl

/-- Settles O23: a clause for each stage of a reading, each from the lemma on its function. -/
theorem averageAndRise : Obligations.AverageAndRise := by
  refine ⟨?reading, fun h v _ => ⟨pushHistory_eq_drop h v, length_pushHistory_le h v⟩, ?average,
    fun _ _ hlt => riseOf_of_length_lt hlt, ?rise, riseCondition_iff⟩
  case reading =>
    intro c f mobile v sat now hok
    rw [Channel.read_average, Channel.read_rise, Channel.read_history, Channel.returned_of_ok hok]
    exact ⟨rfl, rfl, rfl⟩
  case average =>
    rintro w h n x hw hne rfl rfl
    have hlen : 0 < h.length := List.length_pos_of_ne_nil hne
    exact ⟨averageOf_of_ne_nil hw hne, fun top htop =>
      roundedMean_le (Nat.lt_min.2 ⟨hw, hlen⟩) (sum_newest_le (Nat.min_le_right ..) htop)⟩
  case rise =>
    intro k pre a b c d e
    rw [riseOf_append_five]
    exact ⟨fun hrising => if_pos hrising, fun hfalling => if_neg (by simp [hfalling])⟩

end Sys2Proof.Machine
end

section
/-! PROOFS. The announcement of an ALERT and its silencing by the CP (R112, R113). -/

namespace Sys2Proof.Machine

/-! ## Commands refused, and commands without parameters (R166, R171) -/

/-- R171: a command without its right, and parameters a record can carry. -/
theorem command_denied (src : Source) (tag : Byte) (params : Bytes) (body : State → State × Answer) (s : State)
    (h : params.length ≤ 32) : command src tag params false body s = respond src tag (refused .denied) s := by
  simp [command, Nat.not_lt.mpr h]

@[simp] theorem sized_zero_nil (body : Body) : sized 0 [] body = body := rfl

@[simp] theorem cpOnly_of_ne {src : Source} (h : src ≠ .cp) : cpOnly src = false := decide_eq_false h

/-! ## The sounder and the announcement count (R112) -/

theorem AlarmUnit.sounding_of_alert {a : AlarmUnit} (h : a.level = .alert) : a.sounding = decide (0 < a.announce) := by
  simp only [sounding, h]

theorem AlarmUnit.sounding_of_evacuate {a : AlarmUnit} (h : a.level = .evacuate) : a.sounding = true := by
  simp only [sounding, h]

/-- The sounder is silent when its table gives silence, whatever the pulse count. -/
theorem State.sounder_of_not_sounding {s : State} (h : s.sau.sounding = false) : s.sounder = false := by
  simp [sounder, h]

@[simp] theorem AlarmUnit.enterLevel_level (a : AlarmUnit) (l : SectionLevel) : (a.enterLevel l).level = l := rfl

@[simp] theorem AlarmUnit.enterLevel_announce (a : AlarmUnit) (l : SectionLevel) :
    (a.enterLevel l).announce = if l = .alert then Config.announcementRounds else 0 := rfl

@[simp] theorem AlarmUnit.round_announce (a : AlarmUnit) : a.round.announce = a.announce - 1 := by
  simp only [round]; split <;> rfl

@[simp] theorem AlarmUnit.round_level (a : AlarmUnit) : a.round.level = a.level := by
  simp only [round]; split <;> rfl

/-! ## SOUNDER_SILENCE (R113) -/

/-- The announcement count at 0, everything else as it was. -/
def silenceSounder (s : State) : State := s.updSau fun a => { a with announce := 0 }

theorem silenceSounder_eq (s : State) : silenceSounder s = { s with sau := { s.sau with announce := 0 } } := rfl

theorem sounder_silenceSounder {s : State} (h : s.sau.level = .alert) : (silenceSounder s).sounder = false :=
  State.sounder_of_not_sounding (AlarmUnit.sounding_of_alert h)

theorem exec_sounderSilence (src : Source) (tag : Byte) (params : Bytes) (s : State) :
    exec (.sounderSilence src tag params) s = .next (doSounderSilence src tag params s) := rfl

theorem doSounderSilence_of_alert (tag : Byte) {s : State} (h : s.sau.level = .alert) :
    doSounderSilence .cp tag [] s = respond .cp tag (done [byteOf s.sau.announce]) (silenceSounder s) := by
  rw [doSounderSilence, sized_zero_nil]
  refine (command_right _ _ _ _ _ (Nat.zero_le _)).trans ?_
  rw [if_pos h]; rfl

theorem doSounderSilence_of_not_alert (tag : Byte) {s : State} (h : s.sau.level ≠ .alert) :
    doSounderSilence .cp tag [] s = respond .cp tag (refused .wrongState) s := by
  rw [doSounderSilence, sized_zero_nil]
  refine (command_right _ _ _ _ _ (Nat.zero_le _)).trans ?_
  rw [if_neg h]; rfl

theorem doSounderSilence_of_not_cp {src : Source} (tag : Byte) (s : State) (h : src ≠ .cp) :
    doSounderSilence src tag [] s = respond src tag (refused .denied) s := by
  rw [doSounderSilence, cpOnly_of_ne h]
  exact command_denied _ _ _ _ _ (Nat.zero_le _)

/-- Settles O35: the three outcomes of the command, then the round and the entries from the lemmas on the alarm unit. -/
theorem sounderSilenced : Obligations.SounderSilenced := by
  refine ⟨?alert, ?elsewhere, ?round, ?entry, ?denied⟩
  case alert =>
    intro tag s h
    refine ⟨silenceSounder s, ?_, silenceSounder_eq s, sounder_silenceSounder h⟩
    rw [Goes, exec_sounderSilence, doSounderSilence_of_alert tag h]
  case elsewhere =>
    intro tag s h
    rw [Goes, exec_sounderSilence, doSounderSilence_of_not_alert tag h]
  case round =>
    intro a h
    exact ⟨by rw [AlarmUnit.round_announce, h], a.round_level⟩
  case entry =>
    intro a
    have hcount : (a.enterLevel .alert).announce = 100 := a.enterLevel_announce .alert
    refine ⟨hcount, ?_, AlarmUnit.sounding_of_evacuate (a.enterLevel_level .evacuate)⟩
    rw [AlarmUnit.sounding_of_alert (a.enterLevel_level .alert), hcount]; rfl
  case denied =>
    intro src tag s h
    rw [Goes, exec_sounderSilence, doSounderSilence_of_not_cp tag s h]

end Sys2Proof.Machine
end

section
/-! PROOFS. The reset-cause record, and what IDENT_READ returns (R84, R178, R179). -/

namespace Sys2Proof.Machine

/-! ## Cells built at this node (R23, R34) -/

theorem sendTo_of_ownDest {kind dst : Nat} {payload : Bytes} {s : State} (hown : ownDest dst s = true)
    (htaken : reserveRefuses (buildCell kind dst payload s) s = false) :
    sendTo kind dst payload s = deliver none (buildCell kind dst payload s) s := by
  simp [sendTo, hown, htaken]

theorem sendTo_of_not_ownDest {kind dst : Nat} {payload : Bytes} {s : State} (hown : ownDest dst s = false) :
    sendTo kind dst payload s = placeCell (onwardLine dst s) (buildCell kind dst payload s) s := by
  simp [sendTo, hown]

/-- A cell delivered to an empty queue posts DELIVERY_WAITING to the port that takes from it. -/
theorem deliver_of_empty {from? : Option Line} {c : Cell} {s : State} (hempty : deliveryQueue (safetyKind c.kind) s = []) :
    deliver from? c s = post (if safetyKind c.kind then .sp else .cp) .deliveryWaiting []
      (setDeliveryQueue (safetyKind c.kind) [c] s) := by
  simp [deliver, hempty, Config.deliveryCapacity]

/-- A SIGNAL cell placed outside a round start, with room in its queue, joins the queue and latches nothing. -/
theorem placeCell_of_signal_room {l : Line} {c : Cell} {s : State} (hstaging : s.cs.staging = none)
    (hclass : c.classOf = .signal) (hroom : (s.cs.queues.get l).signal.length < Config.signalCapacity) :
    placeCell l c s = s.updQueues l fun q => { q with signal := q.signal ++ [c] } := by
  simp [placeCell, hstaging, joinLocal, reserveRefuses, hclass, joinQueue, hroom]

/-! ## The restart trip (R84) -/

theorem sendTripReport_reports (flags : Nat) (s : State) : Reports s (sendTripReport flags s) := sendTo_reports ..

@[simp] theorem State.updPort_now (p : Port) (f : PortState → PortState) (s : State) : (s.updPort p f).now = s.now := rfl

/-- A port with the TRIP notice of the restart as its only one. -/
def trippedPort : PortState := { PortState.boot with queue := [restartNotice] }

theorem post_restartNotice_boot : PortState.boot.post restartNotice = trippedPort := by decide

/-- With the restart trip captured at stamp 0, the TRIP notice posted is the one of the restart. -/
theorem postTrip_of_restart {s : State} (hlatch : s.tu.latch = true) (hrecord : s.tu.record = some restartRecord)
    (hstamp : s.tb.tripStamp = some { round := 0, tick := 0 }) (hnow : s.now = { round := 0, tick := 0 }) :
    postTrip s = (s.updPort .sp (PortState.post restartNotice)).updPort .cp (PortState.post restartNotice) := by
  rw [postTrip, recordOf, hlatch, hrecord, hstamp, postBoth, post, post, State.updPort_now, hnow]; rfl

/-- The blocks at their reset values and the restart trip captured, nothing reported yet. -/
def latchedBoot (role : Role) (straps : Nat) (powerOn external : Bool) (pending : List Instr) : State :=
  { bootState role straps powerOn external pending with
    tu := { TripUnit.boot with latch := true, record := some restartRecord } }

/-- The restart trip captured and its notices posted, its TRIP_REPORT not yet built. -/
def trippedBoot (role : Role) (straps : Nat) (powerOn external : Bool) (pending : List Instr) : State :=
  { latchedBoot role straps powerOn external pending with
    pi := { ports := ⟨trippedPort, trippedPort⟩, powerOn := powerOn, external := external } }

/-- What the ports hold after a reset: a node that reports to itself finds the report waiting for the SP. -/
def restartPorts (role : Role) (straps : Nat) : PerPort PortState :=
  if straps = 0 ∨ role = .head then
    ⟨trippedPort.post { kind := .deliveryWaiting, stamp := { round := 0, tick := 0 }, data := noticeData [] }, trippedPort⟩
  else ⟨trippedPort, trippedPort⟩

section
variable (role : Role) (straps : Nat) (powerOn external : Bool) (pending : List Instr)

/-- No channel is configured after a reset, so none votes. -/
theorem gasVote_bootState (i : Fin 16) : gasVote (bootState role straps powerOn external pending) i = false := by
  have hcfg : ((bootState role straps powerOn external pending).channel i).cfg = none := by
    simp [State.channel, bootState, GasUnit.boot, Channel.reset]
  simp [gasVote, votes, hcfg]

theorem find_gasVote_bootState :
    allChannels.find? (gasVote (bootState role straps powerOn external pending)) = none :=
  List.find?_eq_none.2 fun i _ => by simp [gasVote_bootState]

theorem postTrip_latchedBoot : postTrip (latchedBoot role straps powerOn external pending)
    = trippedBoot role straps powerOn external pending := by
  rw [postTrip_of_restart rfl rfl rfl rfl, trippedBoot, ← post_restartNotice_boot]; rfl

theorem restart_bootState : restart (bootState role straps powerOn external pending)
    = sendTripReport 1 (trippedBoot role straps powerOn external pending) := by
  have hcapture : restart (bootState role straps powerOn external pending)
      = sendTripReport 1 (postTrip (latchedBoot role straps powerOn external pending)) := by
    simp only [restart, captureTrip, find_gasVote_bootState]; rfl
  rw [hcapture, postTrip_latchedBoot]

theorem ownDest_zero_trippedBoot :
    ownDest 0 (trippedBoot role straps powerOn external pending) = true ↔ straps = 0 ∨ role = .head := by
  rw [ownDest_iff]
  simp [trippedBoot, latchedBoot, bootState, TimeBase.boot, eq_comm]

/-- The ports after a reset follow from role and straps alone. -/
theorem restart_bootState_ports :
    (restart (bootState role straps powerOn external pending)).pi.ports = restartPorts role straps := by
  have hiff := ownDest_zero_trippedBoot role straps powerOn external pending
  rw [restart_bootState, sendTripReport, restartPorts]
  by_cases hself : straps = 0 ∨ role = .head
  · rw [if_pos hself, sendTo_of_ownDest (hiff.2 hself) rfl, deliver_of_empty rfl]; rfl
  · rw [if_neg hself, sendTo_of_not_ownDest (Bool.eq_false_iff.2 (mt hiff.1 hself)), placeCell_of_signal_room rfl rfl ?room]
    · rfl
    case room => cases onwardLine .. <;> exact Nat.zero_lt_succ _

/-- The restart trip reports and leaves the reset-cause record as the reset set it. -/
theorem restart_bootState_pi : (restart (bootState role straps powerOn external pending)).pi
    = { ports := restartPorts role straps, powerOn := powerOn, external := external } := by
  have hkept := (sendTripReport_reports 1 (trippedBoot role straps powerOn external pending)).pi.1
  rw [← restart_bootState_ports role straps powerOn external pending, restart_bootState]
  exact hkept

end

theorem powerOn_pi (role : Role) (straps : Nat) (s : State) : (powerOn role straps s).pi
    = { ports := restartPorts role straps, powerOn := true, external := false } := restart_bootState_pi ..

theorem externalReset_pi (role : Role) (straps : Nat) (s : State) : (externalReset role straps s).pi
    = { ports := restartPorts role straps, powerOn := s.pi.powerOn, external := true } := restart_bootState_pi ..

theorem exec_powerOnReset (role : Role) (straps : Nat) (s : State) :
    exec (.powerOnReset role straps) s = .next (powerOn role straps s) := rfl

theorem exec_externalReset (role : Role) (straps : Nat) (s : State) :
    exec (.externalReset role straps) s = .next (externalReset role straps s) := rfl

/-! ## STATUS_READ with the clear option (R177) -/

/-- A response touches the Port Interface at most in its ports. -/
theorem respond_pi (src : Source) (tag : Byte) (a : Answer) (s : State) :
    (respond src tag a s).pi = { s.pi with ports := (respond src tag a s).pi.ports } := by
  cases src with
  | sp => rfl
  | cp => rfl
  | surface => exact (sendTo_reports ..).pi.1

theorem portCommand_portSource (p : Port) (tag : Byte) (params : Bytes) (body : Port → Body) (s : State) :
    portCommand (portSource p) tag params body s = command (portSource p) tag params true (body p) s := by
  cases p <;> rfl

theorem exec_statusReadClear (src : Source) (tag : Byte) (page : Nat) (s : State) :
    exec (.statusReadClear src tag page) s = .next (doStatusReadClear src tag page s) := rfl

theorem doStatusReadClear_page_zero (p : Port) (tag : Byte) (s : State) :
    doStatusReadClear (portSource p) tag 0 s
      = respond (portSource p) tag (done (pageOf (portSource p) 0 (statusBytes (portSource p) s))) (clearStatus p s) := by
  rw [doStatusReadClear, portCommand_portSource, command_right _ _ _ _ _ (Nat.zero_le _), if_pos rfl]

theorem clearStatus_powerOn (p : Port) (s : State) : (clearStatus p s).pi.powerOn = false := rfl

theorem clearStatus_external (p : Port) (s : State) : (clearStatus p s).pi.external = false := rfl

/-- Settles O3: each reset by the Port Interface it leaves, the clear option by the response keeping the cleared record. -/
theorem resetCause : Obligations.ResetCause := by
  intro role straps s
  refine ⟨⟨_, exec_powerOnReset role straps s, ?_⟩, ⟨_, exec_externalReset role straps s, ?_⟩, ?clear, ?ports⟩
  · rw [powerOn_pi]; exact ⟨rfl, rfl⟩
  · rw [externalReset_pi]; exact ⟨rfl, rfl⟩
  case clear =>
    intro p tag
    refine ⟨_, exec_statusReadClear (portSource p) tag 0 s, ?_⟩
    rw [doStatusReadClear_page_zero, respond_pi]
    exact ⟨clearStatus_powerOn p s, clearStatus_external p s⟩
  case ports =>
    intro s'
    refine ⟨_, _, exec_externalReset role straps s, exec_externalReset role straps s', ?_⟩
    rw [externalReset_pi, externalReset_pi]

/-! ## IDENT_READ (R179) -/

theorem identBytes_eq (s : State) : identBytes s
    = [0x0F#8, 0x3A#8, byteOf (4320 / 256), byteOf 4320, 1#8, byteOf s.tb.role.code, byteOf s.tb.address] := rfl

theorem exec_identRead (src : Source) (tag : Byte) (params : Bytes) (s : State) :
    exec (.identRead src tag params) s = .next (doIdentRead src tag params s) := rfl

theorem doIdentRead_nil (src : Source) (tag : Byte) (s : State) :
    doIdentRead src tag [] s = respond src tag (done (identBytes s)) s := by
  rw [doIdentRead, sized_zero_nil, command_right _ _ _ _ _ (Nat.zero_le _)]

/-- Settles O50: every source holds the right, and the role's code is the byte of the record. -/
theorem identRead : Obligations.IdentRead := by
  intro src tag s
  rw [Goes, exec_identRead, doIdentRead_nil, identBytes_eq]
  cases s.tb.role <;> rfl

end Sys2Proof.Machine
end

section
/-! PROOFS. What an operation may touch, part by part of the state, and which of the invariants of Safety.lean it keeps. -/

namespace Sys2Proof.Machine

-- Declarations are elaborated one after another: in a text of this length the threads of many at once would not fit the memory limit.
set_option Elab.async false

/-! ## Parts of the state -/

/-- The parts of the state that operations touch apart from one another, block by block. -/
inductive Part
  | node | clock | trunk | epoch | tripStamp | refugeStamps
  | cells | inds | line | flow | flowConf | remote | csMode | sent
  | buses | told
  | channels | judged | chanCfg | nodeMethane | gcuMode
  | trip | sup | ovr | supply | supplyMode | supplyConf
  | causes | latch | level | inputs | holders | covered | called | refuges | refugeHeads | outputs | alarmTold
  | calls | budget | ctuMode | ctuLevel
  | vehicles | tableFull | vuLevel | vuMethane | radio | roadCfg | road
  | notices | portConf | slots | resetCause | pending
deriving DecidableEq

/-- A line status without its six latched indications. -/
def LineStatus.plain (st : LineStatus) : LineStatus :=
  { st with carrierLost := false, crcErrors := false, signalLost := false, dataDropped := false, holdReceived := false,
            deliveryOverflow := false }

/-- Two states agree on a part. -/
def Part.same (s t : State) : Part → Prop
  | .node => (t.tb.role, t.tb.address, t.tb.addressInvalid, t.tb.params)
      = (s.tb.role, s.tb.address, s.tb.addressInvalid, s.tb.params)
  | .clock => (t.tb.running, t.tb.tick, t.tb.phaseAge, t.tb.lateUntil) = (s.tb.running, s.tb.tick, s.tb.phaseAge, s.tb.lateUntil)
  | .trunk => (t.tb.trunk, t.tb.lead, t.tb.flags, t.tb.joinCnt, t.tb.runLead, t.tb.holdoverCnt, t.tb.quietCnt, t.tb.listenAge,
        t.tb.candidate, t.tb.rejoin, t.tb.pendingCmd)
      = (s.tb.trunk, s.tb.lead, s.tb.flags, s.tb.joinCnt, s.tb.runLead, s.tb.holdoverCnt, s.tb.quietCnt, s.tb.listenAge,
        s.tb.candidate, s.tb.rejoin, s.tb.pendingCmd)
  | .epoch => t.tb.epoch = s.tb.epoch
  | .tripStamp => t.tb.tripStamp = s.tb.tripStamp
  | .refugeStamps => t.tb.refugeStamps = s.tb.refugeStamps
  | .cells => (t.cs.queues, t.cs.staging, t.cs.safetyQ, t.cs.generalQ) = (s.cs.queues, s.cs.staging, s.cs.safetyQ, s.cs.generalQ)
  | .inds => (t.cs.status.outbye.latched, t.cs.status.inbye.latched) = (s.cs.status.outbye.latched, s.cs.status.inbye.latched)
  | .line => (t.cs.status.outbye.plain, t.cs.status.inbye.plain) = (s.cs.status.outbye.plain, s.cs.status.inbye.plain)
  | .flow => (t.cs.holding, t.cs.announce, t.cs.held) = (s.cs.holding, s.cs.announce, s.cs.held)
  | .flowConf => (t.cs.dropSet, t.cs.holdParams) = (s.cs.dropSet, s.cs.holdParams)
  | .remote => t.cs.remote = s.cs.remote
  | .csMode => t.cs.supplyMode = s.cs.supplyMode
  | .sent => t.cs.sent = s.cs.sent
  | .buses => ({ t.sbm.one with modeTold := .mains }, { t.sbm.two with modeTold := .mains })
      = (({ s.sbm.one with modeTold := .mains }, { s.sbm.two with modeTold := .mains }) : BusMaster × BusMaster)
  | .told => (t.sbm.one.modeTold, t.sbm.two.modeTold) = (s.sbm.one.modeTold, s.sbm.two.modeTold)
  | .channels => t.gcu.channels = s.gcu.channels
  | .judged => (fun i => ((t.channel i).level, (t.channel i).status)) = fun i => ((s.channel i).level, (s.channel i).status)
  | .chanCfg => (fun i => ((t.channel i).cfg, (t.channel i).enabled)) = fun i => ((s.channel i).cfg, (s.channel i).enabled)
  | .nodeMethane => t.gcu.nodeMethane = s.gcu.nodeMethane
  | .gcuMode => t.gcu.supplyMode = s.gcu.supplyMode
  | .trip => (t.tu.causes, t.tu.latch, t.tu.record) = (s.tu.causes, s.tu.latch, s.tu.record)
  | .sup => t.tu.sup = s.tu.sup
  | .ovr => t.tu.ovr = s.tu.ovr
  | .supply => t.tu.supply = s.tu.supply
  | .supplyMode => t.tu.supply.mode = s.tu.supply.mode
  | .supplyConf => (t.tu.supply.enter, t.tu.supply.leave) = (s.tu.supply.enter, s.tu.supply.leave)
  | .causes => t.sau.causes = s.sau.causes
  | .latch => t.sau.latch = s.sau.latch
  | .level => t.sau.level = s.sau.level
  | .inputs => t.sau.inputs = s.sau.inputs
  | .holders => (t.sau.holders, t.sau.supLate) = (s.sau.holders, s.sau.supLate)
  | .covered => t.sau.covered = s.sau.covered
  | .called => (fun r => (t.refuge r).called) = fun r => (s.refuge r).called
  | .refuges => t.sau.refuges = s.sau.refuges
  | .refugeHeads => (fun r => (t.refuge r).head) = fun r => (s.refuge r).head
  | .outputs => (t.sau.sentInbye, t.sau.sentOutbye, t.sau.announce, t.sau.pulse, t.sau.modeInUse)
      = (s.sau.sentInbye, s.sau.sentOutbye, s.sau.announce, s.sau.pulse, s.sau.modeInUse)
  | .alarmTold => t.sau.modeTold = s.sau.modeTold
  | .calls => (t.ctu.entries, t.ctu.recency) = (s.ctu.entries, s.ctu.recency)
  | .budget => t.ctu.budgetSet = s.ctu.budgetSet
  | .ctuMode => t.ctu.supplyMode = s.ctu.supplyMode
  | .ctuLevel => t.ctu.level = s.ctu.level
  | .vehicles => t.vu.entries = s.vu.entries
  | .tableFull => t.vu.tableFull = s.vu.tableFull
  | .vuLevel => t.vu.level = s.vu.level
  | .vuMethane => t.vu.methane = s.vu.methane
  | .radio => t.vu.radio = s.vu.radio
  | .roadCfg => t.vu.cfg = s.vu.cfg
  | .road => (t.vu.dir, t.vu.members, t.vu.waits) = (s.vu.dir, s.vu.members, s.vu.waits)
  | .notices => (t.pi.ports.sp.queue, t.pi.ports.sp.noticeOverflow, t.pi.ports.cp.queue, t.pi.ports.cp.noticeOverflow)
      = (s.pi.ports.sp.queue, s.pi.ports.sp.noticeOverflow, s.pi.ports.cp.queue, s.pi.ports.cp.noticeOverflow)
  | .portConf => (t.pi.ports.sp.enabled, t.pi.ports.sp.high, t.pi.ports.cp.enabled, t.pi.ports.cp.high)
      = (s.pi.ports.sp.enabled, s.pi.ports.sp.high, s.pi.ports.cp.enabled, s.pi.ports.cp.high)
  | .slots => (({ t.pi.ports.sp with queue := [], noticeOverflow := false, enabled := 0, high := 0 } : PortState),
        ({ t.pi.ports.cp with queue := [], noticeOverflow := false, enabled := 0, high := 0 } : PortState))
      = (({ s.pi.ports.sp with queue := [], noticeOverflow := false, enabled := 0, high := 0 } : PortState),
        ({ s.pi.ports.cp with queue := [], noticeOverflow := false, enabled := 0, high := 0 } : PortState))
  | .resetCause => (t.pi.powerOn, t.pi.external) = (s.pi.powerOn, s.pi.external)
  | .pending => t.pending = s.pending

theorem Part.same_refl (s : State) (p : Part) : p.same s s := by cases p <;> rfl

theorem Part.same_trans {s t u : State} {p : Part} (h : p.same s t) (k : p.same t u) : p.same s u := by
  cases p <;> exact Eq.trans k h

/-! ## The invariants, one by one -/

/-- The invariants of Safety.lean, taken apart: `HandedOver` into levels, modes and methane, `DieselHeld` by vehicle entry,
`LevelsDerived` into its three equations. -/
inductive Law
  | tripHeld | buses | coverage | calls | refs | levels | modes | methane | diesel (i : Fin 16) | capacity
  | tripDerived | alarmDerived | levelDerived
deriving DecidableEq

/-- R153 for one vehicle entry. -/
def DieselEntry (i : Fin 16) (s : State) : Prop :=
  ∀ v : Vehicle, s.vehicle i = some v → v.kind = .diesel →
    (s.vu.methane = .trip → v.order ≠ .proceed ∧ v.order ≠ .evacuate)
    ∧ (s.vu.methane = .alarm → v.heading ≠ .outbye → v.order ≠ .proceed)

/-- R108: the section level is held alike. -/
def LevelsAlike (s : State) : Prop := s.ctu.level = s.sau.level ∧ s.vu.level = s.sau.level

/-- R101: the supply mode is held alike. -/
def ModesAlike (s : State) : Prop :=
  s.cs.supplyMode = s.tu.supply.mode ∧ s.gcu.supplyMode = s.tu.supply.mode ∧ s.ctu.supplyMode = s.tu.supply.mode
    ∧ s.sau.modeTold = s.tu.supply.mode ∧ s.sbm.one.modeTold = s.tu.supply.mode ∧ s.sbm.two.modeTold = s.tu.supply.mode

/-- A state meets an invariant. -/
def Law.holds (s : State) : Law → Prop
  | .tripHeld => TripHeld s
  | .buses => BusesLegal s
  | .coverage => CoverageKept s
  | .calls => CallsKept s
  | .refs => RefsOnce s
  | .levels => LevelsAlike s
  | .modes => ModesAlike s
  | .methane => s.vu.methane = s.gcu.nodeMethane
  | .diesel i => DieselEntry i s
  | .capacity => WithinCapacity s
  | .tripDerived => s.tu.causes = computeCauses s
  | .alarmDerived => s.sau.causes = localCausesOf s
  | .levelDerived => s.sau.level = levelOf s

/-- The parts an invariant speaks of. -/
def Law.parts : Law → List Part
  | .tripHeld => [.trip, .tripStamp]
  | .buses => [.buses]
  | .coverage => [.ovr, .chanCfg]
  | .calls => [.calls, .budget, .ctuMode, .ctuLevel]
  | .refs => [.calls]
  | .levels => [.ctuLevel, .vuLevel, .level]
  | .modes => [.csMode, .gcuMode, .ctuMode, .alarmTold, .told, .supplyMode]
  | .methane => [.vuMethane, .nodeMethane]
  | .diesel _ => [.vehicles, .vuMethane]
  | .capacity => [.cells, .notices, .road, .roadCfg]
  | .tripDerived => [.trip, .judged, .chanCfg, .ovr, .sup, .supplyMode]
  | .alarmDerived => [.causes, .inputs, .holders, .covered, .called]
  | .levelDerived => [.causes, .latch, .level, .remote]

section
variable {s t : State}

theorem computeCauses_congr (hj : Part.judged.same s t) (hc : Part.chanCfg.same s t) (ho : Part.ovr.same s t)
    (hs : Part.sup.same s t) (hm : Part.supplyMode.same s t) : computeCauses t = computeCauses s := by
  have hj' (i : Fin 16) : (t.channel i).level = (s.channel i).level ∧ (t.channel i).status = (s.channel i).status :=
    Prod.mk.inj (congrFun hj i)
  have hc' (i : Fin 16) : (t.channel i).cfg = (s.channel i).cfg ∧ (t.channel i).enabled = (s.channel i).enabled :=
    Prod.mk.inj (congrFun hc i)
  have ho' : t.tu.ovr = s.tu.ovr := ho
  have hs' : t.tu.sup = s.tu.sup := hs
  have hm' : t.tu.supply.mode = s.tu.supply.mode := hm
  have hg : gasVote t = gasVote s := by
    funext i; simp only [gasVote, votes, isCovered, coveredSet, hj', hc', ho']
  have hf : faultVote t = faultVote s := by
    funext i; simp only [faultVote, votes, isCovered, coveredSet, hj', hc', ho']
  simp only [computeCauses, hg, hf, hs', hm']

theorem localCausesOf_congr (hi : Part.inputs.same s t) (hh : Part.holders.same s t) (hc : Part.covered.same s t)
    (hr : Part.called.same s t) :
    localCausesOf t = localCausesOf s := by
  simp only [Part.same, Prod.mk.injEq] at hi hh hc hr
  obtain ⟨hh, hl⟩ := hh
  have hr' (r : Fin 4) : (t.refuge r).called = (s.refuge r).called := congrFun hr r
  simp only [localCausesOf, anyCounting, inputCounts, hi, hh, hl, hc, hr']

theorem levelOf_congr (hc : Part.causes.same s t) (hl : Part.latch.same s t) (hr : Part.remote.same s t) :
    levelOf t = levelOf s := by
  simp only [Part.same] at hc hl hr
  simp only [levelOf, levelInbye, hc, hl, hr]

/-- An invariant whose parts are as they were holds as it did. -/
theorem Law.holds_congr (l : Law) (h : ∀ p ∈ l.parts, p.same s t) (hs : l.holds s) : l.holds t := by
  cases l <;> simp only [Law.parts, List.forall_mem_cons, List.not_mem_nil, false_implies, implies_true, and_true] at h
  case tripHeld =>
    obtain ⟨ht, hst⟩ := h
    simp only [Part.same, Prod.mk.injEq] at ht hst
    obtain ⟨hc, hl, hr⟩ := ht
    exact ⟨by rw [hc, hl]; exact hs.causes, by rw [hr, hl]; exact hs.record, by rw [hst, hl]; exact hs.stamp⟩
  case buses =>
    simp only [Part.same, Prod.mk.injEq, BusMaster.mk.injEq] at h
    obtain ⟨⟨h1, h2, h3, h4, h5, -⟩, k1, k2, k3, k4, k5, -⟩ := h
    obtain ⟨⟨a1, a2, a3, a4⟩, b1, b2, b3, b4⟩ := hs
    exact ⟨⟨by rwa [h4], by rwa [h5], by rwa [h1, h3], by rwa [h1, h2]⟩,
      ⟨by rwa [k4], by rwa [k5], by rwa [k1, k3], by rwa [k1, k2]⟩⟩
  case coverage =>
    obtain ⟨ho, hc⟩ := h
    have ho' : t.tu.ovr = s.tu.ovr := ho
    intro hn
    obtain ⟨i, hi⟩ := hs (ho' ▸ hn)
    obtain ⟨h1, h2⟩ := Prod.mk.inj (congrFun hc i)
    exact ⟨i, by simpa only [uncoveredVoter, h1, h2, ho'] using hi⟩
  case calls =>
    obtain ⟨hc, hb, hm, hl⟩ := h
    simp only [Part.same, Prod.mk.injEq] at hc hb hm hl
    have hcall (i : Fin 12) : t.call i = s.call i := by rw [State.call, hc.1]; rfl
    refine ⟨fun i => by rw [hc.2, hcall]; exact hs.recency i, by rw [hc.2]; exact hs.once, fun l => ?_, ?_⟩
    · have hu : entryUses t l = entryUses s l := by funext i; simp only [entryUses, hcall]
      simpa only [reservations, budgetInForce, hu, hb, hm] using hs.budget l
    · intro he i e hi
      exact hs.routine (hl ▸ he) i e (hcall i ▸ hi)
  case refs =>
    have hcall (i : Fin 12) : t.call i = s.call i := by rw [State.call, (Prod.mk.inj h).1]; rfl
    intro i j e f hi hj
    exact hs i j e f (hcall i ▸ hi) (hcall j ▸ hj)
  case levels =>
    simp only [Part.same] at h
    obtain ⟨h1, h2, h3⟩ := h
    simpa only [Law.holds, LevelsAlike, h1, h2, h3] using hs
  case modes =>
    simp only [Part.same, Prod.mk.injEq] at h
    obtain ⟨h1, h2, h3, h4, ⟨h5, h6⟩, h7⟩ := h
    simpa only [Law.holds, ModesAlike, h1, h2, h3, h4, h5, h6, h7] using hs
  case methane =>
    simp only [Part.same] at h
    simpa only [Law.holds, h.1, h.2] using hs
  case diesel i =>
    simp only [Part.same] at h
    simpa only [Law.holds, DieselEntry, State.vehicle, h.1, h.2] using hs
  case capacity =>
    simp only [Part.same, Prod.mk.injEq] at h
    obtain ⟨⟨q, -, sq, gq⟩, ⟨n1, -, n2, -⟩, ⟨-, m, w⟩, c⟩ := h
    exact ⟨by rw [q]; exact hs.signal, by rw [q]; exact hs.data, by rw [sq, gq]; exact hs.delivery, by rw [w]; exact hs.waits,
      by rw [n1, n2]; exact hs.notices, by rw [m, c]; exact hs.members, by rw [n1, n2]; exact hs.unmaskable⟩
  case tripDerived =>
    obtain ⟨ht, hj, hc, ho, hsu, hm⟩ := h
    exact (Prod.mk.inj ht).1.trans (hs.trans (computeCauses_congr hj hc ho hsu hm).symm)
  case alarmDerived =>
    obtain ⟨hc, hi, hh, hv, hr⟩ := h
    exact Eq.trans hc (hs.trans (localCausesOf_congr hi hh hv hr).symm)
  case levelDerived =>
    obtain ⟨hc, hl, hv, hr⟩ := h
    exact Eq.trans hv (hs.trans (levelOf_congr hc hl hr).symm)

end

/-! ## Effects -/

/-- From `s` to `t` nothing but the listed parts may have changed, and every invariant but the listed ones is kept. -/
structure Effect (ps : List Part) (lost : List Law) (s t : State) : Prop where
  same : ∀ p, p ∉ ps → p.same s t
  keeps : ∀ l, l ∉ lost → l.holds s → l.holds t

/-- Whether an invariant that is not given up speaks of a part that may change. -/
def Law.due (ps : List Part) (lost : List Law) (l : Law) : Bool := l.parts.any ps.contains && !lost.contains l

theorem Law.due_of_mem {ps : List Part} {lost : List Law} {l : Law} (h : l ∈ lost) : l.due ps lost = false := by
  simp [Law.due, h]

section
variable {ps qs rs : List Part} {lost ex out : List Law} {s t u : State}

theorem Effect.refl (s : State) : Effect ps lost s s := ⟨fun p _ => p.same_refl s, fun _ _ h => h⟩

theorem Effect.trans (h : Effect ps lost s t) (k : Effect ps lost t u) : Effect ps lost s u :=
  ⟨fun p hp => Part.same_trans (h.same p hp) (k.same p hp), fun l hl hs => k.keeps l hl (h.keeps l hl hs)⟩

theorem Effect.mono (h : Effect ps ex s t) (hp : ps ⊆ rs := by decide) (hl : ex ⊆ out := by decide) : Effect rs out s t :=
  ⟨fun p hn => h.same p fun hm => hn (hp hm), fun l hn => h.keeps l fun hm => hn (hl hm)⟩

/-- One effect after another. -/
theorem Effect.seq (h : Effect ps ex s t) (k : Effect qs lost t u) (hp : ps ⊆ rs := by decide) (hq : qs ⊆ rs := by decide)
    (hl : ex ⊆ out := by decide) (hm : lost ⊆ out := by decide) : Effect rs out s u :=
  (h.mono hp hl).trans (k.mono hq hm)

/-- An invariant given up on the way holds again at the end. -/
theorem Effect.regain (l : Law) (h : Effect ps (l :: lost) s t) (k : l.holds s → l.holds t) : Effect ps lost s t :=
  ⟨h.same, fun m hm hs => if e : m = l then e ▸ k (e ▸ hs) else h.keeps m (by simp [e, hm]) hs⟩

theorem Effect.regain_unless (l : Law) (h : Effect ps [l] s t) (k : l ∉ lost → l.holds s → l.holds t) : Effect ps lost s t :=
  ⟨h.same, fun m hm hs => if e : m = l then e ▸ k (e ▸ hm) (e ▸ hs) else h.keeps m (by simp [e]) hs⟩

/-- A part that has not changed after all. -/
theorem Effect.unmoved (p : Part) (h : Effect (p :: ps) lost s t) (hp : p.same s t) : Effect ps lost s t :=
  ⟨fun q hq => if e : q = p then e ▸ hp else h.same q (by simp [e, hq]), h.keeps⟩

/-- An invariant that speaks of no part that may change is kept. -/
theorem Effect.spare (l : Law) (h : Effect ps (l :: lost) s t) (hl : ∀ p ∈ l.parts, p ∉ ps := by decide) : Effect ps lost s t :=
  h.regain l (l.holds_congr fun p hp => h.same p (hl p hp))

/-- An effect from the parts it may change, and what it does to the invariants that speak of them. -/
theorem Effect.of_parts
    (same : ∀ p, p ∉ ps → p.same s t := by intro p hp; cases p <;> first | rfl | simp at hp)
    (tripHeld : Law.due ps lost .tripHeld = true → TripHeld s → TripHeld t := by nofun)
    (buses : Law.due ps lost .buses = true → BusesLegal s → BusesLegal t := by nofun)
    (coverage : Law.due ps lost .coverage = true → CoverageKept s → CoverageKept t := by nofun)
    (calls : Law.due ps lost .calls = true → CallsKept s → CallsKept t := by nofun)
    (refs : Law.due ps lost .refs = true → RefsOnce s → RefsOnce t := by nofun)
    (levels : Law.due ps lost .levels = true → LevelsAlike s → LevelsAlike t := by nofun)
    (modes : Law.due ps lost .modes = true → ModesAlike s → ModesAlike t := by nofun)
    (methane : Law.due ps lost .methane = true → s.vu.methane = s.gcu.nodeMethane → t.vu.methane = t.gcu.nodeMethane := by nofun)
    (diesel : ∀ i, Law.due ps lost (.diesel i) = true → DieselEntry i s → DieselEntry i t := by nofun)
    (capacity : Law.due ps lost .capacity = true → WithinCapacity s → WithinCapacity t := by nofun)
    (tripDerived : Law.due ps lost .tripDerived = true → s.tu.causes = computeCauses s → t.tu.causes = computeCauses t := by nofun)
    (alarmDerived : Law.due ps lost .alarmDerived = true → s.sau.causes = localCausesOf s → t.sau.causes = localCausesOf t := by nofun)
    (levelDerived : Law.due ps lost .levelDerived = true → s.sau.level = levelOf s → t.sau.level = levelOf t := by nofun) :
    Effect ps lost s t := by
  refine ⟨same, fun l hl hs => ?_⟩
  by_cases hd : l.due ps lost = true
  · cases l with
    | tripHeld => exact tripHeld hd hs
    | buses => exact buses hd hs
    | coverage => exact coverage hd hs
    | calls => exact calls hd hs
    | refs => exact refs hd hs
    | levels => exact levels hd hs
    | modes => exact modes hd hs
    | methane => exact methane hd hs
    | diesel i => exact diesel i hd hs
    | capacity => exact capacity hd hs
    | tripDerived => exact tripDerived hd hs
    | alarmDerived => exact alarmDerived hd hs
    | levelDerived => exact levelDerived hd hs
  · refine l.holds_congr (fun p hp => same p fun hm => hd ?_) hs
    simpa [Law.due, hl] using ⟨p, hp, hm⟩

/-- An action applied to each item in turn has the effect that each application has. -/
theorem forEach_effect {α : Type} {f : α → State → State} (xs : List α) (h : ∀ x t, Effect ps lost t (f x t)) (s : State) :
    Effect ps lost s (forEach xs f s) := by
  induction xs generalizing s with
  | nil => exact Effect.refl s
  | cons x xs ih => exact (h x s).trans (ih (f x s))

theorem bothLines_effect {f : Line → State → State} (h : ∀ l t, Effect ps lost t (f l t)) (s : State) :
    Effect ps lost s (bothLines f s) := (h .outbye s).trans (h .inbye _)

end

/-- A change of blocks that no invariant speaks of. -/
theorem advanceTicks_effect (n : Nat) (s : State) : Effect [.clock, .trunk, .radio] [] s (advanceTicks n s) := .of_parts

end Sys2Proof.Machine
end

section
/-! PROOFS. Notices, cells and responses: what they may touch, and that no queue goes past its capacity (R24, R34, R172). -/

namespace Sys2Proof.Machine

-- Declarations are elaborated one after another: in a text of this length the threads of many at once would not fit the memory limit.
set_option Elab.async false

/-! ## Lists -/

theorem length_replaceFirst {α : Type} (p : α → Bool) (x : α) (xs : List α) : (replaceFirst p x xs).length = xs.length := by
  induction xs with
  | nil => rfl
  | cons y ys ih => by_cases h : p y = true <;> simp [replaceFirst, h, ih]

theorem length_filter_replaceFirst {α : Type} {p f : α → Bool} {x : α} (h : ∀ y, p y = true → f y = f x) (xs : List α) :
    ((replaceFirst p x xs).filter f).length = (xs.filter f).length := by
  induction xs with
  | nil => rfl
  | cons y ys ih =>
    by_cases hp : p y = true
    · by_cases hf : f x = true <;> simp [replaceFirst, hp, hf, h y hp]
    · by_cases hf : f y = true <;> simp [replaceFirst, hp, hf, ih]

/-- The last item that meets a test leaves a list filtered by a wider test one item shorter. -/
theorem length_filter_removeLast {α : Type} {p f : α → Bool} {xs : List α} (hpf : ∀ y, p y = true → f y = true)
    (h : xs.any p = true) : ((removeLast p xs).filter f).length + 1 = (xs.filter f).length := by
  have key : ∀ ys : List α, ys.any p = true → ((ys.eraseP p).filter f).length + 1 = (ys.filter f).length := by
    intro ys
    induction ys with
    | nil => simp
    | cons y ys ih =>
      intro hy
      by_cases hp : p y = true
      · simp [hp, hpf y hp]
      · have hys : ys.any p = true := by simpa [hp] using hy
        by_cases hf : f y = true <;> simp [hp, hf, ih hys]
  have h' : xs.reverse.any p = true := by simpa using h
  simpa [removeLast, List.filter_reverse] using key xs.reverse h'

/-! ## Notice queues (R172 to R174) -/

/-- R172: a notice queue within its capacity. -/
structure QueueWithin (q : List Notice) : Prop where
  maskable : maskableCount q ≤ 24
  unmaskable : ∀ k : NoticeKind, k.maskable = false → (q.filter fun n => n.kind = k).length ≤ 1

theorem coalesces_kind {n q : Notice} (h : coalesces n q = true) : q.kind = n.kind := by
  cases hk : n.kind <;> simp_all [coalesces]

theorem coalesces_of_unmaskable {n q : Notice} (hn : n.kind.maskable = false) (hq : q.kind = n.kind) : coalesces n q = true := by
  cases hk : n.kind <;> simp_all [coalesces] <;> exact absurd hn (by decide)

theorem QueueWithin.of_sublist {q r : List Notice} (h : QueueWithin q) (hs : r.Sublist q) : QueueWithin r :=
  ⟨(hs.filter _).length_le.trans h.maskable, fun k hk => (hs.filter _).length_le.trans (h.unmaskable k hk)⟩

theorem QueueWithin.replace {q : List Notice} (h : QueueWithin q) (n : Notice) : QueueWithin (replaceFirst (coalesces n) n q) := by
  refine ⟨?_, fun k hk => ?_⟩
  · rw [maskableCount, length_filter_replaceFirst fun y hy => by rw [coalesces_kind hy]]
    exact h.maskable
  · rw [length_filter_replaceFirst fun y hy => by rw [coalesces_kind hy]]
    exact h.unmaskable k hk

/-- An unmaskable notice that updates none joins. -/
theorem QueueWithin.join_unmaskable {q : List Notice} (h : QueueWithin q) {n : Notice} (hn : n.kind.maskable = false)
    (hq : q.any (coalesces n) = false) : QueueWithin (q ++ [n]) := by
  refine ⟨by simpa [maskableCount, hn] using h.maskable, fun k hk => ?_⟩
  by_cases hnk : n.kind = k
  · have hnone : q.filter (fun m => m.kind = k) = [] := by
      refine List.filter_eq_nil_iff.mpr fun m hm hmk => ?_
      have := List.any_eq_false.mp hq m hm
      exact this (coalesces_of_unmaskable hn ((of_decide_eq_true hmk).trans hnk.symm))
    simp [hnone, hnk]
  · simpa [hnk] using h.unmaskable k hk

theorem QueueWithin.join_maskable {q : List Notice} (h : QueueWithin q) {n : Notice} (hn : n.kind.maskable = true)
    (hroom : maskableCount q < 24) : QueueWithin (q ++ [n]) := by
  refine ⟨?_, fun k hk => ?_⟩
  · simp only [maskableCount, List.filter_append, List.length_append] at hroom ⊢
    simp only [List.filter_cons, hn, if_true, List.filter_nil, List.length_singleton]
    omega
  · have hnk : n.kind ≠ k := fun e => by rw [e, hk] at hn; exact Bool.noConfusion hn
    simpa [hnk] using h.unmaskable k hk

theorem PortState.post_within (n : Notice) (ps : PortState) (h : QueueWithin ps.queue) : QueueWithin (ps.post n).queue := by
  unfold PortState.post
  split
  next => exact h
  next =>
    split
    next => exact h.replace n
    next hnone =>
      have hnone' : ps.queue.any (coalesces n) = false := by simpa using hnone
      split
      next hroom =>
        cases hm : n.kind.maskable with
        | false => exact h.join_unmaskable hm hnone'
        | true =>
          simp only [hm, Bool.not_true, Bool.false_or, decide_eq_true_eq] at hroom
          exact h.join_maskable hm hroom
      next hfull =>
        have hm : n.kind.maskable = true := by
          cases hm : n.kind.maskable <;> simp_all
        split
        next hlow =>
          have hany : ps.queue.any (lowNotice ps) = true := by
            simp only [Bool.and_eq_true] at hlow
            exact hlow.2
          have hlen := length_filter_removeLast (p := lowNotice ps) (f := fun n => n.kind.maskable)
            (fun y hy => by simp only [lowNotice, Bool.and_eq_true] at hy; exact hy.1) hany
          refine QueueWithin.join_maskable (h.of_sublist ?_) hm ?_
          · simpa [removeLast] using (List.eraseP_sublist (p := lowNotice ps) (l := ps.queue.reverse)).reverse
          · have := h.maskable
            simp only [maskableCount] at this ⊢
            omega
        next => exact h

/-! ## Capacity, block by block -/

/-- R24: the outgoing queues of a line within their capacities. -/
def OutQueues.Within (q : OutQueues) : Prop := q.signal.length ≤ 16 ∧ q.data.length ≤ 48

/-- What capacity says of the Cell Switch. -/
structure CellsWithin (c : CellSwitch) : Prop where
  queues : ∀ l, (c.queues.get l).Within
  safety : c.safetyQ.length ≤ 64
  general : c.generalQ.length ≤ 64

/-- What capacity says of the Vehicle Unit. -/
structure RoadWithin (u : VehicleUnit) : Prop where
  waits : u.waits.length ≤ 8
  members : u.members.length ≤ 4
  convoy : u.cfg.convoy ≤ 4

theorem withinCapacity_iff (s : State) :
    WithinCapacity s ↔ CellsWithin s.cs ∧ (∀ p, QueueWithin (s.pi.ports.get p).queue) ∧ RoadWithin s.vu := by
  constructor
  · intro h
    refine ⟨⟨?_, h.delivery.1, h.delivery.2⟩, ?_, ⟨h.waits, h.members.1, h.members.2⟩⟩
    · rintro (_ | _)
      · exact ⟨h.signal.1, h.data.1⟩
      · exact ⟨h.signal.2, h.data.2⟩
    · rintro (_ | _)
      · exact ⟨h.notices.1, fun k hk => (h.unmaskable k hk).1⟩
      · exact ⟨h.notices.2, fun k hk => (h.unmaskable k hk).2⟩
  · rintro ⟨hc, hn, hr⟩
    exact ⟨⟨(hc.queues .outbye).1, (hc.queues .inbye).1⟩, ⟨(hc.queues .outbye).2, (hc.queues .inbye).2⟩, ⟨hc.safety, hc.general⟩,
      hr.waits, ⟨(hn .sp).maskable, (hn .cp).maskable⟩, ⟨hr.members, hr.convoy⟩,
      fun k hk => ⟨(hn .sp).unmaskable k hk, (hn .cp).unmaskable k hk⟩⟩

theorem WithinCapacity.of_cells {s t : State} (h : WithinCapacity s) (hp : t.pi = s.pi) (hv : t.vu = s.vu)
    (hc : CellsWithin s.cs → CellsWithin t.cs) : WithinCapacity t := by
  rw [withinCapacity_iff] at h ⊢
  exact ⟨hc h.1, hp ▸ h.2.1, hv ▸ h.2.2⟩

/-- A road within its limits is all that capacity asks of a change in the Vehicle Unit. -/
theorem WithinCapacity.of_road {s t : State} (h : WithinCapacity s) (hp : t.pi = s.pi) (hc : t.cs = s.cs)
    (hv : RoadWithin s.vu → RoadWithin t.vu) : WithinCapacity t := by
  rw [withinCapacity_iff] at h ⊢
  exact ⟨hc ▸ h.1, hp ▸ h.2.1, hv h.2.2⟩

/-! ## What reports touch -/

/-- Notices, queued and delivered cells, and latched indications. -/
abbrev telling : List Part := [.cells, .inds, .notices]

theorem SameStatus.plain {a b : LineStatus} (h : SameStatus a b) : b.plain = a.plain := by
  rw [h]; rfl

theorem Reports.same {s t : State} (h : Reports s t) (p : Part) (hp : p ∉ telling) : p.same s t := by
  have hc := h.cs
  have hi := h.pi
  simp only [ReportsCs, ReportsPi, SamePort] at hc hi
  obtain ⟨hcs, ho, hin⟩ := hc
  obtain ⟨hpi, hsp, hcp⟩ := hi
  cases p <;> simp only [Part.same, h.tb, h.sbm, h.gcu, h.tu, h.sau, h.ctu, h.vu, h.pending, State.channel, State.refuge]
  case line => rw [ho.plain, hin.plain]
  case flow => rw [hcs]
  case flowConf => rw [hcs]
  case remote => rw [hcs]
  case csMode => rw [hcs]
  case sent => rw [hcs]
  case portConf => rw [hsp, hcp]
  case slots => rw [hsp, hcp]
  case resetCause => rw [hpi]
  all_goals simp [telling] at hp

theorem Reports.effect {s t : State} (h : Reports s t) (hc : WithinCapacity s → WithinCapacity t) : Effect telling [] s t :=
  .of_parts (same := h.same) (capacity := fun _ => hc)

/-! ## Notices and indications -/

theorem post_effect (p : Port) (k : NoticeKind) (d : Bytes) (s : State) : Effect telling [] s (post p k d s) := by
  refine (post_reports p k d s).effect fun h => ?_
  rw [withinCapacity_iff] at h ⊢
  refine ⟨h.1, fun q => ?_, h.2.2⟩
  by_cases hq : q = p
  · subst hq
    simpa [post] using PortState.post_within _ _ (h.2.1 q)
  · simpa [post, PerPort.get_set_of_ne _ _ _ _ hq] using h.2.1 q

theorem postBoth_effect (k : NoticeKind) (d : Bytes) (s : State) : Effect telling [] s (postBoth k d s) :=
  (post_effect .sp k d s).trans (post_effect .cp k d _)

theorem updStatus_effect (l : Line) (f : LineStatus → LineStatus) (s : State) : Effect [.inds, .line] [] s (s.updStatus l f) :=
  .of_parts

theorem postLineEvent_effect (l : Line) (s : State) : Effect telling [] s (postLineEvent l s) := postBoth_effect ..

theorem latchInd_effect (l : Line) (i : Indication) (s : State) : Effect telling [] s (latchInd l i s) := by
  refine (latchInd_reports l i s).effect fun h => ?_
  unfold latchInd
  split
  · exact h
  · exact (postLineEvent_effect l _).keeps .capacity (by simp)
      ((updStatus_effect l (fun st => st.setInd i) s).keeps .capacity (by simp) h)

theorem addFiltered_effect (l : Line) (s : State) : Effect [.inds, .line] [] s (addFiltered l s) := updStatus_effect ..

/-! ## Cells -/

/-- The outgoing queues of a line are replaced by ones within capacity. -/
theorem CellsWithin.updQueues {s : State} (h : CellsWithin s.cs) (l : Line) {f : OutQueues → OutQueues}
    (hf : (f (s.cs.queues.get l)).Within) : CellsWithin (s.updQueues l f).cs := by
  refine ⟨fun k => ?_, h.safety, h.general⟩
  by_cases hk : k = l
  · subst hk; simpa using hf
  · simpa [PerLine.get_set_of_ne _ _ _ _ hk] using h.queues k

theorem joinQueue_effect (l : Line) (c : Cell) (s : State) : Effect telling [] s (joinQueue l c s) := by
  refine (joinQueue_reports l c s).effect fun h => ?_
  have upd {f : OutQueues → OutQueues} (hf : (s.cs.queues.get l).Within → (f (s.cs.queues.get l)).Within) :
      WithinCapacity (s.updQueues l f) :=
    h.of_cells rfl rfl fun hc => hc.updQueues l (hf (hc.queues l))
  unfold joinQueue
  cases c.classOf <;> simp only
  case alarm => exact h
  case call => exact h
  case signal =>
    split
    next hroom => exact upd fun hq => ⟨by simpa [Config.signalCapacity] using hroom, hq.2⟩
    next => exact (latchInd_effect l _ s).keeps .capacity (by simp) h
  case data =>
    split
    next => exact upd fun hq => ⟨hq.1, by simpa [length_replaceFirst] using hq.2⟩
    next =>
      split
      next hroom => exact upd fun hq => ⟨hq.1, by simpa [Config.dataCapacity] using hroom⟩
      next => exact (latchInd_effect l _ s).keeps .capacity (by simp) h

theorem joinLocal_effect (l : Line) (c : Cell) (s : State) : Effect telling [] s (joinLocal l c s) := by
  unfold joinLocal
  split
  · exact .refl s
  · exact joinQueue_effect l c s

/-- The staged cells are replaced. -/
theorem setStaging_effect (x : Option (List (Line × Cell))) (s : State) :
    Effect telling [] s (s.updCs fun c => { c with staging := x }) :=
  .of_parts (capacity := fun _ h => h.of_cells rfl rfl fun hc => ⟨hc.queues, hc.safety, hc.general⟩)

theorem placeCell_effect (l : Line) (c : Cell) (s : State) : Effect telling [] s (placeCell l c s) := by
  unfold placeCell
  split
  · exact setStaging_effect _ s
  · exact joinLocal_effect l c s

theorem latchArrival_effect (f : Option Line) (i : Indication) (s : State) : Effect telling [] s (latchArrival f i s) := by
  cases f with
  | none => exact bothLines_effect (fun l t => latchInd_effect l i t) s
  | some l => exact latchInd_effect l i s

/-- A delivery queue is replaced by one within capacity. -/
theorem setDeliveryQueue_effect {b : Bool} {q : List Cell} {s : State}
    (hq : (deliveryQueue b s).length ≤ 64 → q.length ≤ 64) : Effect telling [] s (setDeliveryQueue b q s) := by
  refine (setDeliveryQueue_reports b q s).effect fun h => h.of_cells rfl rfl fun hc => ?_
  cases b with
  | true => exact ⟨hc.queues, hq hc.safety, hc.general⟩
  | false => exact ⟨hc.queues, hc.safety, hq hc.general⟩

theorem deliver_effect (f : Option Line) (c : Cell) (s : State) : Effect telling [] s (deliver f c s) := by
  unfold deliver
  simp only
  split
  next hroom =>
    have hset := setDeliveryQueue_effect (b := safetyKind c.kind) (q := deliveryQueue (safetyKind c.kind) s ++ [c]) (s := s)
      fun _ => by simpa [Config.deliveryCapacity] using hroom
    split
    · exact hset.trans (post_effect ..)
    · exact hset
  next =>
    split
    · exact latchArrival_effect ..
    · split
      next hany =>
        refine (setDeliveryQueue_effect fun hq => ?_).trans (latchArrival_effect ..)
        obtain ⟨x, hx, hp⟩ := List.any_eq_true.mp hany
        have hpos := List.length_pos_of_mem hx
        rw [List.length_append, List.length_eraseP_of_mem hx hp, List.length_singleton]
        omega
      next => exact latchArrival_effect ..

theorem sendTo_effect (kind dst : Nat) (p : Bytes) (s : State) : Effect telling [] s (sendTo kind dst p s) := by
  unfold sendTo
  simp only
  split
  · split
    · exact .refl s
    · exact deliver_effect ..
  · exact placeCell_effect ..

theorem sendAdjacent_effect (l : Line) (kind : Nat) (p : Bytes) (s : State) : Effect telling [] s (sendAdjacent l kind p s) :=
  placeCell_effect ..

/-! ## Responses (R166, R167) -/

/-- What a response touches: a port's slot, or the cells it goes out in. -/
abbrev answering : List Part := .slots :: telling

theorem WithinCapacity.updPort {s : State} (h : WithinCapacity s) (p : Port) {f : PortState → PortState}
    (hf : ∀ ps, (f ps).queue.Sublist ps.queue) : WithinCapacity (s.updPort p f) := by
  rw [withinCapacity_iff] at h ⊢
  refine ⟨h.1, fun q => ?_, h.2.2⟩
  by_cases hq : q = p
  · subst hq
    simpa using (h.2.1 q).of_sublist (hf _)
  · simpa [PerPort.get_set_of_ne _ _ _ _ hq] using h.2.1 q

/-- A port whose queue at most loses notices. -/
theorem updPort_effect {p : Port} {f : PortState → PortState} (hf : ∀ ps, (f ps).queue.Sublist ps.queue) (s : State) :
    Effect [.notices, .portConf, .slots] [] s (s.updPort p f) :=
  .of_parts (same := fun x hx => by cases p <;> cases x <;> first | rfl | simp at hx) (capacity := fun _ h => h.updPort p hf)

/-- R167: a response in a port's slot. -/
def PortState.answered (tag : Byte) (a : Answer) (ps : PortState) : PortState :=
  { ps with responseLost := ps.responseLost || !ps.slotRead
            slot := some { tag := tag, status := a.status, data := a.data }, slotRead := false }

theorem respond_portSource (p : Port) (tag : Byte) (a : Answer) (s : State) :
    respond (portSource p) tag a s = s.updPort p (PortState.answered tag a) := by cases p <;> rfl

theorem answered_effect (p : Port) (tag : Byte) (a : Answer) (s : State) :
    Effect answering [] s (s.updPort p (PortState.answered tag a)) :=
  .of_parts (same := fun x hx => by cases p <;> cases x <;> first | rfl | simp [answering] at hx)
    (capacity := fun _ h => h.updPort p fun _ => .refl _)

theorem respond_effect (src : Source) (tag : Byte) (a : Answer) (s : State) : Effect answering [] s (respond src tag a s) := by
  cases src with
  | sp => exact answered_effect .sp tag a s
  | cp => exact answered_effect .cp tag a s
  | surface => exact (sendTo_effect ..).mono

/-- R166: a command has the effect of its body, beside the response. -/
theorem command_effect {ps : List Part} {src : Source} {tag : Byte} {params : Bytes} {right : Bool} {body : State → State × Answer}
    {s : State} (hb : Effect ps [] s (body s).1) (hp : answering ⊆ ps := by decide) :
    Effect ps [] s (command src tag params right body s) := by
  have hr (a : Answer) (t : State) : Effect ps [] t (respond src tag a t) := (respond_effect src tag a t).mono hp
  obtain ⟨-, h⟩ | ⟨-, -, h⟩ | ⟨-, -, h⟩ := command_cases src tag params right body s <;> rw [h]
  · exact hr _ s
  · exact hr _ s
  · exact hb.trans (hr _ _)

theorem sized_effect {ps : List Part} {n : Nat} {params : Bytes} {body : Body} {s : State} (hb : Effect ps [] s (body s).1) :
    Effect ps [] s (sized n params body s).1 := by
  unfold sized
  split
  · exact hb
  · exact .refl s

theorem paged_effect {ps : List Part} {n : Nat} {params : Bytes} {body : Nat → Body} {s : State}
    (hb : ∀ k, Effect ps [] s (body k s).1) : Effect ps [] s (paged n params body s).1 := by
  unfold paged
  split
  · exact hb _
  · split
    · exact hb _
    · exact .refl s

end Sys2Proof.Machine
end

section
/-! PROOFS. The Call Table Unit: its operations touch the call entries and report, and keep the calls listed, within budget, not
ROUTINE under EVACUATE, and one to a reference (R121 to R143). -/

namespace Sys2Proof.Machine

-- Declarations are elaborated one after another: in a text of this length the threads of many at once would not fit the memory limit.
set_option Elab.async false

/-- What the Call Table Unit's operations touch. -/
abbrev calling : List Part := .calls :: telling

/-! ## Lines of an entry (R121) -/

theorem Call.uses_iff (e : Call) (l : Line) :
    e.uses l = true ↔ (∃ u, e.up = some u ∧ u.line = l) ∨ ∃ f, e.far = some f ∧ f.line = l := by
  cases hu : e.up <;> cases hf : e.far <;> simp [Call.uses, Call.sideOn, hu, hf]
  split <;> simp_all

/-! ## Calls listed, and calls that are fewer (R122, R140) -/

/-- R122: the recency list holds each entry in use once. -/
structure CallsListed (s : State) : Prop where
  recency : ∀ i : Fin 12, i ∈ s.ctu.recency ↔ (s.call i).isSome = true
  once : s.ctu.recency.Nodup

/-- R140: no ROUTINE call under EVACUATE. -/
def RoutineBarred (s : State) : Prop :=
  s.ctu.level = .evacuate → ∀ (i : Fin 12) (e : Call), s.call i = some e → e.priority ≠ .routine

theorem CallsKept.listed {s : State} (h : CallsKept s) : CallsListed s := ⟨h.recency, h.once⟩

theorem CallsListed.kept {s : State} (h : CallsListed s) (hb : ∀ l, reservations s l ≤ budgetInForce s) (hr : RoutineBarred s) :
    CallsKept s := ⟨h.recency, h.once, hb, hr⟩

theorem reservations_eq_countP (s : State) (l : Line) : reservations s l = allCalls.countP (entryUses s l) :=
  List.countP_eq_length_filter.symm

theorem mem_allCalls (i : Fin 12) : i ∈ allCalls := by revert i; decide

theorem reservations_mono {s t : State} {l : Line} (h : ∀ i, entryUses t l i = true → entryUses s l i = true) :
    reservations t l ≤ reservations s l := by
  rw [reservations_eq_countP, reservations_eq_countP]
  exact List.countP_mono_left fun i _ => h i

theorem entryUses_of_none {s : State} {i : Fin 12} (h : s.call i = none) (l : Line) : entryUses s l i = false := by
  simp [entryUses, h]

theorem entryUses_congr {s t : State} {i : Fin 12} (h : t.call i = s.call i) (l : Line) : entryUses t l i = entryUses s l i := by
  simp [entryUses, h]

/-- A test that one item no longer passes counts one less. -/
theorem countP_and_ne_add_one {α : Type} [DecidableEq α] {p : α → Bool} {x : α} (hp : p x = true) {xs : List α} (hn : xs.Nodup)
    (hx : x ∈ xs) : xs.countP (fun y => p y && y != x) + 1 = xs.countP p := by
  induction xs with
  | nil => simp at hx
  | cons y ys ih =>
    obtain ⟨hy, hys⟩ := List.nodup_cons.mp hn
    by_cases he : x = y
    · subst he
      have hrest : ys.countP (fun y => p y && y != x) = ys.countP p :=
        List.countP_congr fun z hz => by
          have hzx : z ≠ x := fun e => hy (e ▸ hz)
          simp [hzx]
      simp [hp, hrest]
    · have ih' := ih hys ((List.mem_cons.mp hx).resolve_left he)
      have hyx : (y != x) = true := by simpa using fun e => he e.symm
      simp only [List.countP_cons, hyx, Bool.and_true]
      omega

theorem nodup_allCalls : allCalls.Nodup := by decide

/-! ## Freeing an entry (R122, R132) -/

theorem State.call_of_entries {s t : State} (h : t.ctu.entries = s.ctu.entries) (i : Fin 12) : t.call i = s.call i := by
  rw [State.call, h]; rfl

theorem Reports.call {s t : State} (h : Reports s t) (i : Fin 12) : t.call i = s.call i :=
  State.call_of_entries (by rw [h.ctu]) i

theorem freeCall_call (i j : Fin 12) (s : State) : (freeCall i s).call j = if j = i then none else s.call j := by
  have h : (freeCall i s).call j = (s.setCall i none).call j := rfl
  rw [h]
  split
  next e => rw [e, State.call_setCall]
  next e => rw [State.call_setCall_of_ne _ _ _ _ e]

theorem freeCall_recency (i : Fin 12) (s : State) : (freeCall i s).ctu.recency = s.ctu.recency.filter (fun j => j != i) := rfl

theorem call_of_freeCall {i j : Fin 12} {e : Call} {s : State} (h : (freeCall i s).call j = some e) : j ≠ i ∧ s.call j = some e := by
  rw [freeCall_call] at h
  split at h
  · exact absurd h (by simp)
  next hj => exact ⟨hj, h⟩

theorem entryUses_freeCall (i j : Fin 12) (l : Line) (s : State) :
    entryUses (freeCall i s) l j = (entryUses s l j && j != i) := by
  by_cases h : j = i <;> simp [entryUses, freeCall_call, h]

theorem CallsListed.free {s : State} (h : CallsListed s) (i : Fin 12) : CallsListed (freeCall i s) := by
  refine ⟨fun j => ?_, h.once.filter _⟩
  rw [freeCall_recency, List.mem_filter, h.recency, freeCall_call]
  by_cases hj : j = i <;> simp [hj]

theorem reservations_freeCall_le (i : Fin 12) (l : Line) (s : State) : reservations (freeCall i s) l ≤ reservations s l :=
  reservations_mono fun j hj => by
    rw [entryUses_freeCall] at hj
    exact (Bool.and_eq_true_iff.mp hj).1

theorem reservations_freeCall {i : Fin 12} {l : Line} {s : State} (h : entryUses s l i = true) :
    reservations (freeCall i s) l + 1 = reservations s l := by
  rw [reservations_eq_countP, reservations_eq_countP, funext fun j => entryUses_freeCall i j l s]
  exact countP_and_ne_add_one h nodup_allCalls (mem_allCalls i)

theorem CallsKept.free {s : State} (h : CallsKept s) (i : Fin 12) : CallsKept (freeCall i s) :=
  (h.listed.free i).kept (fun l => (reservations_freeCall_le i l s).trans (h.budget l))
    fun he j e hj => h.routine he j e (call_of_freeCall hj).2

theorem RefsOnce.free {s : State} (h : RefsOnce s) (i : Fin 12) : RefsOnce (freeCall i s) :=
  fun j k e f hj hk => h j k e f (call_of_freeCall hj).2 (call_of_freeCall hk).2

theorem freeCall_effect (i : Fin 12) (s : State) : Effect calling [] s (freeCall i s) :=
  .mono (ps := [.calls]) (ex := []) (.of_parts (calls := fun _ h => h.free i) (refs := fun _ h => h.free i))

/-! ## Changing an entry in use -/

/-- An entry keeps its lines, its priority and its reference. -/
structure Call.Like (e f : Call) : Prop where
  uses : ∀ l, f.uses l = e.uses l
  priority : f.priority = e.priority
  origin : f.origin = e.origin
  originIdx : f.originIdx = e.originIdx

theorem Call.Like.of_sides {e f : Call} (hu : f.up.map CallSide.line = e.up.map CallSide.line)
    (hf : f.far.map CallSide.line = e.far.map CallSide.line) (hp : f.priority = e.priority) (ho : f.origin = e.origin)
    (hi : f.originIdx = e.originIdx) : e.Like f := by
  refine ⟨fun l => ?_, hp, ho, hi⟩
  have key (x y : Option CallSide) (h : x.map CallSide.line = y.map CallSide.line) :
      (∃ u, x = some u ∧ u.line = l) ↔ ∃ u, y = some u ∧ u.line = l := by
    cases x <;> cases y <;> simp_all
  rw [Bool.eq_iff_iff, Call.uses_iff, Call.uses_iff, key _ _ hu, key _ _ hf]

theorem call_setCall_cases {s : State} {i j : Fin 12} {x : Option Call} {e : Call} (h : (s.setCall i x).call j = some e) :
    (j = i ∧ x = some e) ∨ (j ≠ i ∧ s.call j = some e) := by
  by_cases hj : j = i
  · subst hj; exact .inl ⟨rfl, by simpa using h⟩
  · exact .inr ⟨hj, by rwa [State.call_setCall_of_ne _ _ _ _ hj] at h⟩

theorem setCall_like_effect {i : Fin 12} {e f : Call} {s : State} (h : s.call i = some e) (hl : e.Like f) :
    Effect [.calls] [] s (s.setCall i (some f)) := by
  have huses (l : Line) (j : Fin 12) : entryUses (s.setCall i (some f)) l j = entryUses s l j := by
    by_cases hj : j = i
    · subst hj; simp [entryUses, h, hl.uses]
    · exact entryUses_congr (State.call_setCall_of_ne _ _ _ _ hj) l
  have old {j : Fin 12} {x : Call} (hj : (s.setCall i (some f)).call j = some x) :
      ∃ y, s.call j = some y ∧ x.priority = y.priority ∧ x.origin = y.origin ∧ x.originIdx = y.originIdx := by
    obtain ⟨rfl, hx⟩ | ⟨-, hx⟩ := call_setCall_cases hj
    · cases hx; exact ⟨e, h, hl.priority, hl.origin, hl.originIdx⟩
    · exact ⟨x, hx, rfl, rfl, rfl⟩
  refine .of_parts (calls := fun _ hs => ⟨fun j => ?_, hs.once, fun l => ?_, fun he j x hj => ?_⟩)
    (refs := fun _ hs j k x y hj hk ho hi => ?_)
  · refine (hs.recency j).trans ?_
    by_cases hj : j = i
    · subst hj; simp [h]
    · rw [State.call_setCall_of_ne _ _ _ _ hj]
  · have hr : reservations (s.setCall i (some f)) l = reservations s l := by simp only [reservations, funext (huses l)]
    exact hr ▸ hs.budget l
  · obtain ⟨y, hy, hp, -, -⟩ := old hj
    exact hp ▸ hs.routine he j y hy
  · obtain ⟨x', hx', -, ho1, hi1⟩ := old hj
    obtain ⟨y', hy', -, ho2, hi2⟩ := old hk
    exact hs j k x' y' hx' hy' (ho1.symm.trans (ho.trans ho2)) (hi1.symm.trans (hi.trans hi2))

theorem modCall_of_some {i : Fin 12} {f : Call → Call} {e : Call} {s : State} (h : s.call i = some e) :
    modCall i f s = s.setCall i (some (f e)) := by simp [modCall, h]

theorem modCall_of_none {i : Fin 12} {f : Call → Call} {s : State} (h : s.call i = none) : modCall i f s = s := by
  simp [modCall, h]

theorem modCall_effect {f : Call → Call} (hl : ∀ e : Call, e.Like (f e)) (i : Fin 12) (s : State) :
    Effect [.calls] [] s (modCall i f s) := by
  cases h : s.call i with
  | none => rw [modCall_of_none h]; exact .refl s
  | some e => rw [modCall_of_some h]; exact setCall_like_effect h (hl e)

theorem modCall_isSome (i j : Fin 12) (f : Call → Call) (s : State) : ((modCall i f s).call j).isSome = (s.call j).isSome := by
  cases h : s.call i with
  | none => rw [modCall_of_none h]
  | some e =>
    rw [modCall_of_some h]
    by_cases hj : j = i
    · subst hj; simp [h]
    · rw [State.call_setCall_of_ne _ _ _ _ hj]

/-! ## The recency list (R122) -/

theorem mem_touched (xs : List (Fin 12)) (i j : Fin 12) : j ∈ xs.filter (fun k => k != i) ++ [i] ↔ j ∈ xs ∨ j = i := by
  by_cases h : j = i <;> simp [h]

theorem nodup_touched {xs : List (Fin 12)} (h : xs.Nodup) (i : Fin 12) : (xs.filter (fun k => k != i) ++ [i]).Nodup := by
  refine List.nodup_append.mpr ⟨h.filter _, List.nodup_singleton i, fun a ha b hb => ?_⟩
  have h1 := (List.mem_filter.mp ha).2
  rw [List.mem_singleton] at hb
  subst hb
  simpa using h1

theorem touchRecency_effect {i : Fin 12} {s : State} (h : (s.call i).isSome = true) : Effect [.calls] [] s (touchRecency i s) := by
  refine .of_parts (calls := fun _ hs => ⟨fun j => ?_, nodup_touched hs.once i, hs.budget, hs.routine⟩) (refs := fun _ hs => hs)
  refine (mem_touched _ i j).trans ?_
  rw [hs.recency]
  exact ⟨fun hj => hj.elim id fun e => e ▸ h, .inl⟩

/-! ## Clearing (R132, R133, R143) -/

theorem postCallState_effect (i : Fin 12) (e : Call) (new before : Nat) (s : State) :
    Effect telling [] s (postCallState i e new before s) := by
  unfold postCallState
  split
  · exact .refl s
  · exact post_effect ..

theorem sendClear_effect (e : Call) (c : CallCause) (addr : Nat) (l : Line) (s : State) :
    Effect telling [] s (sendClear e c addr l s) := by
  unfold sendClear
  split
  · exact sendAdjacent_effect ..
  · exact .refl s

theorem clearCall_effect (i : Fin 12) (c : CallCause) (addr : Nat) (x : Option Line) (s : State) :
    Effect calling [] s (clearCall i c addr x s) := by
  unfold clearCall
  split
  next e _ =>
    have line (l : Line) (t : State) : Effect calling [] t (if x = some l then t else sendClear e c addr l t) := by
      split
      · exact .refl t
      · exact (sendClear_effect ..).mono
    exact ((bothLines_effect line s).trans (postCallState_effect ..).mono).trans (freeCall_effect ..)
  next => exact .refl s

theorem clearOwn_effect (i : Fin 12) (c : CallCause) (s : State) : Effect calling [] s (clearOwn i c s) := clearCall_effect ..

theorem haltCall_effect (i : Fin 12) (s : State) : Effect calling [] s (haltCall i s) := by
  unfold haltCall
  split
  · exact ((postCallState_effect ..).mono).trans (freeCall_effect ..)
  · exact .refl s

theorem clearRef_effect (o x : Nat) (s : State) : Effect calling [] s (clearRef o x s) := by
  unfold clearRef
  split
  · exact clearOwn_effect ..
  · exact .refl s

/-- A cleared entry is FREE and no other entry changes. -/
theorem clearCall_call (i j : Fin 12) (c : CallCause) (addr : Nat) (x : Option Line) (s : State) :
    (clearCall i c addr x s).call j = if j = i then none else s.call j := by
  obtain ⟨hn, he⟩ | ⟨t, -, hr, he⟩ := clearCall_cases i c addr x s <;> rw [he]
  · split
    next e => rw [e, hn]
    next => rfl
  · rw [freeCall_call, hr.call]

theorem clearOwn_call (i j : Fin 12) (c : CallCause) (s : State) :
    (clearOwn i c s).call j = if j = i then none else s.call j := clearCall_call ..

theorem clearCall_ctu (i : Fin 12) (c : CallCause) (addr : Nat) (x : Option Line) (s : State) :
    (clearCall i c addr x s).ctu = s.ctu ∨ (clearCall i c addr x s).ctu = (freeCall i s).ctu := by
  obtain ⟨-, he⟩ | ⟨t, -, hr, he⟩ := clearCall_cases i c addr x s <;> rw [he]
  · exact .inl rfl
  · refine .inr ?_
    simp only [freeCall, State.updCtu_ctu, State.setCall_ctu, hr.ctu]

theorem CallsListed.congr {s t : State} (h : CallsListed s) (he : t.ctu = s.ctu) : CallsListed t := by
  have hcall (i : Fin 12) : t.call i = s.call i := State.call_of_entries (by rw [he]) i
  exact ⟨fun i => by rw [he, hcall]; exact h.recency i, he ▸ h.once⟩

theorem CallsListed.clear {s : State} (h : CallsListed s) (i : Fin 12) (c : CallCause) (addr : Nat) (x : Option Line) :
    CallsListed (clearCall i c addr x s) := by
  obtain he | he := clearCall_ctu i c addr x s
  · exact h.congr he
  · exact (h.free i).congr he

theorem budgetInForce_congr {s t : State} (hb : Part.budget.same s t) (hm : Part.ctuMode.same s t) :
    budgetInForce t = budgetInForce s := by
  simp only [Part.same] at hb hm
  simp only [budgetInForce, hb, hm]

/-- Calls are no part of the budget in force. -/
theorem Effect.budgetInForce {ps : List Part} {lost : List Law} {s t : State} (h : Effect ps lost s t)
    (hb : Part.budget ∉ ps := by decide) (hm : Part.ctuMode ∉ ps := by decide) :
    Machine.budgetInForce t = Machine.budgetInForce s :=
  budgetInForce_congr (h.same _ hb) (h.same _ hm)

/-! ## Making an entry (R122, R125) -/

theorem makeCall_call (i j : Fin 12) (e : Call) (s : State) : (makeCall i e s).call j = if j = i then some e else s.call j := by
  have h : (makeCall i e s).call j = (s.setCall i (some e)).call j := rfl
  rw [h]
  split
  next hj => rw [hj, State.call_setCall]
  next hj => rw [State.call_setCall_of_ne _ _ _ _ hj]

theorem makeCall_recency (i : Fin 12) (e : Call) (s : State) :
    (makeCall i e s).ctu.recency = s.ctu.recency.filter (fun j => j != i) ++ [i] := rfl

/-- Room on every line the new entry uses keeps the calls within budget. -/
theorem CallsKept.make {s : State} (h : CallsKept s) {i : Fin 12} {e : Call}
    (hroom : ∀ l, e.uses l = true → reservations s l < budgetInForce s)
    (hroutine : s.ctu.level = .evacuate → e.priority ≠ .routine) : CallsKept (makeCall i e s) := by
  refine ⟨fun j => ?_, ?_, fun l => ?_, fun he j f hj => ?_⟩
  · rw [makeCall_recency, mem_touched, makeCall_call, h.recency]
    by_cases hj : j = i <;> simp [hj]
  · exact nodup_touched h.once i
  · have hb : budgetInForce (makeCall i e s) = budgetInForce s := rfl
    rw [hb]
    cases hu : e.uses l with
    | false =>
      refine (reservations_mono fun j hj => ?_).trans (h.budget l)
      by_cases hji : j = i
      · simp [entryUses, makeCall_call, hji, hu] at hj
      · rwa [entryUses_congr (s := s) (by rw [makeCall_call, if_neg hji])] at hj
    | true =>
      have hone := countP_and_ne_add_one (p := entryUses (makeCall i e s) l) (x := i)
        (by simp [entryUses, makeCall_call, hu]) nodup_allCalls (mem_allCalls i)
      have hold : allCalls.countP (fun j => entryUses (makeCall i e s) l j && j != i) ≤ reservations s l := by
        rw [reservations_eq_countP]
        refine List.countP_mono_left fun j _ hj => ?_
        simp only [Bool.and_eq_true, bne_iff_ne] at hj
        rw [entryUses_congr (s := s) (by rw [makeCall_call, if_neg hj.2])] at hj
        exact hj.1
      have := hroom l hu
      rw [reservations_eq_countP]
      omega
  · rw [makeCall_call] at hj
    split at hj
    · cases hj; exact hroutine he
    · exact h.routine he j f hj

theorem makeCall_effect (i : Fin 12) (e : Call) (s : State) : Effect [.calls] [.calls, .refs] s (makeCall i e s) := .of_parts

/-- No entry holds a reference. -/
theorem findRef_eq_none {o x : Nat} {s : State} :
    findRef o x s = none ↔ ∀ (i : Fin 12) (e : Call), s.call i = some e → ¬(e.origin = o ∧ e.originIdx = x) := by
  simp only [findRef, List.find?_eq_none]
  constructor
  · intro h i e hi
    simpa [hi] using h i (mem_allCalls i)
  · intro h i _
    cases hi : s.call i with
    | none => simp
    | some e => simpa using h i e hi

theorem RefsOnce.make {s : State} (h : RefsOnce s) {i : Fin 12} {e : Call} (hnone : findRef e.origin e.originIdx s = none) :
    RefsOnce (makeCall i e s) := by
  rw [findRef_eq_none] at hnone
  intro j k f g hj hk ho hx
  rw [makeCall_call] at hj hk
  split at hj <;> split at hk
  next h1 h2 => exact h1.trans h2.symm
  next =>
    cases hj
    exact absurd ⟨ho.symm, hx.symm⟩ (hnone k g hk)
  next =>
    cases hk
    exact absurd ⟨ho, hx⟩ (hnone j f hj)
  next => exact h j k f g hj hk ho hx

theorem call_of_findRef {o x : Nat} {s : State} {i : Fin 12} (h : findRef o x s = some i) :
    ∃ e, s.call i = some e ∧ e.origin = o ∧ e.originIdx = x := by
  have := List.find?_some h
  cases hc : s.call i with
  | none => simp [hc] at this
  | some e => exact ⟨e, rfl, by simpa [hc] using this⟩

/-- R128 step 1: once the entry under a reference is cleared, no entry holds it. -/
theorem findRef_clearRef {o x : Nat} {s : State} (h : RefsOnce s) : findRef o x (clearRef o x s) = none := by
  unfold clearRef
  split
  next i hi =>
    obtain ⟨e, he, ho, hx⟩ := call_of_findRef hi
    rw [findRef_eq_none]
    intro j f hj ⟨hof, hxf⟩
    rw [clearOwn_call] at hj
    split at hj
    · exact absurd hj (by simp)
    next hji => exact hji (h j i f e hj he (hof.trans ho.symm) (hxf.trans hx.symm))
  next hnone => exact hnone

/-- The calls of a state are those of another, but some that are FREE. -/
def CallsFewer (s t : State) : Prop := ∀ i : Fin 12, t.call i = none ∨ t.call i = s.call i

theorem CallsFewer.trans {s t u : State} (h : CallsFewer s t) (k : CallsFewer t u) : CallsFewer s u := fun i =>
  (k i).elim .inl fun e => (h i).imp e.trans e.trans

theorem CallsFewer.reservations {s t : State} (h : CallsFewer s t) (l : Line) : reservations t l ≤ reservations s l :=
  reservations_mono fun i hi => by
    obtain hn | he := h i
    · rw [entryUses_of_none hn] at hi; exact absurd hi (by simp)
    · rwa [entryUses_congr he] at hi

theorem CallsFewer.free {s t : State} (h : CallsFewer s t) {i : Fin 12} (hi : s.call i = none) : t.call i = none :=
  (h i).elim id fun e => e.trans hi

theorem CallsFewer.findRef {s t : State} (h : CallsFewer s t) {o x : Nat} (hs : findRef o x s = none) :
    Machine.findRef o x t = none := by
  rw [findRef_eq_none] at hs ⊢
  intro i e hi
  obtain hn | he := h i
  · rw [hn] at hi; exact absurd hi (by simp)
  · exact hs i e (he ▸ hi)

theorem clearCall_fewer (i : Fin 12) (c : CallCause) (addr : Nat) (x : Option Line) (s : State) :
    CallsFewer s (clearCall i c addr x s) := fun j => by
  rw [clearCall_call]
  split
  · exact .inl rfl
  · exact .inr rfl

theorem CallsFewer.refl (s : State) : CallsFewer s s := fun _ => .inr rfl

theorem CallsFewer.routine {s t : State} (h : CallsFewer s t) (hl : t.ctu.level = s.ctu.level) (hr : RoutineBarred s) :
    RoutineBarred t := fun he i e hi =>
  (h i).elim (fun hn => absurd (hn.symm.trans hi) (by simp)) fun hs => hr (hl ▸ he) i e (hs ▸ hi)

theorem clearRef_fewer (o x : Nat) (s : State) : CallsFewer s (clearRef o x s) := by
  unfold clearRef
  split
  · exact clearCall_fewer _ _ _ _ s
  · exact .refl s

/-! ## Admission (R125) -/

/-- How many entries use a line and are not among the chosen victims. -/
def usesBeside (s : State) (l : Line) (vs : List (Fin 12)) : Nat :=
  (allCalls.filter fun i => entryUses s l i && !vs.contains i).length

/-- A candidate uses the line and is not yet chosen. -/
theorem candidatesOn_uses {s : State} {l : Line} {vs : List (Fin 12)} {i : Fin 12} (h : i ∈ candidatesOn s l vs) :
    entryUses s l i = true ∧ vs.contains i = false := by
  simpa using (List.mem_filter.mp h).2

theorem newestLowest_mem {s : State} {xs : List (Fin 12)} {i : Fin 12} (h : newestLowest s xs = some i) : i ∈ xs :=
  List.mem_of_find?_eq_some h

theorem usesBeside_append {s : State} {l : Line} {vs : List (Fin 12)} {i : Fin 12} (hu : entryUses s l i = true)
    (hn : vs.contains i = false) : usesBeside s l (vs ++ [i]) + 1 = usesBeside s l vs := by
  have h := countP_and_ne_add_one (p := fun j => entryUses s l j && !vs.contains j) (x := i) (by simp [hu]; simpa using hn)
    nodup_allCalls (mem_allCalls i)
  rw [usesBeside, usesBeside, ← List.countP_eq_length_filter, ← List.countP_eq_length_filter, ← h]
  congr 1
  refine List.countP_congr fun j _ => ?_
  by_cases hj : j = i <;> simp [hj]

theorem usesBeside_mono {s : State} {l : Line} {vs ws : List (Fin 12)} (h : vs ⊆ ws) : usesBeside s l ws ≤ usesBeside s l vs := by
  rw [usesBeside, usesBeside, ← List.countP_eq_length_filter, ← List.countP_eq_length_filter]
  refine List.countP_mono_left fun j _ hj => ?_
  simp only [Bool.and_eq_true, Bool.not_eq_true', List.contains_eq_mem, decide_eq_false_iff_not] at hj ⊢
  exact ⟨hj.1, fun hm => hj.2 (h hm)⟩

theorem usesBeside_le (s : State) (l : Line) (vs : List (Fin 12)) : usesBeside s l vs ≤ reservations s l := by
  have h : usesBeside s l [] = reservations s l := by simp [usesBeside, reservations]
  exact h ▸ usesBeside_mono (List.nil_subset vs)

/-- R125 step 1: a line looked at has room once its victims are cleared. -/
theorem victimOn_room {s : State} {p : Priority} {l : Line} {chosen vs : List (Fin 12)}
    (hb : reservations s l ≤ budgetInForce s) (h : victimOn s p l chosen = some vs) :
    chosen ⊆ vs ∧ usesBeside s l vs < budgetInForce s := by
  unfold victimOn at h
  split at h
  next hroom =>
    cases h
    exact ⟨List.Subset.refl _, hroom⟩
  next =>
    split at h
    next i hi =>
      split at h
      · cases h
        obtain ⟨hu, hn⟩ := candidatesOn_uses (newestLowest_mem hi)
        have h1 := usesBeside_append hu hn
        have h2 := usesBeside_le s l chosen
        exact ⟨List.subset_append_left _ _, by omega⟩
      · exact absurd h (by simp)
    next => exact absurd h (by simp)

theorem victims_room {s : State} {p : Priority} {out inb : Bool} {vs : List (Fin 12)}
    (hb : ∀ l, reservations s l ≤ budgetInForce s) (h : victims s p out inb = some vs) :
    (out = true → usesBeside s .outbye vs < budgetInForce s) ∧ (inb = true → usesBeside s .inbye vs < budgetInForce s) := by
  unfold victims at h
  simp only at h
  cases hout : (if out then victimOn s p .outbye [] else some []) with
  | none => simp [hout] at h
  | some c =>
    simp only [hout] at h
    have hsub : c ⊆ vs ∧ (inb = true → usesBeside s .inbye vs < budgetInForce s) := by
      cases inb with
      | false => cases h; exact ⟨List.Subset.refl _, nofun⟩
      | true =>
        have := victimOn_room (hb .inbye) h
        exact ⟨this.1, fun _ => this.2⟩
    refine ⟨fun ho => ?_, hsub.2⟩
    rw [ho, if_pos rfl] at hout
    exact (usesBeside_mono hsub.1).trans_lt (victimOn_room (hb .outbye) hout).2

/-- The victims of an admission cleared. -/
def preempt (vs : List (Fin 12)) (s : State) : State := forEach vs (fun i t => clearOwn i .preempted t) s

theorem preempt_effect (vs : List (Fin 12)) (s : State) : Effect calling [] s (preempt vs s) :=
  forEach_effect vs (fun i t => clearOwn_effect i _ t) s

theorem preempt_call (vs : List (Fin 12)) (s : State) (j : Fin 12) :
    (preempt vs s).call j = if vs.contains j then none else s.call j := by
  induction vs generalizing s with
  | nil => rfl
  | cons v vs ih =>
    have h : preempt (v :: vs) s = preempt vs (clearOwn v .preempted s) := rfl
    rw [h, ih, clearOwn_call]
    by_cases hj : j = v <;> simp [hj]

theorem preempt_fewer (vs : List (Fin 12)) (s : State) : CallsFewer s (preempt vs s) := fun j => by
  rw [preempt_call]
  split
  · exact .inl rfl
  · exact .inr rfl

theorem reservations_preempt (vs : List (Fin 12)) (l : Line) (s : State) :
    reservations (preempt vs s) l ≤ usesBeside s l vs := by
  rw [reservations_eq_countP, usesBeside, ← List.countP_eq_length_filter]
  refine List.countP_mono_left fun j _ hj => ?_
  cases hc : vs.contains j with
  | true =>
    rw [entryUses_of_none (by rw [preempt_call, hc, if_pos rfl])] at hj
    exact absurd hj (by simp)
  | false =>
    rw [entryUses_congr (s := s) (by rw [preempt_call, hc]; rfl)] at hj
    simp [hj]

theorem freeEntry_none {s : State} {i : Fin 12} (h : freeEntry s = some i) : s.call i = none := by
  simpa using List.find?_some h

/-- R125: an admission clears its victims and finds a FREE entry. -/
theorem admitCall_inr {p : Priority} {out inb : Bool} {s s1 : State} {i : Fin 12} (h : admitCall p out inb s = .inr (s1, i)) :
    ∃ vs, victims s p out inb = some vs ∧ s1 = preempt vs s ∧ freeEntry s1 = some i := by
  unfold admitCall at h
  split at h
  · exact absurd h (by simp)
  next hv =>
    split at h
    next hf => cases h; exact ⟨[], hv, rfl, hf⟩
    next => exact absurd h (by simp)
  next vs hne hv =>
    simp only at h
    split at h
    next hf => cases h; exact ⟨vs, hv, rfl, hf⟩
    next => exact absurd h (by simp)

/-- What an admission leaves: victims cleared, a FREE entry, and room on the lines asked for. -/
structure Admitted (out inb : Bool) (i : Fin 12) (s t : State) : Prop where
  effect : Effect calling [] s t
  fewer : CallsFewer s t
  free : t.call i = none
  room : CallsKept s → ∀ l, (l = .outbye ∧ out = true ∨ l = .inbye ∧ inb = true) → reservations t l < budgetInForce t

theorem admitCall_admitted {p : Priority} {out inb : Bool} {s s1 : State} {i : Fin 12} (h : admitCall p out inb s = .inr (s1, i)) :
    Admitted out inb i s s1 := by
  obtain ⟨vs, hv, rfl, hf⟩ := admitCall_inr h
  refine ⟨preempt_effect vs s, preempt_fewer vs s, freeEntry_none hf, fun hs l hl => ?_⟩
  rw [(preempt_effect vs s).budgetInForce]
  obtain ⟨ho, hi⟩ := victims_room hs.budget hv
  refine (reservations_preempt vs l s).trans_lt ?_
  obtain ⟨rfl, h1⟩ | ⟨rfl, h1⟩ := hl
  · exact ho h1
  · exact hi h1

/-- An entry made where an admission found room, perhaps after more entries have been freed. -/
theorem make_admitted_effect {lost : List Law} {out inb : Bool} {i : Fin 12} {e : Call} {s s1 t : State} (h : Admitted out inb i s s1)
    (ht : Effect calling [] s1 t) (hfew : CallsFewer s1 t)
    (huse : ∀ l, e.uses l = true → l = .outbye ∧ out = true ∨ l = .inbye ∧ inb = true)
    (hroutine : s.ctu.level = .evacuate → e.priority ≠ .routine)
    (href : .refs ∉ lost → RefsOnce s → findRef e.origin e.originIdx t = none) : Effect calling lost s (makeCall i e t) := by
  have hst : Effect calling [] s t := h.effect.trans ht
  have hlevel : t.ctu.level = s.ctu.level := hst.same .ctuLevel (by decide)
  have hall : Effect calling [.calls, .refs] s (makeCall i e t) := hst.seq (makeCall_effect i e t)
  have hcalls : Effect calling [.refs] s (makeCall i e t) := by
    refine hall.regain .calls fun hs => ?_
    refine (hst.keeps .calls (by simp) hs).make (fun l hl => ?_) (hlevel ▸ hroutine)
    rw [ht.budgetInForce]
    exact (hfew.reservations l).trans_lt (h.room hs l (huse l hl))
  exact hcalls.regain_unless .refs fun hl hs => RefsOnce.make (hst.keeps .refs (by simp) hs) (href hl hs)

/-! ## Received signalling (R127 to R131, R133) -/

theorem refuseSetup_effect (l : Line) (payload : Bytes) (c : CallCause) (s : State) :
    Effect telling [] s (refuseSetup l payload c s) := sendAdjacent_effect ..

theorem handleSetup_effect {lost : List Law} {l : Line} {src : Nat} {payload : Bytes} {p : Priority} {s : State}
    (href : .refs ∉ lost → findRef (byteAt payload 0) (byteAt payload 1) s = none) :
    Effect calling lost s (handleSetup l src payload p s) := by
  unfold handleSetup
  simp only
  split
  · exact (refuseSetup_effect ..).mono (by decide) (List.nil_subset _)
  split
  · exact (refuseSetup_effect ..).mono (by decide) (List.nil_subset _)
  next hroutine =>
    split
    · exact (refuseSetup_effect ..).mono (by decide) (List.nil_subset _)
    split
    · exact (refuseSetup_effect ..).mono (by decide) (List.nil_subset _)
    next s1 i hadmit =>
      have hadm := admitCall_admitted hadmit
      have hr : s.ctu.level = .evacuate → p ≠ .routine := fun h1 h2 => hroutine (by simp [h1, h2])
      split
      · refine Effect.trans (t := _) ((make_admitted_effect hadm (.refl s1) (.refl s1) (fun k hk => ?_) hr
          fun h _ => hadm.fewer.findRef (href h)).trans ((post_effect ..).mono (by decide) (List.nil_subset _))) ((sendAdjacent_effect ..).mono (by decide) (List.nil_subset _))
        obtain ⟨u, hu, rfl⟩ | ⟨f, hf, -⟩ := (Call.uses_iff _ _).mp hk
        · cases hu; cases l <;> simp
        · cases hf
      next hdest =>
        refine Effect.trans (make_admitted_effect hadm (.refl s1) (.refl s1) (fun k hk => ?_) hr
          fun h _ => hadm.fewer.findRef (href h)) ((sendAdjacent_effect ..).mono (by decide) (List.nil_subset _))
        obtain ⟨u, hu, rfl⟩ | ⟨f, hf, rfl⟩ := (Call.uses_iff _ _).mp hk
        · cases hu; cases l <;> simp
        · cases hf
          cases onwardLine (byteAt payload 3) s <;> simp [hdest]

theorem callSetup_effect (l : Line) (src : Nat) (payload : Bytes) (s : State) : Effect calling [] s (callSetup l src payload s) := by
  unfold callSetup
  split
  · exact .refl s
  split
  · refine Effect.regain .refs (((clearRef_effect ..).mono).trans (handleSetup_effect (by simp))) fun h => ?_
    exact (handleSetup_effect fun _ => findRef_clearRef h).keeps .refs (List.not_mem_nil) ((clearRef_effect ..).keeps .refs (by simp) h)
  · exact .refl s

end Sys2Proof.Machine
end

section
/-! PROOFS. The Call Table Unit, continued: signalling, timers, voice, shedding and the hand-overs (R127 to R143). -/

namespace Sys2Proof.Machine

-- Declarations are elaborated one after another: in a text of this length the threads of many at once would not fit the memory limit.
set_option Elab.async false

/-! ## Alerting, connecting, refusing (R129, R131, R133) -/

theorem setFarIndex_effect (i : Fin 12) (x : Nat) (s : State) : Effect [.calls] [] s (setFarIndex i x s) :=
  modCall_effect (f := fun e => { e with far := e.far.map fun f => { f with index := some x } })
    (fun e => .of_sides rfl (by cases e.far <;> rfl) rfl rfl rfl) i s

theorem sendUpstream_effect (k : Nat) (i : Fin 12) (s : State) : Effect telling [] s (sendUpstream k i s) := by
  unfold sendUpstream
  split
  · exact sendAdjacent_effect ..
  · exact .refl s

theorem callAlerting_effect (l : Line) (src : Nat) (payload : Bytes) (s : State) :
    Effect calling [] s (callAlerting l src payload s) := by
  unfold callAlerting
  split
  · exact .refl s
  split
  · exact (sendAdjacent_effect ..).mono
  next i _ =>
    have hfar := (setFarIndex_effect i (byteAt payload 2) s).mono (rs := calling) (out := [])
    simp only
    split
    next e _ =>
      split
      · have hring := hfar.trans ((modCall_effect (f := fun e => { e with state := .ringing, timer := 0 })
          (fun _ => .of_sides rfl rfl rfl rfl rfl) i (setFarIndex i (byteAt payload 2) s)).mono)
        split
        · exact hring.trans (sendUpstream_effect ..).mono
        · exact hring.trans (postCallState_effect ..).mono
      · exact hfar
    next => exact hfar

theorem connectCall_effect {i : Fin 12} {s : State} (h : (s.call i).isSome = true) : Effect [.calls] [] s (connectCall i s) :=
  (modCall_effect (f := fun e => { e with state := .connected, timer := 0, silence := ⟨0, 0⟩, connected := some s.now })
    (fun _ => .of_sides rfl rfl rfl rfl rfl) i s).trans (touchRecency_effect (by rwa [modCall_isSome]))

theorem callConnect_effect (l : Line) (src : Nat) (payload : Bytes) (s : State) :
    Effect calling [] s (callConnect l src payload s) := by
  unfold callConnect
  split
  · exact .refl s
  split
  · exact (sendAdjacent_effect ..).mono
  next i _ =>
    have hfar := (setFarIndex_effect i (byteAt payload 2) s).mono (rs := calling) (out := [])
    simp only
    split
    next e he =>
      split
      · exact hfar
      · have hcon := hfar.trans (connectCall_effect (by rw [he]; rfl)).mono
        split
        · exact hcon.trans (sendUpstream_effect ..).mono
        · exact hcon.trans (postCallState_effect ..).mono
    next => exact hfar

theorem callRefused_effect (l : Line) (src : Nat) (payload : Bytes) (s : State) :
    Effect calling [] s (callRefused l src payload s) := by
  unfold callRefused
  split
  · exact .refl s
  split
  · exact .refl s
  split
  · split
    · exact (sendAdjacent_effect ..).mono.trans (freeCall_effect ..)
    · exact clearCall_effect ..
  · exact .refl s

theorem callCleared_effect (l : Line) (src : Nat) (payload : Bytes) (s : State) :
    Effect calling [] s (callCleared l src payload s) := by
  unfold callCleared
  split
  · exact .refl s
  split
  · exact .refl s
  · exact clearCall_effect ..

/-! ## Timers (R135) -/

theorem stateTimerTick_effect (i : Fin 12) (s : State) : Effect calling [] s (stateTimerTick i s) := by
  unfold stateTimerTick
  split
  · exact clearOwn_effect ..
  · refine (modCall_effect (fun e => ?_) i s).mono
    split <;> exact .of_sides rfl rfl rfl rfl rfl

theorem silenceTick_effect (i : Fin 12) (s : State) : Effect calling [] s (silenceTick i s) := by
  unfold silenceTick
  split
  · exact clearOwn_effect ..
  · refine (modCall_effect (fun e => ?_) i s).mono
    split <;> exact .of_sides rfl rfl rfl rfl rfl

theorem ctuRound_effect (s : State) : Effect calling [] s (ctuRound s) :=
  forEach_effect allCalls (fun i t => (stateTimerTick_effect i t).trans (silenceTick_effect i _)) s

/-! ## Voice (R136 to R139) -/

/-- Supplying a cell takes from an entry's buffers alone. -/
theorem callCellFor_like {e f : Call} {l : Line} {a n : Nat} {c : Cell} (h : callCellFor e l a n = some (c, f)) : e.Like f := by
  have keep : e.Like e := .of_sides rfl rfl rfl rfl rfl
  unfold callCellFor at h
  split at h
  · exact absurd h (by simp)
  simp only at h
  split at h
  · cases h; exact keep
  split at h
  · split at h <;> cases h <;> exact .of_sides rfl rfl rfl rfl rfl
  · split at h <;> cases h <;> exact .of_sides rfl rfl rfl rfl rfl

theorem callCells_effect (l : Line) (is : List (Fin 12)) (s : State) : Effect [.calls] [] s (callCells l is s).2 := by
  induction is generalizing s with
  | nil => exact .refl s
  | cons i is ih =>
    unfold callCells
    split
    next e he =>
      split
      · split
        next c f hc => exact (setCall_like_effect he (callCellFor_like hc)).trans (ih _)
        next => exact ih s
      · exact ih s
    next => exact ih s

theorem takeCallCell_like (e : Call) (l : Line) (v : Option Bytes) : e.Like (takeCallCell e l v) := by
  unfold takeCallCell
  simp only
  split
  · split <;> exact .of_sides rfl rfl rfl rfl rfl
  · exact .of_sides rfl rfl rfl rfl rfl

theorem callCell_effect (l : Line) (src index : Nat) (v : Option Bytes) (s : State) :
    Effect [.calls] [] s (callCell l src index v s) := by
  unfold callCell
  split
  · exact .refl s
  split
  · split
    next e he =>
      split
      · exact setCall_like_effect he (takeCallCell_like e l v)
      · exact .refl s
    next => exact .refl s
  · exact .refl s

/-! ## Shedding (R124, R142) -/

theorem shedLine_effect (c : CallCause) (l : Line) (n : Nat) (s : State) : Effect calling [] s (shedLine c l n s) := by
  induction n generalizing s with
  | zero => exact .refl s
  | succ n ih =>
    unfold shedLine
    split
    · exact .refl s
    split
    · exact (clearOwn_effect ..).trans (ih _)
    · exact .refl s

theorem shed_effect (c : CallCause) (s : State) : Effect calling [] s (shed c s) :=
  (shedLine_effect ..).trans (shedLine_effect ..)

theorem callPriority_le (s : State) (i : Fin 12) : callPriority s i ≤ 3 := by
  unfold callPriority
  split
  next e _ => cases e.priority <;> decide
  next => exact Nat.le_refl 3

/-- The lowest priority of a list is that of one of its entries, or 3. -/
theorem foldl_min_mem (s : State) (xs : List (Fin 12)) (m : Nat) :
    xs.foldl (fun m i => min m (callPriority s i)) m = m
      ∨ ∃ i ∈ xs, callPriority s i = xs.foldl (fun m i => min m (callPriority s i)) m := by
  induction xs generalizing m with
  | nil => exact .inl rfl
  | cons x xs ih =>
    rw [List.foldl_cons]
    obtain h | ⟨i, hi, h⟩ := ih (min m (callPriority s x))
    · rw [h]
      rcases Nat.le_total m (callPriority s x) with hle | hle
      · exact .inl (Nat.min_eq_left hle)
      · exact .inr ⟨x, List.mem_cons_self, (Nat.min_eq_right hle).symm⟩
    · exact .inr ⟨i, List.mem_cons_of_mem _ hi, h⟩

theorem foldl_min_le (s : State) (xs : List (Fin 12)) (m : Nat) :
    xs.foldl (fun m i => min m (callPriority s i)) m ≤ m
      ∧ ∀ i ∈ xs, xs.foldl (fun m i => min m (callPriority s i)) m ≤ callPriority s i := by
  induction xs generalizing m with
  | nil => exact ⟨Nat.le_refl m, nofun⟩
  | cons x xs ih =>
    rw [List.foldl_cons]
    obtain ⟨h1, h2⟩ := ih (min m (callPriority s x))
    refine ⟨h1.trans (Nat.min_le_left ..), fun i hi => ?_⟩
    obtain rfl | hi := List.mem_cons.mp hi
    · exact h1.trans (Nat.min_le_right ..)
    · exact h2 i hi

/-- Among candidates there is a newest of the lowest priority. -/
theorem newestLowest_isSome {s : State} {xs : List (Fin 12)} (h : xs ≠ []) : ∃ i, newestLowest s xs = some i := by
  rw [← Option.isSome_iff_exists]
  unfold newestLowest
  rw [List.find?_isSome]
  obtain h3 | ⟨i, hi, hp⟩ := foldl_min_mem s xs 3
  · obtain ⟨x, hx⟩ := List.exists_mem_of_ne_nil xs h
    have hle := (foldl_min_le s xs 3).2 x hx
    have := callPriority_le s x
    exact ⟨x, hx, by simp only [beq_iff_eq]; omega⟩
  · exact ⟨i, hi, by simpa using hp⟩

/-- Where the calls of a line exceed the budget, one of them can be cleared. -/
theorem candidatesOn_ne_nil {s : State} {l : Line} (h : ∀ i : Fin 12, (s.call i).isSome = true → i ∈ s.ctu.recency)
    (hr : 0 < reservations s l) : candidatesOn s l [] ≠ [] := by
  obtain ⟨i, hi⟩ := List.exists_mem_of_length_pos hr
  have hu := (List.mem_filter.mp hi).2
  have hs : (s.call i).isSome = true := by
    cases hc : s.call i with
    | none => simp [entryUses, hc] at hu
    | some e => rfl
  refine List.ne_nil_of_mem (a := i) (List.mem_filter.mpr ⟨List.mem_reverse.mpr (h i hs), by simp [hu]⟩)

theorem CallsListed.clearOwn {s : State} (h : CallsListed s) (i : Fin 12) (c : CallCause) : CallsListed (clearOwn i c s) :=
  h.clear i c _ none

theorem reservations_clearOwn {i : Fin 12} {c : CallCause} {l : Line} {s : State} (h : entryUses s l i = true) :
    reservations (clearOwn i c s) l + 1 = reservations s l := by
  have he : reservations (clearOwn i c s) l = reservations (freeCall i s) l := by
    have : entryUses (clearOwn i c s) l = entryUses (freeCall i s) l := by
      funext j
      exact entryUses_congr (by rw [clearOwn_call, freeCall_call]) l
    simp only [reservations, this]
  rw [he]
  exact reservations_freeCall h

theorem shedLine_fewer (c : CallCause) (l : Line) (n : Nat) (s : State) : CallsFewer s (shedLine c l n s) := by
  induction n generalizing s with
  | zero => exact .refl s
  | succ n ih =>
    unfold shedLine
    split
    · exact .refl s
    split
    · exact CallsFewer.trans (clearCall_fewer _ _ _ _ s) (ih _)
    · exact .refl s

/-- R124, R142: as many clears as a line is over its budget bring it within. -/
theorem shedLine_within (c : CallCause) (l : Line) (n : Nat) (s : State) (h : CallsListed s)
    (hn : reservations s l ≤ n + budgetInForce s) :
    CallsListed (shedLine c l n s) ∧ reservations (shedLine c l n s) l ≤ budgetInForce s := by
  induction n generalizing s with
  | zero => exact ⟨h, by simpa [shedLine] using hn⟩
  | succ n ih =>
    unfold shedLine
    split
    next hw => exact ⟨h, hw⟩
    next hover =>
      obtain ⟨i, hi⟩ := newestLowest_isSome (s := s) (candidatesOn_ne_nil (l := l) (fun i => (h.recency i).mpr) (by omega))
      rw [hi]
      have huse := (candidatesOn_uses (newestLowest_mem hi)).1
      have hone := reservations_clearOwn (c := c) huse
      have hb := (clearOwn_effect i c s).budgetInForce
      obtain ⟨h1, h2⟩ := ih (clearOwn i c s) (h.clearOwn i c) (by omega)
      exact ⟨h1, hb ▸ h2⟩

theorem reservations_le (s : State) (l : Line) : reservations s l ≤ 12 := List.length_filter_le _ _

/-- R124, R142: shedding brings both lines within the budget. -/
theorem shed_kept {s : State} (h : CallsListed s) (hr : RoutineBarred s) (c : CallCause) : CallsKept (shed c s) := by
  have hall (l : Line) (t : State) : reservations t l ≤ 12 + budgetInForce t := (reservations_le t l).trans (Nat.le_add_right ..)
  obtain ⟨h1, o1⟩ := shedLine_within c .outbye 12 s h (hall ..)
  obtain ⟨h2, i2⟩ := shedLine_within c .inbye 12 _ h1 (hall ..)
  have hb1 := (shedLine_effect c .outbye 12 s).budgetInForce
  have hb : budgetInForce (shed c s) = budgetInForce s := (shed_effect c s).budgetInForce
  have hsecond := shedLine_fewer c .inbye 12 (shedLine c .outbye 12 s)
  refine h2.kept (fun l => ?_)
    ((CallsFewer.trans (shedLine_fewer c .outbye 12 s) hsecond).routine ((shed_effect c s).same .ctuLevel (by decide)) hr)
  refine le_of_le_of_eq ?_ hb.symm
  cases l with
  | outbye => exact (hsecond.reservations .outbye).trans o1
  | inbye => exact hb1 ▸ i2

/-- R142: a supply mode handed over. -/
theorem ctuSupplyMode_effect (m : SupplyMode) (s : State) : Effect (.ctuMode :: calling) [.modes] s (ctuSupplyMode m s) := by
  have hset : Effect [.ctuMode] [.calls, .modes] s (s.updCtu fun c => { c with supplyMode := m }) := .of_parts
  refine (hset.seq (shed_effect .supply _) : Effect (.ctuMode :: calling) [.calls, .modes] s _).regain .calls fun hs => ?_
  exact shed_kept (s := s.updCtu fun c => { c with supplyMode := m }) ⟨hs.recency, hs.once⟩ hs.routine .supply

/-- R124: a budget set. -/
theorem shedBudget_effect (n : Nat) (s : State) :
    Effect (.budget :: calling) [] s (shed .budget (s.updCtu fun c => { c with budgetSet := n })) := by
  have hset : Effect [.budget] [.calls] s (s.updCtu fun c => { c with budgetSet := n }) := .of_parts
  refine (hset.seq (shed_effect .budget _) : Effect (.budget :: calling) [.calls] s _).regain .calls fun hs => ?_
  exact shed_kept (s := s.updCtu fun c => { c with budgetSet := n }) ⟨hs.recency, hs.once⟩ hs.routine .budget

/-! ## The section level (R140) and the trunk (R143) -/

/-- R140: one entry at a rise to EVACUATE. -/
def clearRoutine (i : Fin 12) (t : State) : State :=
  match t.call i with
  | some e => if e.priority = .routine then clearOwn i .evacuation t else t
  | none => t

theorem clearRoutine_effect (i : Fin 12) (t : State) : Effect calling [] t (clearRoutine i t) := by
  unfold clearRoutine
  split
  · split
    · exact clearOwn_effect ..
    · exact .refl t
  · exact .refl t

theorem ctuSectionLevel_eq (l : SectionLevel) (s : State) : ctuSectionLevel l s =
    if s.ctu.level != .evacuate && l = .evacuate then forEach allCalls clearRoutine (s.updCtu fun c => { c with level := l })
    else s.updCtu fun c => { c with level := l } := rfl

/-- An entry still in use once it has been looked at is not ROUTINE. -/
theorem call_clearRoutine {i j : Fin 12} {e : Call} {t : State} (h : (clearRoutine i t).call j = some e) :
    t.call j = some e ∧ (j = i → e.priority ≠ .routine) := by
  unfold clearRoutine at h
  split at h
  next f hf =>
    split at h
    next =>
      rw [clearOwn_call] at h
      split at h
      · exact absurd h (by simp)
      next hj => exact ⟨h, fun e => absurd e hj⟩
    next hr =>
      refine ⟨h, fun hj => ?_⟩
      rw [hj, hf] at h
      cases h
      exact hr
  next hn => exact ⟨h, fun hj => by rw [hj, hn] at h; exact absurd h (by simp)⟩

theorem call_forEach_clearRoutine {xs : List (Fin 12)} {j : Fin 12} {e : Call} {s : State}
    (h : (forEach xs clearRoutine s).call j = some e) : s.call j = some e ∧ (j ∈ xs → e.priority ≠ .routine) := by
  induction xs generalizing s with
  | nil => exact ⟨h, nofun⟩
  | cons x xs ih =>
    obtain ⟨h1, h2⟩ := ih (s := clearRoutine x s) h
    obtain ⟨h3, h4⟩ := call_clearRoutine h1
    exact ⟨h3, fun hj => (List.mem_cons.mp hj).elim h4 h2⟩

theorem forEach_clearRoutine_listed (xs : List (Fin 12)) {s : State} (h : CallsListed s) :
    CallsListed (forEach xs clearRoutine s) := by
  induction xs generalizing s with
  | nil => exact h
  | cons x xs ih =>
    refine ih (s := clearRoutine x s) ?_
    unfold clearRoutine
    split
    · split
      · exact h.clearOwn ..
      · exact h
    · exact h

theorem forEach_clearRoutine_fewer (xs : List (Fin 12)) (s : State) : CallsFewer s (forEach xs clearRoutine s) := fun i => by
  cases hi : (forEach xs clearRoutine s).call i with
  | none => exact .inl rfl
  | some e => exact .inr (call_forEach_clearRoutine hi).1.symm

/-- R140: a section level handed over. -/
theorem ctuSectionLevel_effect (l : SectionLevel) (s : State) :
    Effect (.ctuLevel :: calling) [.levels] s (ctuSectionLevel l s) := by
  have hset : Effect [.ctuLevel] [.calls, .levels] s (s.updCtu fun c => { c with level := l }) := .of_parts
  rw [ctuSectionLevel_eq]
  split
  next =>
    have hclear := forEach_effect allCalls clearRoutine_effect (s.updCtu fun c => { c with level := l })
    refine (hset.seq hclear : Effect (.ctuLevel :: calling) [.calls, .levels] s _).regain .calls fun hs => ?_
    refine (forEach_clearRoutine_listed allCalls (s := s.updCtu fun c => { c with level := l }) ⟨hs.recency, hs.once⟩).kept
      (fun k => ?_) fun _ i e hi => (call_forEach_clearRoutine hi).2 (mem_allCalls i)
    rw [hclear.budgetInForce]
    exact ((forEach_clearRoutine_fewer _ _).reservations k).trans (hs.budget k)
  next hstay =>
    refine Effect.regain .calls hset.mono fun hs => ⟨hs.recency, hs.once, hs.budget, fun hl => hs.routine ?_⟩
    have hl' : l = .evacuate := hl
    simpa [hl'] using hstay

theorem ctuTrunkLost_effect (s : State) : Effect calling [] s (ctuTrunkLost s) :=
  forEach_effect allCalls (fun i t => clearOwn_effect i _ t) s

theorem ctuHalt_effect (s : State) : Effect calling [] s (ctuHalt s) := forEach_effect allCalls haltCall_effect s

/-! ## The port commands (R126, R130, R134, R139) -/

theorem openEntry_effect {p : Priority} {l : Line} {caller dest : Nat} {callee : Option Nat} {s s1 : State} {i : Fin 12}
    (h : Admitted (l = .outbye) (l = .inbye) i s s1) (hr : s.ctu.level = .evacuate → p ≠ .routine) :
    Effect calling [] s (openEntry i p l caller dest callee s1) := by
  unfold openEntry
  simp only
  refine Effect.trans (Effect.trans (make_admitted_effect h (clearRef_effect _ _ s1) (clearRef_fewer _ _ s1) (fun k hk => ?_) hr
    fun _ hs => findRef_clearRef (h.effect.keeps .refs (by simp) hs)) (sendAdjacent_effect ..).mono) (postCallState_effect ..).mono
  obtain ⟨u, hu, -⟩ | ⟨f, hf, rfl⟩ := (Call.uses_iff _ _).mp hk
  · cases hu
  · cases hf; cases l <;> simp

theorem openCall_effect (params : Bytes) (s : State) : Effect calling [] s (openCall params s).1 := by
  unfold openCall
  simp only
  split
  · exact .refl s
  split
  · exact .refl s
  split
  · exact .refl s
  next hbar =>
    split
    · exact .refl s
    next s1 i hadmit =>
      refine openEntry_effect (admitCall_admitted hadmit) fun h1 h2 => hbar ?_
      simp [openBarred, h1, h2]

theorem answerCall_effect {i : Fin 12} {s : State} (h : (s.call i).isSome = true) : Effect calling [] s (answerCall i s) := by
  have hc := ((connectCall_effect h).mono (rs := calling) (out := [])).trans (sendUpstream_effect kCallConnect i _).mono
  unfold answerCall
  simp only
  split
  · exact hc.trans (postCallState_effect ..).mono
  · exact hc

theorem isSome_of_ringing {e : Option Call} (h : ringing e = true) : e.isSome = true := by
  cases e with
  | none => exact absurd h (by simp [ringing])
  | some e => rfl

theorem call_of_voiceEntry {s : State} {i : Fin 12} {e : Call} (h : voiceEntry s i = some e) : s.call i = some e := by
  unfold voiceEntry at h
  split at h
  next f hf =>
    split at h
    · cases h; exact hf
    · exact absurd h (by simp)
  next => exact absurd h (by simp)

end Sys2Proof.Machine
end

section
/-! PROOFS. The Vehicle Unit: its operations touch vehicle entries and the roadway block and report, give no DIESEL vehicle an order
the node methane level bars, and keep the member and wait lists within capacity (R146 to R163). -/

namespace Sys2Proof.Machine

-- Declarations are elaborated one after another: in a text of this length the threads of many at once would not fit the memory limit.
set_option Elab.async false

/-- What the Vehicle Unit's operations touch. -/
abbrev driving : List Part := .vehicles :: .road :: telling

/-! ## Entries (R152, R153) -/

/-- R153: an order a vehicle may carry under a node methane level. -/
def DieselOk (m : GasLevel) (v : Vehicle) : Prop :=
  v.kind = .diesel → (m = .trip → v.order ≠ .proceed ∧ v.order ≠ .evacuate) ∧ (m = .alarm → v.heading ≠ .outbye → v.order ≠ .proceed)

theorem DieselEntry.set {i j : Fin 16} {x : Option Vehicle} {s : State} (h : DieselEntry i s)
    (hx : i = j → ∀ v, x = some v → DieselOk s.vu.methane v) : DieselEntry i (s.setVehicle j x) := by
  intro v hv
  by_cases hij : i = j
  · subst hij
    exact hx rfl v (by simpa using hv)
  · exact h v (by rwa [State.vehicle_setVehicle_of_ne _ _ _ _ hij] at hv)

theorem setVehicle_effect {j : Fin 16} {x : Option Vehicle} {s : State} (hx : ∀ v, x = some v → DieselOk s.vu.methane v) :
    Effect [.vehicles] [] s (s.setVehicle j x) := .of_parts (diesel := fun _ _ h => h.set fun _ => hx)

theorem freeVehicle_effect (j : Fin 16) (s : State) : Effect [.vehicles] [] s (s.setVehicle j none) :=
  setVehicle_effect fun v h => absurd h (by simp)

theorem modVehicle_of_some {i : Fin 16} {f : Vehicle → Vehicle} {v : Vehicle} {s : State} (h : s.vehicle i = some v) :
    modVehicle i f s = s.setVehicle i (some (f v)) := by simp [modVehicle, h]

theorem modVehicle_of_none {i : Fin 16} {f : Vehicle → Vehicle} {s : State} (h : s.vehicle i = none) : modVehicle i f s = s := by
  simp [modVehicle, h]

/-- An entry changed without regard to its order: only that entry's order may now be barred. -/
theorem modVehicle_effect_lost (i : Fin 16) (f : Vehicle → Vehicle) (s : State) :
    Effect [.vehicles] [.diesel i] s (modVehicle i f s) := by
  cases h : s.vehicle i with
  | none => rw [modVehicle_of_none h]; exact .refl s
  | some v =>
    rw [modVehicle_of_some h]
    refine .of_parts (diesel := fun j hj hs => hs.set fun e => ?_)
    subst e
    exact absurd hj (by simp [Law.due])

/-- An entry changed so that an order allowed stays allowed. -/
theorem modVehicle_effect {i : Fin 16} {f : Vehicle → Vehicle} {s : State}
    (hf : ∀ v, DieselOk s.vu.methane v → DieselOk s.vu.methane (f v)) : Effect [.vehicles] [] s (modVehicle i f s) := by
  refine (modVehicle_effect_lost i f s).regain (.diesel i) fun hs => ?_
  cases h : s.vehicle i with
  | none => rwa [modVehicle_of_none h]
  | some v =>
    rw [modVehicle_of_some h]
    exact DieselEntry.set hs fun _ w hw => Option.some.inj hw ▸ hf v (hs v h)

theorem vehicle_modVehicle (i : Fin 16) (f : Vehicle → Vehicle) (s : State) :
    (modVehicle i f s).vehicle i = (s.vehicle i).map f := by
  cases h : s.vehicle i with
  | none => rw [modVehicle_of_none h, h]; rfl
  | some v => rw [modVehicle_of_some h]; simp

theorem vehicle_modVehicle_of_ne {i j : Fin 16} (f : Vehicle → Vehicle) (s : State) (h : j ≠ i) :
    (modVehicle i f s).vehicle j = s.vehicle j := by
  cases hv : s.vehicle i with
  | none => rw [modVehicle_of_none hv]
  | some v => rw [modVehicle_of_some hv, State.vehicle_setVehicle_of_ne _ _ _ _ h]

/-- R152: the table gives no DIESEL vehicle an order the node methane level bars. -/
theorem orderOf_dieselOk (s : State) (v w : Vehicle) (hk : w.kind = v.kind) (hh : w.heading = v.heading)
    (ho : w.order = orderOf s v) : DieselOk s.vu.methane w := by
  intro hd
  rw [hk] at hd
  rw [hh, ho]
  constructor
  · intro ht
    have hl : orderLine s v = 1 := by simp [orderLine, hd, ht]
    simp [orderOf, hl]
  · intro ha hnot
    have hl : orderLine s v = if v.manualStop then 2 else if s.vu.level = .evacuate then 3 else 4 := by
      simp [orderLine, hd, ha, hnot]
    unfold orderOf
    rw [hl]
    cases v.manualStop
    · by_cases he : s.vu.level = .evacuate
      · simp only [Bool.false_eq_true, if_false, he, if_true]
        split <;> simp
      · simp [he]
    · simp

/-- R153: what a derivation makes of an entry. -/
def Vehicle.derived (s : State) (v : Vehicle) : Vehicle :=
  if orderOf s v = v.order then v else { v with order := orderOf s v, echoOk := false }

theorem Vehicle.derived_order (s : State) (v : Vehicle) : (v.derived s).order = orderOf s v := by
  unfold Vehicle.derived
  split
  next h => exact h.symm
  next => rfl

theorem Vehicle.derived_kind (s : State) (v : Vehicle) : (v.derived s).kind = v.kind := by
  unfold Vehicle.derived
  split <;> rfl

theorem Vehicle.derived_heading (s : State) (v : Vehicle) : (v.derived s).heading = v.heading := by
  unfold Vehicle.derived
  split <;> rfl

theorem deriveOrder_eq (i : Fin 16) (s : State) : deriveOrder i s = modVehicle i (Vehicle.derived s) s := rfl

theorem derived_dieselOk (s : State) (v : Vehicle) : DieselOk s.vu.methane (v.derived s) :=
  orderOf_dieselOk s v _ (v.derived_kind s) (v.derived_heading s) (v.derived_order s)

theorem deriveOrder_effect (i : Fin 16) (s : State) : Effect driving [] s (deriveOrder i s) :=
  (modVehicle_effect fun v _ => derived_dieselOk s v).mono

/-- A derivation leaves its own entry with an order it may carry, whatever it held. -/
theorem deriveOrder_entry (i : Fin 16) (s : State) : DieselEntry i (deriveOrder i s) := by
  intro v hv
  have hm : (deriveOrder i s).vu.methane = s.vu.methane := (deriveOrder_effect i s).same .vuMethane (by decide)
  rw [deriveOrder_eq, vehicle_modVehicle] at hv
  obtain ⟨w, -, rfl⟩ := Option.map_eq_some_iff.mp hv
  rw [hm]
  exact derived_dieselOk s w

/-- A change of role, request or the counts of an entry leaves its order allowed. -/
theorem setRole_effect {i : Fin 16} {f : Vehicle → Vehicle} {s : State}
    (hf : ∀ v, (f v).kind = v.kind ∧ (f v).heading = v.heading ∧ (f v).order = v.order := by intro v; exact ⟨rfl, rfl, rfl⟩) :
    Effect driving [] s (modVehicle i f s) := by
  refine (modVehicle_effect fun v h => ?_).mono (by decide) (List.nil_subset _)
  obtain ⟨h1, h2, h3⟩ := hf v
  unfold DieselOk
  rw [h1, h2, h3]
  exact h

/-! ## Granting (R157) -/

theorem convoyInForce_le {s : State} (h : RoadWithin s.vu) : convoyInForce s ≤ 4 := by
  unfold convoyInForce
  split
  · exact Nat.le_refl 4
  · exact h.convoy

/-- R157: a grantable wait entry moved to the members. -/
theorem moveToMembers_effect {w : Wait} {rest : List Wait} {s : State} {m : Member} (hg : grantable s w = true)
    (hw : s.vu.waits = w :: rest) :
    Effect [.road] [] s (s.updVu fun u => { u with
      waits := rest, dir := w.dir, members := u.members.filter (fun m => m.id != w.id) ++ [m] }) := by
  refine .of_parts (capacity := fun _ h => h.of_road rfl rfl fun hr => ⟨?_, ?_, hr.convoy⟩)
  · have := hr.waits
    rw [hw, List.length_cons] at this
    exact Nat.le_of_succ_le this
  · have hlt : s.vu.members.length < convoyInForce s := by
      simp only [grantable, Bool.and_eq_true, decide_eq_true_eq] at hg
      exact hg.2
    have h4 := convoyInForce_le hr
    have hf := List.length_filter_le (fun m => m.id != w.id) s.vu.members
    simp only [State.updVu_vu, List.length_append, List.length_singleton]
    omega

theorem grantOne_effect {w : Wait} {rest : List Wait} {s : State} (hg : grantable s w = true) (hw : s.vu.waits = w :: rest) :
    Effect driving [] s (grantOne w rest s) := by
  have hmove := (moveToMembers_effect (m := { id := w.id, round := s.tb.running, age := 0, overdue := false }) hg hw).mono
    (rs := driving) (out := [])
  unfold grantOne
  simp only
  split
  · exact hmove.trans (sendAdjacent_effect ..).mono
  · split
    · exact (hmove.trans setRole_effect).trans (deriveOrder_effect ..)
    · exact hmove

theorem grantLoop_effect (n : Nat) (s : State) : Effect driving [] s (grantLoop n s) := by
  induction n generalizing s with
  | zero => exact .refl s
  | succ n ih =>
    unfold grantLoop
    split
    · exact .refl s
    next w rest hw =>
      split
      next hg => exact (grantOne_effect hg hw).trans (ih _)
      next => exact .refl s

theorem reexamine_effect (s : State) : Effect driving [] s (reexamine s) := grantLoop_effect ..

/-! ## Leaving and joining the lists (R158 to R161) -/

/-- Wait entries and members are taken away. -/
theorem shrinkRoad_effect {d : BlockDirection} {ms : List Member} {ws : List Wait} {s : State}
    (hm : ms.length ≤ s.vu.members.length) (hw : ws.length ≤ s.vu.waits.length) :
    Effect driving [] s (s.updVu fun u => { u with dir := d, members := ms, waits := ws }) := by
  refine Effect.mono (ps := [.road]) (ex := []) ?_
  exact .of_parts (capacity := fun _ h => h.of_road rfl rfl fun hr => ⟨hw.trans hr.waits, hm.trans hr.members, hr.convoy⟩)

theorem dropLocalWait_effect (id : Nat) (s : State) : Effect driving [] s (dropLocalWait id s) :=
  shrinkRoad_effect (Nat.le_refl _) (List.length_filter_le ..)

theorem leaveIfPassed_effect (i : Fin 16) (s : State) : Effect driving [] s (leaveIfPassed i s) := by
  unfold leaveIfPassed
  split
  · split
    · exact ((dropLocalWait_effect ..).trans setRole_effect).trans (reexamine_effect _)
    · exact .refl s
  · exact .refl s

theorem rederive_effect (i : Fin 16) (s : State) : Effect driving [] s (rederive i s) :=
  (leaveIfPassed_effect i s).trans (deriveOrder_effect i _)

theorem rederive_entry (i : Fin 16) (s : State) : DieselEntry i (rederive i s) := deriveOrder_entry _ _

theorem rederiveAll_effect (s : State) : Effect driving [] s (rederiveAll s) := forEach_effect allVehicles rederive_effect s

theorem mem_allVehicles (i : Fin 16) : i ∈ allVehicles := by revert i; decide

theorem forEach_rederive_entry {xs : List (Fin 16)} {i : Fin 16} (hi : i ∈ xs) (s : State) :
    DieselEntry i (forEach xs rederive s) := by
  induction xs generalizing s with
  | nil => exact absurd hi (by simp)
  | cons x xs ih =>
    by_cases h : i ∈ xs
    · exact ih h (rederive x s)
    · obtain rfl : i = x := (List.mem_cons.mp hi).resolve_right h
      exact (forEach_effect xs rederive_effect (rederive i s)).keeps (.diesel i) (by simp) (rederive_entry i s)

/-- R153: a re-derivation of every entry leaves each with an order it may carry. -/
theorem rederiveAll_entry (i : Fin 16) (s : State) : DieselEntry i (rederiveAll s) := forEach_rederive_entry (mem_allVehicles i) s

theorem dropMember_effect (id : Nat) (s : State) : Effect driving [] s (dropMember id s) := by
  have hdrop := shrinkRoad_effect (s := s) (d := if (s.vu.members.filter fun m => m.id != id).isEmpty then .free else s.vu.dir)
    (List.length_filter_le (fun m => m.id != id) _) (Nat.le_refl s.vu.waits.length)
  unfold dropMember
  simp only
  split
  · refine (hdrop.trans (setRole_effect fun v => ?_)).trans (deriveOrder_effect ..)
    split <;> exact ⟨rfl, rfl, rfl⟩
  · exact hdrop

theorem vehicleExit_effect (id : Nat) (s : State) : Effect driving [] s (vehicleExit id s) := by
  unfold vehicleExit
  simp only
  split
  · have hmember : Effect driving [] s (if (s.vu.members.any fun m => m.id == id) = true then dropMember id s else s) := by
      split
      · exact dropMember_effect id s
      · exact .refl s
    exact (hmember.trans (shrinkRoad_effect (Nat.le_refl _) (List.length_filter_le ..))).trans (reexamine_effect _)
  · exact .refl s

theorem sendRelease_effect (id : Nat) (s : State) : Effect driving [] s (sendRelease id s) := (sendAdjacent_effect ..).mono

theorem sendRequest_effect (v : Vehicle) (s : State) : Effect driving [] s (sendRequest v s) := (sendAdjacent_effect ..).mono

theorem releaseRequest_effect (i : Fin 16) (s : State) : Effect driving [] s (releaseRequest i s) := by
  unfold releaseRequest
  split
  · exact (sendRelease_effect ..).trans setRole_effect
  · exact .refl s

theorem startRequest_effect (i : Fin 16) (s : State) : Effect driving [] s (startRequest i s) := by
  unfold startRequest
  split
  · split
    · exact Effect.trans setRole_effect (sendRequest_effect ..)
    · exact .refl s
  · exact .refl s

/-- A wait entry joins a list with room. -/
theorem joinWaits_effect {w : Wait} {s : State} (h : s.vu.waits.length < 8) :
    Effect driving [] s (s.updVu fun u => { u with waits := u.waits ++ [w] }) := by
  refine Effect.mono (ps := [.road]) (ex := []) ?_
  exact .of_parts (capacity := fun _ hs => hs.of_road rfl rfl fun hr =>
    ⟨by simpa using h, hr.members, hr.convoy⟩)

theorem vu_modVehicle (i : Fin 16) (f : Vehicle → Vehicle) (s : State) :
    (modVehicle i f s).vu = { s.vu with entries := (modVehicle i f s).vu.entries } := by
  unfold modVehicle
  split <;> rfl

theorem offer_effect (i : Fin 16) (s : State) : Effect driving [] s (offer i s) := by
  unfold offer
  split
  · split
    next hoffer =>
      simp only [Bool.and_eq_true, decide_eq_true_eq] at hoffer
      obtain ⟨⟨-, hroom⟩, -⟩ := hoffer
      refine (Effect.trans setRole_effect (joinWaits_effect ?_)).trans (reexamine_effect _)
      rw [vu_modVehicle]
      exact hroom
    next => exact .refl s
  · exact .refl s

theorem deriveOwn_effect (i : Fin 16) (s : State) : Effect driving [] s (deriveOwn i s) :=
  (((leaveIfPassed_effect i s).trans (offer_effect i _)).trans (startRequest_effect i _)).trans (deriveOrder_effect i _)

theorem deriveOwn_entry (i : Fin 16) (s : State) : DieselEntry i (deriveOwn i s) := deriveOrder_entry _ _

/-! ## Reports and per-round work (R150, R151, R159, R162) -/

theorem reportVehicle_effect (r : Nat) (v : Vehicle) (s : State) : Effect telling [] s (reportVehicle r v s) :=
  (postBoth_effect ..).trans (sendTo_effect ..)

theorem reportOverdue_effect (m : Member) (s : State) : Effect telling [] s (reportOverdue m s) :=
  ((postBoth_effect ..).trans (postBoth_effect ..)).trans (sendTo_effect ..)

theorem setTableFull_effect (b : Bool) (s : State) : Effect [.tableFull] [] s (s.updVu fun u => { u with tableFull := b }) := .of_parts

theorem depart_effect (i : Fin 16) (s : State) : Effect (.tableFull :: driving) [] s (depart i s) := by
  unfold depart
  split
  next v _ =>
    have h1 : Effect driving [] s (if v.role = .waiting then
        reexamine (modVehicle i (fun v => { v with role := .none }) (dropLocalWait v.id s)) else s) := by
      split
      · exact ((dropLocalWait_effect ..).trans setRole_effect).trans (reexamine_effect _)
      · exact .refl s
    have h2 (t : State) : Effect driving [] t (if v.request = .requested then releaseRequest i t else t) := by
      split
      · exact releaseRequest_effect i t
      · exact .refl t
    have h12 := (h1.trans (h2 _)).mono (rs := .tableFull :: driving) (out := [])
    simp only
    split
    · exact ((h12.trans (reportVehicle_effect ..).mono).trans (freeVehicle_effect ..).mono).trans (setTableFull_effect ..).mono
    · exact h12
  next => exact .refl s

theorem unheardTick_effect (i : Fin 16) (s : State) : Effect (.tableFull :: driving) [] s (unheardTick i s) := by
  have hcount : Effect driving [] s (modVehicle i (fun v => { v with unheard := v.unheard + 1 }) s) :=
    setRole_effect
  unfold unheardTick
  split
  · exact hcount.mono.trans (depart_effect ..)
  · exact hcount.mono

theorem resendTick_effect (i : Fin 16) (s : State) : Effect driving [] s (resendTick i s) := by
  unfold resendTick
  split
  · split
    · split
      · exact Effect.trans setRole_effect (sendRequest_effect ..)
      · exact setRole_effect
    · exact .refl s
  · exact .refl s

theorem memberTick_effect (id : Nat) (s : State) : Effect (.road :: telling) [] s (memberTick id s) := by
  unfold memberTick
  split
  next m _ =>
    split
    · exact .refl s
    · have hset (x : Member) : Effect [.road] [] s
          (s.updVu fun u => { u with members := replaceFirst (fun y => y.id == id) x u.members }) :=
        .of_parts (capacity := fun _ h => h.of_road rfl rfl fun hr =>
          ⟨hr.waits, (length_replaceFirst ..).trans_le hr.members, hr.convoy⟩)
      simp only
      split
      · exact (hset _).seq (reportOverdue_effect ..)
      · exact (hset _).mono
  next => exact .refl s

theorem membersRound_effect (s : State) : Effect (.road :: telling) [] s (membersRound s) := forEach_effect _ memberTick_effect s

theorem vuRound_effect (s : State) : Effect (.tableFull :: driving) [] s (vuRound s) :=
  forEach_effect allVehicles (fun i t => (unheardTick_effect i t).trans (resendTick_effect i _).mono) s

/-! ## Hand-overs (R76, R153, R163) -/

theorem dropInbyeWaits_effect (s : State) : Effect driving [] s (dropInbyeWaits s) := by
  refine Effect.trans (shrinkRoad_effect (Nat.le_refl _) (List.length_filter_le ..)) (forEach_effect _ (fun id t => ?_) _)
  split
  · refine setRole_effect fun v => ?_
    split <;> exact ⟨rfl, rfl, rfl⟩
  · exact .refl t

theorem vuSectionLevel_effect (l : SectionLevel) (s : State) :
    Effect (.vuLevel :: driving) [.levels] s (vuSectionLevel l s) := by
  have hset : Effect [.vuLevel] [.levels] s (s.updVu fun u => { u with level := l }) := .of_parts
  unfold vuSectionLevel
  simp only
  split
  · exact hset.seq (((dropInbyeWaits_effect _).trans (reexamine_effect _)).trans (rederiveAll_effect _))
  split
  · exact hset.seq ((reexamine_effect _).trans (rederiveAll_effect _))
  · exact hset.seq (rederiveAll_effect _)

/-- The invariants of the sixteen entries. -/
def dieselLaws : List Law := allVehicles.map Law.diesel

theorem diesel_mem_dieselLaws (i : Fin 16) : Law.diesel i ∈ dieselLaws := List.mem_map_of_mem (mem_allVehicles i)

theorem setMethane_effect (l : GasLevel) (s : State) :
    Effect [.vuMethane] (.methane :: dieselLaws) s (s.updVu fun u => { u with methane := l }) :=
  .of_parts (diesel := fun i hi => by
    rw [Law.due_of_mem (List.mem_cons_of_mem _ (diesel_mem_dieselLaws i))] at hi
    exact Bool.noConfusion hi)

/-- R76, R153: a node methane level handed over. -/
theorem vuMethane_effect (l : GasLevel) (s : State) : Effect (.vuMethane :: driving) [.methane] s (vuMethane l s) := by
  have h : Effect (.vuMethane :: driving) (.methane :: dieselLaws) s (vuMethane l s) :=
    ((setMethane_effect l s).mono (by decide) (List.Subset.refl _)).trans
      ((rederiveAll_effect _).mono (by decide) (List.nil_subset _))
  refine ⟨h.same, fun law hl hs => ?_⟩
  by_cases hd : law ∈ dieselLaws
  · obtain ⟨i, -, rfl⟩ := List.mem_map.mp hd
    exact rederiveAll_entry i (s.updVu fun u => { u with methane := l })
  · refine h.keeps law (fun hm => ?_) hs
    obtain e | hm := List.mem_cons.mp hm
    · exact hl (e ▸ List.mem_singleton_self _)
    · exact hd hm

/-! ## The block protocol (R159 to R162) -/

theorem requestNew_effect (id : Nat) (s : State) : Effect driving [] s (requestNew id s) := by
  unfold requestNew
  split
  · exact .refl s
  split
  · exact .refl s
  next hroom => exact (joinWaits_effect (Nat.lt_of_not_le hroom)).trans (reexamine_effect _)

theorem blockRequest_effect (l : Line) (p : Bytes) (s : State) : Effect driving [] s (blockRequest l p s) := by
  unfold blockRequest
  simp only
  split
  · exact .refl s
  split
  · exact (sendAdjacent_effect ..).mono
  split
  · split
    · exact (sendAdjacent_effect ..).mono
    · exact ((dropMember_effect ..).trans (reexamine_effect _)).trans (requestNew_effect ..)
  · exact requestNew_effect ..

theorem blockGrant_effect (l : Line) (p : Bytes) (s : State) : Effect driving [] s (blockGrant l p s) := by
  unfold blockGrant
  simp only
  split
  · exact .refl s
  split
  · split
    · exact Effect.trans setRole_effect (rederive_effect ..)
    · exact .refl s
    · exact sendRelease_effect ..
  · exact sendRelease_effect ..

theorem blockExit_effect (l : Line) (p : Bytes) (s : State) : Effect driving [] s (blockExit l p s) := by
  unfold blockExit
  simp only
  split
  · exact .refl s
  · exact vehicleExit_effect ..

theorem forceClear_effect (s : State) : Effect driving [] s (forceClear s) := by
  refine Effect.trans (Effect.trans (shrinkRoad_effect (Nat.zero_le _) (Nat.le_refl _))
    (forEach_effect allVehicles (fun i t => ?_) _)) (reexamine_effect _)
  split
  · exact Effect.trans setRole_effect (deriveOrder_effect ..)
  · exact .refl t

/-! ## The port commands (R154, R156) -/

theorem orderVehicle_effect (id : Nat) (stop : Bool) (s : State) : Effect driving [] s (orderVehicle id stop s).1 := by
  unfold orderVehicle
  split
  · exact .refl s
  split
  · exact .refl s
  · exact Effect.trans setRole_effect (rederive_effect ..)

theorem dropWait_effect (w : Wait) (s : State) : Effect driving [] s (dropWait w s) := by
  unfold dropWait
  split
  · exact (sendAdjacent_effect ..).mono
  split
  · exact setRole_effect
  · exact .refl s

theorem endGoverning_effect (s : State) : Effect driving [] s (endGoverning s) :=
  Effect.trans (shrinkRoad_effect (Nat.le_refl _) (Nat.zero_le _)) (forEach_effect _ dropWait_effect _)

theorem endRequest_effect (i : Fin 16) (s : State) : Effect driving [] s (endRequest i s) := by
  unfold endRequest
  split
  · refine Effect.trans ?_ setRole_effect
    split
    · exact sendRelease_effect ..
    · exact .refl s
  · exact .refl s

theorem endOutbye_effect (s : State) : Effect driving [] s (endOutbye s) := forEach_effect allVehicles endRequest_effect s

theorem configureBlock_effect {c : BlockConfig} (hc : c.convoy ≤ 4) (s : State) :
    Effect (.roadCfg :: driving) [] s (configureBlock c s) := by
  have hset : Effect [.roadCfg] [] s (s.updVu fun u => { u with cfg := c }) :=
    .of_parts (capacity := fun _ h => h.of_road rfl rfl fun hr => ⟨hr.waits, hr.members, hc⟩)
  have when {b : Bool} {f : State → State} (hf : ∀ t, Effect driving [] t (f t)) (t : State) :
      Effect driving [] t (if b = true then f t else t) := by
    split
    · exact hf t
    · exact .refl t
  have hends (a b : Bool) (t : State) : Effect driving [] t
      (if b = true then endOutbye (if a = true then endGoverning t else t) else if a = true then endGoverning t else t) :=
    Effect.trans (t := if a = true then endGoverning t else t) (when endGoverning_effect t) (when endOutbye_effect _)
  unfold configureBlock
  simp only
  split
  · exact hset.seq ((hends _ _ _).trans (rederiveAll_effect _))
  · exact hset.seq (((hends _ _ _).trans (reexamine_effect _)).trans (rederiveAll_effect _))

theorem clamp_le {lo hi : Nat} (h : lo ≤ hi) (n : Nat) : clamp lo hi n ≤ hi := by
  unfold clamp
  split
  · exact h
  · split <;> omega

theorem convoy_of_blockConfigOf {head : Bool} {p : Bytes} {c : BlockConfig} (h : blockConfigOf head p = some c) : c.convoy ≤ 4 := by
  unfold blockConfigOf at h
  split at h
  · exact absurd h (by simp)
  · cases h
    exact clamp_le (by decide) _

end Sys2Proof.Machine
end

section
/-! PROOFS. The Trip Unit, the section level and what hangs on it, the override and supervision: what each operation touches, which
invariants it keeps, and which it restores (R76, R80 to R97, R103 to R110). -/

namespace Sys2Proof.Machine

-- Declarations are elaborated one after another: in a text of this length the threads of many at once would not fit the memory limit.
set_option Elab.async false

/-! ## The latch and the record (R81 to R83, R86) -/

/-- What the Trip Unit's latch and record move. -/
abbrev tripping : List Part := .trip :: .tripStamp :: telling

theorem postTrip_effect (s : State) : Effect telling [] s (postTrip s) := postBoth_effect ..

theorem sendTripReport_effect (flags : Nat) (s : State) : Effect telling [] s (sendTripReport flags s) := sendTo_effect ..

/-- Latch, record and stamp are set together; the persisting causes stay. -/
theorem setTrip_effect (r : TripRecord) (x : Stamp) (s : State) :
    Effect [.trip, .tripStamp] [] s ((s.updTb fun t => { t with tripStamp := some x }).updTu
      fun u => { u with latch := true, record := some r }) :=
  .of_parts (tripHeld := fun _ _ => ⟨fun _ => rfl, rfl, rfl⟩)
    (tripDerived := fun _ h => h.trans (computeCauses_congr rfl rfl rfl rfl rfl).symm)

theorem captureTrip_eq (manual rst : Bool) (s : State) : captureTrip manual rst s =
    sendTripReport 1 (postTrip ((s.updTb fun t => { t with tripStamp := some s.now }).updTu fun u => { u with
      latch := true
      record := some { capture := { persisting := s.tu.causes, manual := manual, restart := rst }
                       channel := allChannels.find? (gasVote s), later := .empty } })) := rfl

theorem captureTrip_effect (manual rst : Bool) (s : State) : Effect tripping [] s (captureTrip manual rst s) := by
  rw [captureTrip_eq]
  exact ((setTrip_effect ..).mono.trans (postTrip_effect _).mono).trans (sendTripReport_effect ..).mono

/-- R82: the capture sets latch, record and stamp, whatever stood before. -/
theorem captureTrip_held (manual rst : Bool) (s : State) : TripHeld (captureTrip manual rst s) := by
  rw [captureTrip_eq]
  exact (sendTripReport_effect 1 _).keeps .tripHeld (by simp)
    ((postTrip_effect _).keeps .tripHeld (by simp) ⟨fun _ => rfl, rfl, rfl⟩)

theorem addLater_effect (c : TripCauses) {s : State} (h : s.tu.latch = true) : Effect tripping [] s (addLater c s) := by
  have hset (r : TripRecord) : Effect [.trip, .tripStamp] [] s (s.updTu fun u => { u with record := some r }) :=
    .of_parts (tripHeld := fun _ hs => ⟨hs.causes, h.symm, hs.stamp⟩)
      (tripDerived := fun _ hs => hs.trans (computeCauses_congr rfl rfl rfl rfl rfl).symm)
  unfold addLater
  simp only
  split
  · exact (hset _).mono.trans (postTrip_effect _).mono
  · exact .refl s

theorem CauseSet.any_of_minus {a b : CauseSet} (h : (a.minus b).any = false) (ha : a.any = true) : b.any = true := by
  obtain ⟨g, f, su, sp⟩ := a
  obtain ⟨g', f', su', sp'⟩ := b
  revert h ha
  simp only [CauseSet.any, CauseSet.minus]
  revert g f su sp g' f' su' sp'
  decide

theorem setCauses_effect (s : State) :
    Effect [.trip] [.tripHeld] s (s.updTu fun u => { u with causes := computeCauses s }) :=
  .of_parts (tripDerived := fun _ _ => (computeCauses_congr rfl rfl rfl rfl rfl).symm)

/-- R80 to R82: the recomputation from the set of causes as replaced. -/
theorem tuRecompute_tail (s : State) :
    Effect tripping [] (s.updTu fun u => { u with causes := computeCauses s }) (tuRecompute s) := by
  unfold tuRecompute
  simp only
  split
  · split
    next hl => exact addLater_effect _ hl
    next => exact captureTrip_effect ..
  · exact .refl _

/-- R80: after a recomputation the persisting cause set is what the blocks give. -/
theorem tuRecompute_derived (s : State) : (tuRecompute s).tu.causes = computeCauses (tuRecompute s) :=
  (tuRecompute_tail s).keeps .tripDerived (by simp)
    (computeCauses_congr (s := s) (t := s.updTu fun u => { u with causes := computeCauses s }) rfl rfl rfl rfl rfl).symm

/-- R81, R82: a cause that appears finds the latch set, or sets it. -/
theorem tuRecompute_held {s : State} (h : TripHeld s) : TripHeld (tuRecompute s) := by
  unfold tuRecompute
  simp only
  split
  · split
    next hl =>
      exact (addLater_effect _ (s := s.updTu fun u => { u with causes := computeCauses s }) hl).keeps .tripHeld (by simp)
        ⟨fun _ => hl, h.record, h.stamp⟩
    next => exact captureTrip_held ..
  next hnone => exact ⟨fun hany => h.causes (CauseSet.any_of_minus (by simpa using hnone) hany), h.record, h.stamp⟩

theorem tuRecompute_effect (s : State) : Effect tripping [] s (tuRecompute s) :=
  Effect.regain .tripHeld ((setCauses_effect s).seq (tuRecompute_tail s)) tuRecompute_held

theorem tripManual_effect (s : State) : Effect tripping [] s (tripManual s) := by
  unfold tripManual
  split
  next hl => exact addLater_effect _ hl
  next => exact captureTrip_effect ..

theorem tripReset_effect {s : State} (h : s.tu.causes.any = false) : Effect tripping [] s (tripReset s) := by
  have hrep : Effect telling [] (s.updTu fun u => { u with latch := false })
      (postTrip (sendTripReport 2 (s.updTu fun u => { u with latch := false }))) :=
    (sendTripReport_effect ..).trans (postTrip_effect _)
  have hclear : Effect [.trip] [.tripHeld] s (s.updTu fun u => { u with latch := false }) :=
    .of_parts (tripDerived := fun _ hs => hs.trans (computeCauses_congr rfl rfl rfl rfl rfl).symm)
  have hend (t : State) : Effect [.trip, .tripStamp] [.tripHeld] t
      ((t.updTu fun u => { u with record := none }).updTb fun b => { b with tripStamp := none }) :=
    .of_parts (tripDerived := fun _ hs => hs.trans (computeCauses_congr rfl rfl rfl rfl rfl).symm)
  refine Effect.regain .tripHeld (Effect.seq (qs := tripping) (lost := [.tripHeld]) hclear (hrep.seq (hend _))) fun _ => ?_
  have hsame := hrep.same .trip (by decide)
  simp only [Part.same, Prod.mk.injEq] at hsame
  obtain ⟨hc, hl, -⟩ := hsame
  refine ⟨fun hany => ?_, hl.symm, hl.symm⟩
  have hnone : (tripReset s).tu.causes = s.tu.causes := hc
  rw [hnone, h] at hany
  exact Bool.noConfusion hany

/-! ## The node methane level (R76) -/

/-- What a change of the node methane level moves. -/
abbrev methaning : List Part := .nodeMethane :: .vuMethane :: driving

theorem vuMethane_methane (l : GasLevel) (s : State) : (vuMethane l s).vu.methane = l := by
  have h : (rederiveAll (s.updVu fun u => { u with methane := l })).vu.methane = (s.updVu fun u => { u with methane := l }).vu.methane :=
    (rederiveAll_effect _).same .vuMethane (by decide)
  unfold vuMethane
  exact h

theorem recomputeMethane_effect (s : State) : Effect methaning [] s (recomputeMethane s) := by
  have hset : Effect [.nodeMethane] [.methane] s (s.updGcu fun g => { g with nodeMethane := methaneOf s }) :=
    .of_parts
  unfold recomputeMethane
  simp only
  split
  · exact .refl s
  · refine Effect.regain .methane (hset.seq (vuMethane_effect ..)) fun _ => ?_
    exact (vuMethane_methane ..).trans ((vuMethane_effect (methaneOf s) (s.updGcu fun g => { g with
      nodeMethane := methaneOf s })).same .nodeMethane (by decide)).symm

/-! ## Local causes and the section level (R103 to R109) -/

theorem takeCauses_effect (s : State) : Effect [.causes, .latch] [.levelDerived] s (takeCauses s) :=
  .of_parts (alarmDerived := fun _ _ => (localCausesOf_congr rfl rfl rfl rfl).symm)

theorem takeCauses_derived (s : State) : (takeCauses s).sau.causes = localCausesOf (takeCauses s) :=
  (localCausesOf_congr (s := s) (t := takeCauses s) rfl rfl rfl rfl).symm

/-- What a derivation of the section level moves. -/
abbrev levelling : List Part := .level :: .outputs :: .ctuLevel :: .vuLevel :: .calls :: driving

theorem ctuSectionLevel_level (l : SectionLevel) (s : State) : (ctuSectionLevel l s).ctu.level = l := by
  rw [ctuSectionLevel_eq]
  split
  · exact (forEach_effect allCalls clearRoutine_effect (s.updCtu fun c => { c with level := l })).same .ctuLevel (by decide)
  · rfl

theorem vuSectionLevel_level (l : SectionLevel) (s : State) : (vuSectionLevel l s).vu.level = l := by
  unfold vuSectionLevel
  simp only
  split
  · exact ((dropInbyeWaits_effect _).trans ((reexamine_effect _).trans (rederiveAll_effect _))).same .vuLevel (by decide)
  split
  · exact ((reexamine_effect _).trans (rederiveAll_effect _)).same .vuLevel (by decide)
  · exact (rederiveAll_effect _).same .vuLevel (by decide)

theorem postSectionLevel_effect (l : SectionLevel) (s : State) : Effect telling [] s (postSectionLevel l s) := postBoth_effect ..

/-- R108: what follows a change of the section level: its notice and its hand-overs. -/
def handLevel (before new : SectionLevel) (s : State) : State :=
  vuSectionLevel new (ctuSectionLevel new (postSectionLevel before s))

theorem handLevel_effect (before new : SectionLevel) (s : State) :
    Effect (.ctuLevel :: .vuLevel :: .calls :: driving) [.levels] s (handLevel before new s) :=
  (((postSectionLevel_effect before s).mono).trans ((ctuSectionLevel_effect new _).mono)).trans ((vuSectionLevel_effect new _).mono)

/-- The levels as sent, and the section level with its outputs. -/
def setLevel (new : SectionLevel) (s : State) : State :=
  (s.updSau fun a => { a with sentInbye := levelInbye s, sentOutbye := levelOutbye s }).updSau fun a => a.enterLevel new

theorem deriveLevel_eq (s : State) : deriveLevel s =
    if levelOf s = s.sau.level then s.updSau fun a => { a with sentInbye := levelInbye s, sentOutbye := levelOutbye s }
    else handLevel s.sau.level (levelOf s) (setLevel (levelOf s) s) := rfl

theorem setLevel_effect (new : SectionLevel) (s : State) : Effect [.level, .outputs] [.levels, .levelDerived] s (setLevel new s) :=
  .of_parts

/-- R108: after a derivation the section level is what the four terms give. -/
theorem deriveLevel_derived (s : State) : (deriveLevel s).sau.level = levelOf (deriveLevel s) := by
  rw [deriveLevel_eq]
  split
  next h => exact h.symm
  next =>
    have hand := handLevel_effect s.sau.level (levelOf s) (setLevel (levelOf s) s)
    have hl : (handLevel s.sau.level (levelOf s) (setLevel (levelOf s) s)).sau.level = levelOf s := hand.same .level (by decide)
    rw [hl, levelOf_congr (hand.same .causes (by decide)) (hand.same .latch (by decide)) (hand.same .remote (by decide))]
    exact (levelOf_congr (s := s) (t := setLevel (levelOf s) s) rfl rfl rfl).symm

theorem handLevel_alike {before new : SectionLevel} {s : State} (h : s.sau.level = new) :
    LevelsAlike (handLevel before new s) := by
  have hl : (handLevel before new s).sau.level = new := ((handLevel_effect before new s).same .level (by decide)).trans h
  have hc : (handLevel before new s).ctu.level = (ctuSectionLevel new (postSectionLevel before s)).ctu.level :=
    (vuSectionLevel_effect new _).same .ctuLevel (by decide)
  exact ⟨(hc.trans (ctuSectionLevel_level ..)).trans hl.symm, (vuSectionLevel_level ..).trans hl.symm⟩

theorem deriveLevel_effect (s : State) : Effect levelling [] s (deriveLevel s) := by
  have hder := deriveLevel_derived s
  rw [deriveLevel_eq] at hder ⊢
  split
  · exact Effect.mono (ps := [.outputs]) (ex := []) .of_parts
  next hne =>
    rw [if_neg hne] at hder
    exact Effect.regain .levels (Effect.regain .levelDerived ((setLevel_effect _ s).seq (handLevel_effect ..)) fun _ => hder)
      fun _ => handLevel_alike rfl

/-! ## The override (R91 to R97) -/

theorem reportOverride_effect (before : OverrideState) (s : State) : Effect telling [] s (reportOverride before s) := by
  unfold reportOverride
  exact (postBoth_effect ..).trans (sendTo_effect ..)

/-- What a change of the covered set moves. -/
abbrev covering : List Part := .trip :: .tripStamp :: .causes :: .latch :: .covered :: methaning

theorem coverSet_effect (s : State) : Effect covering [.levelDerived] s (coverSet s) := by
  have h1 := (tuRecompute_effect s).seq (rs := covering) (out := []) (recomputeMethane_effect (tuRecompute s))
  have h2 (x : BitVec 16) (t : State) : Effect [.covered] [.alarmDerived] t (t.updSau fun a => { a with covered := x }) := .of_parts
  have h3 (t : State) : Effect covering [.alarmDerived, .levelDerived] t (takeCauses t) := (takeCauses_effect t).mono
  exact Effect.regain .alarmDerived ((h1.mono.trans (h2 (coveredSet (recomputeMethane (tuRecompute s))) _).mono).trans (h3 _))
    fun _ => takeCauses_derived _

theorem coverSet_tripDerived (s : State) : (coverSet s).tu.causes = computeCauses (coverSet s) := by
  have h1 : Law.tripDerived.holds (recomputeMethane (tuRecompute s)) :=
    (recomputeMethane_effect _).keeps .tripDerived (by simp) (tuRecompute_derived s)
  have h2 (x : BitVec 16) (t : State) : Effect [.covered] [.alarmDerived] t (t.updSau fun a => { a with covered := x }) := .of_parts
  exact (takeCauses_effect _).keeps .tripDerived (by decide) ((h2 _ _).keeps .tripDerived (by decide) h1)

/-- What a derivation of the section level moves where it may end an override. -/
abbrev alarming : List Part := .ovr :: .level :: .outputs :: .ctuLevel :: .vuLevel :: .calls :: covering

/-- The override at its end. -/
def clearOverride (reason : EndReason) (s : State) : State :=
  s.updTu fun u => { u with ovr := { u.ovr with state := .none, set := 0#16, duration := none, lastEnd := some reason } }

theorem clearOverride_effect (reason : EndReason) (s : State) : Effect [.ovr] [.tripDerived] s (clearOverride reason s) :=
  .of_parts (coverage := fun _ _ hn => absurd rfl hn)

theorem endOverrideWith_eq (derive : State → State) (reason : EndReason) (s : State) : endOverrideWith derive reason s =
    if s.tu.ovr.state = .active then derive (coverSet (reportOverride s.tu.ovr.state (clearOverride reason s)))
    else reportOverride s.tu.ovr.state (clearOverride reason s) := rfl

/-- The persisting causes depend on the override through the votes alone. -/
theorem computeCauses_of_votes {s t : State} (hv : votes t = votes s) (hj : Part.judged.same s t) (hc : Part.chanCfg.same s t)
    (hs : Part.sup.same s t) (hm : Part.supplyMode.same s t) : computeCauses t = computeCauses s := by
  have hj' (i : Fin 16) : (t.channel i).level = (s.channel i).level ∧ (t.channel i).status = (s.channel i).status :=
    Prod.mk.inj (congrFun hj i)
  have hc' (i : Fin 16) : (t.channel i).cfg = (s.channel i).cfg := (Prod.mk.inj (congrFun hc i)).1
  have hs' : t.tu.sup = s.tu.sup := hs
  have hm' : t.tu.supply.mode = s.tu.supply.mode := hm
  have hg : gasVote t = gasVote s := by funext i; simp only [gasVote, hv, hj']
  have hf : faultVote t = faultVote s := by funext i; simp only [faultVote, hv, hj', hc']
  simp only [computeCauses, hg, hf, hs', hm']

/-- Where no override is ACTIVE, its end covers as little as before. -/
theorem computeCauses_clearOverride {reason : EndReason} {s : State} (h : s.tu.ovr.state ≠ .active) :
    computeCauses (clearOverride reason s) = computeCauses s := by
  have hc : coveredSet (clearOverride reason s) = coveredSet s := by simp [coveredSet, clearOverride, h]
  have hv : votes (clearOverride reason s) = votes s := by
    funext i
    simp only [votes, isCovered, hc]
    rfl
  exact computeCauses_of_votes hv rfl rfl rfl rfl

/-- A derivation of the section level, for the operations that take one. -/
structure Derives (derive : State → State) : Prop where
  effect : ∀ s, Effect alarming [] s (derive s)
  derived : ∀ s, (derive s).sau.level = levelOf (derive s)

theorem endOverrideWith_effect {derive : State → State} (hd : Derives derive) (reason : EndReason) (s : State) :
    Effect alarming [] s (endOverrideWith derive reason s) := by
  have hrep := (clearOverride_effect reason s).seq (rs := alarming) (out := [.tripDerived]) (reportOverride_effect s.tu.ovr.state _)
  rw [endOverrideWith_eq]
  split
  · have hall : Effect alarming [.tripDerived, .levelDerived] s
        (derive (coverSet (reportOverride s.tu.ovr.state (clearOverride reason s)))) :=
      (hrep.seq (out := [.tripDerived, .levelDerived]) (coverSet_effect _)).trans ((hd.effect _).mono)
    refine Effect.regain .levelDerived (Effect.regain .tripDerived hall fun _ => ?_) fun _ => hd.derived _
    exact (hd.effect _).keeps .tripDerived (by simp) (coverSet_tripDerived _)
  next hna =>
    refine hrep.regain .tripDerived fun hs => ?_
    exact (reportOverride_effect ..).keeps .tripDerived (by simp) (Eq.trans hs (computeCauses_clearOverride hna).symm)

theorem derives_deriveLevel : Derives deriveLevel := ⟨fun s => (deriveLevel_effect s).mono, deriveLevel_derived⟩

theorem evacuationEnd_effect (before : SectionLevel) (s : State) : Effect alarming [] s (evacuationEnd before s) := by
  unfold evacuationEnd
  split
  · exact endOverrideWith_effect derives_deriveLevel ..
  · exact .refl s

theorem sauDerive_effect (s : State) : Effect alarming [] s (sauDerive s) :=
  (deriveLevel_effect s).mono.trans (evacuationEnd_effect ..)

theorem sauDerive_derived (s : State) : (sauDerive s).sau.level = levelOf (sauDerive s) :=
  (evacuationEnd_effect s.sau.level (deriveLevel s)).keeps .levelDerived (by simp) (deriveLevel_derived s)

theorem derives_sauDerive : Derives sauDerive := ⟨sauDerive_effect, sauDerive_derived⟩

/-- A derivation makes up for whatever the section level had fallen behind. -/
theorem sauDerive_regains {ps : List Part} {s t : State} (h : Effect ps [.levelDerived] s t) (hp : ps ⊆ alarming := by decide) :
    Effect alarming [] s (sauDerive t) :=
  ((h.mono hp (List.Subset.refl _)).trans ((sauDerive_effect t).mono)).regain .levelDerived fun _ => sauDerive_derived t

theorem sauRecompute_effect (s : State) : Effect alarming [] s (sauRecompute s) := sauDerive_regains (takeCauses_effect s)

theorem sauRecompute_alarmDerived (s : State) : (sauRecompute s).sau.causes = localCausesOf (sauRecompute s) :=
  (sauDerive_effect _).keeps .alarmDerived (by simp) (takeCauses_derived s)

/-- A recomputation makes up for whatever the local causes had fallen behind. -/
theorem sauRecompute_regains {ps rs : List Part} {s t : State} (h : Effect ps [.alarmDerived] s t) (hp : ps ⊆ rs := by decide)
    (ha : alarming ⊆ rs := by decide) : Effect rs [] s (sauRecompute t) :=
  ((h.mono hp (List.Subset.refl _)).trans ((sauRecompute_effect t).mono ha)).regain .alarmDerived fun _ => sauRecompute_alarmDerived t

theorem setLatch_effect (s : State) : Effect alarming [] s (setLatch s) :=
  sauDerive_regains (ps := [.latch]) .of_parts

theorem endOverride_effect (reason : EndReason) (s : State) : Effect alarming [] s (endOverride reason s) :=
  endOverrideWith_effect derives_sauDerive ..

/-- The counts of an override run; nothing else of it changes. -/
theorem countOverride_effect (w d : Nat) (s : State) :
    Effect [.ovr] [] s (s.updTu fun u => { u with ovr := { u.ovr with window := w, durCount := d } }) :=
  .of_parts (coverage := fun _ h => h) (tripDerived := fun _ h => h)

theorem overrideTick_effect (s : State) : Effect alarming [] s (overrideTick s) := by
  unfold overrideTick
  split
  · exact .refl s
  · simp only
    have hcount := (countOverride_effect (s.tu.ovr.window - 1) s.tu.ovr.durCount s).mono (rs := alarming) (out := [])
    split
    · exact hcount.trans (endOverride_effect ..)
    · exact hcount
  · simp only
    have hcount := (countOverride_effect s.tu.ovr.window (s.tu.ovr.durCount - 1) s).mono (rs := alarming) (out := [])
    split
    · exact hcount.trans (endOverride_effect ..)
    · exact hcount

theorem confirmOverride_effect {s : State} (hp : s.tu.ovr.state = .pending) : Effect alarming [] s (confirmOverride s) := by
  have hset : Effect [.ovr] [.tripDerived] s (s.updTu fun u => { u with ovr := { u.ovr with
      state := .active, window := 0, durCount := u.ovr.duration.getD 0 } }) :=
    .of_parts (coverage := fun _ h _ => h (by simp [hp]))
  have hcover := hset.seq (rs := alarming) (out := [.tripDerived, .levelDerived]) (coverSet_effect _)
  have hrest (t : State) : Effect alarming [] (deriveLevel t)
      (evacuationEnd s.sau.level (reportOverride .pending (deriveLevel t))) :=
    (reportOverride_effect ..).mono.trans (evacuationEnd_effect ..)
  have hderive := fun t => (deriveLevel_effect t).mono (rs := alarming) (out := [])
  refine Effect.regain .levelDerived (Effect.regain .tripDerived
    (hcover.trans (((hderive _).trans (hrest _)).mono)) fun _ => ?_) fun _ => ?_
  · exact ((hderive _).trans (hrest _)).keeps .tripDerived (by simp) (coverSet_tripDerived _)
  · exact (hrest _).keeps .levelDerived (by simp) (deriveLevel_derived _)

theorem requestOverride_effect {set : BitVec 16} {duration : Nat} {s : State} (hn : s.tu.ovr.state = .none)
    (hu : requestUncovers set s = false) : Effect (.ovr :: telling) [] s (requestOverride set duration s) := by
  have hset : Effect [.ovr] [] s (s.updTu fun u => { u with ovr := { u.ovr with
      state := .pending, set := set, duration := some duration, window := Config.overrideWindow } }) := by
    refine .of_parts (coverage := fun _ _ _ => ?_) (tripDerived := fun _ h => h.trans ?_)
    · simp only [requestUncovers, Bool.not_eq_false', List.any_eq_true] at hu
      obtain ⟨i, -, hi⟩ := hu
      exact ⟨i, hi⟩
    · have hc : coveredSet (s.updTu fun u => { u with ovr := { u.ovr with
          state := .pending, set := set, duration := some duration, window := Config.overrideWindow } }) = coveredSet s := by
        simp [coveredSet, hn]
      have hv : votes (s.updTu fun u => { u with ovr := { u.ovr with
          state := .pending, set := set, duration := some duration, window := Config.overrideWindow } }) = votes s := by
        funext i
        simp only [votes, isCovered, hc]
        rfl
      exact (computeCauses_of_votes hv rfl rfl rfl rfl).symm
  exact hset.seq (reportOverride_effect ..)

/-! ## Supervision (R87 to R90) -/

/-- What a change of supervision state moves, the state itself apart. -/
abbrev supervising : List Part := .holders :: alarming

theorem supervisionChanged_effect (before : SupervisionState) (s : State) :
    Effect supervising [] s (supervisionChanged before s) := by
  have hrep := ((postBoth_effect .supervisionLate (supervisionBytes before s) s).trans
    (sendTo_effect kSupervisionLate 0 (supervisionBytes before s) _)).mono (rs := supervising) (out := [])
  have hlate (b : Bool) (t : State) : Effect supervising [] t (sauRecompute (t.updSau fun a => { a with supLate := b })) :=
    sauRecompute_regains (ps := [.holders]) .of_parts
  unfold supervisionChanged
  simp only
  split
  · exact (hrep.trans (hlate true _)).trans (tuRecompute_effect _).mono
  · exact (hrep.trans (hlate false _)).trans (tuRecompute_effect _).mono
  · exact hrep.trans (tuRecompute_effect _).mono

/-- A change of supervision state restores the persisting cause set. -/
theorem supervisionChanged_regains {ps rs : List Part} {before : SupervisionState} {s t : State} (h : Effect ps [.tripDerived] s t)
    (hp : ps ⊆ rs := by decide) (hs : supervising ⊆ rs := by decide) : Effect rs [] s (supervisionChanged before t) :=
  ((h.mono hp (List.Subset.refl _)).trans ((supervisionChanged_effect before t).mono hs)).regain .tripDerived
    fun _ => tuRecompute_derived _

theorem setSup_effect (x : Supervision) (s : State) : Effect [.sup] [.tripDerived] s (s.updTu fun u => { u with sup := x }) :=
  .of_parts

/-- A change of supervision that neither enters nor leaves EXPIRED. -/
theorem setSup_effect_of_iff {x : Supervision} {s : State} (h : x.state = .expired ↔ s.tu.sup.state = .expired) :
    Effect [.sup] [] s (s.updTu fun u => { u with sup := x }) := by
  refine (setSup_effect x s).regain .tripDerived fun hs => Eq.trans hs ?_
  have hd : decide (x.state = .expired) = decide (s.tu.sup.state = .expired) := by simp only [h]
  have he : computeCauses (s.updTu fun u => { u with sup := x })
      = { computeCauses s with supervision := decide (x.state = .expired) } := rfl
  rw [he, hd]
  rfl

theorem lapse_effect (s : State) : Effect (.sup :: supervising) [] s (lapse s) := by
  unfold lapse
  split
  · exact supervisionChanged_regains (setSup_effect ..)
  · exact supervisionChanged_regains (setSup_effect ..)
  · exact .refl s

theorem supervisionTick_effect (s : State) : Effect (.sup :: supervising) [] s (supervisionTick s) := by
  have hcount : Effect [.sup] [] s (s.updTu fun u => { u with sup := { u.sup with count := u.sup.count - 1 } }) :=
    setSup_effect_of_iff (x := { s.tu.sup with count := s.tu.sup.count - 1 }) Iff.rfl
  unfold supervisionTick
  split
  · exact lapse_effect s
  split
  · exact hcount.mono
  · exact hcount.mono
  · exact .refl s

theorem refresh_effect (s : State) : Effect (.sup :: supervising) [] s (refresh s) := by
  unfold refresh
  simp only
  split
  next hr => exact (setSup_effect_of_iff (x := { s.tu.sup with state := .running, count := s.tu.sup.period.getD 0 }) (by simp [hr])).mono
  next => exact supervisionChanged_regains (setSup_effect { s.tu.sup with state := .running, count := s.tu.sup.period.getD 0 } s)

end Sys2Proof.Machine
end

section
/-! PROOFS. Refuges, gas channels and sensor buses: what each operation touches and which invariants it keeps (R43 to R57, R66 to
R79, R115 to R120). -/

namespace Sys2Proof.Machine

-- Declarations are elaborated one after another: in a text of this length the threads of many at once would not fit the memory limit.
set_option Elab.async false

/-! ## Refuge records (R115 to R120) -/

theorem refuge_setRefuge_field {α : Type} (f : Refuge → α) {r : Fin 4} {x : Refuge} {s : State} (h : f x = f (s.refuge r)) :
    (fun k => f ((s.setRefuge r x).refuge k)) = fun k => f (s.refuge k) := by
  funext k
  by_cases hk : k = r
  · rw [hk, State.refuge_setRefuge, h]
  · rw [State.refuge_setRefuge_of_ne s r k x hk]

theorem setRefuge_effect (r : Fin 4) (x : Refuge) (s : State) :
    Effect [.refugeHeads, .called, .refuges] [.alarmDerived] s (s.setRefuge r x) := .of_parts

theorem setRefuge_effect_of_head {r : Fin 4} {x : Refuge} {s : State} (hh : x.head = (s.refuge r).head) :
    Effect [.called, .refuges] [.alarmDerived] s (s.setRefuge r x) :=
  (setRefuge_effect r x s).unmoved .refugeHeads (refuge_setRefuge_field Refuge.head hh)

theorem setRefuge_effect_of_called {r : Fin 4} {x : Refuge} {s : State} (hh : x.head = (s.refuge r).head)
    (hc : x.called = (s.refuge r).called) : Effect [.refuges] [] s (s.setRefuge r x) :=
  ((setRefuge_effect_of_head hh).unmoved .called (refuge_setRefuge_field Refuge.called hc)).spare .alarmDerived

theorem postRefuge_effect (r : Fin 4) (b : RefugeState) (s : State) : Effect telling [] s (postRefuge r b s) := postBoth_effect ..

/-- What the report of a refuge record moves. -/
abbrev sheltering : List Part := .refuges :: telling

theorem sendRefugeReport_effect (r : Fin 4) (x : RefugeReasons) (s : State) : Effect sheltering [] s (sendRefugeReport r x s) := by
  unfold sendRefugeReport
  have hset (t : State) : Effect [.refuges] [] t (t.setRefuge r { t.refuge r with report := 0 }) := setRefuge_effect_of_called rfl rfl
  exact (sendTo_effect ..).mono.trans (hset _).mono

theorem setRefugeStamp_effect (r : Fin 4) (x : Option Stamp) (s : State) : Effect [.refugeStamps] [] s (setRefugeStamp r x s) :=
  .of_parts

theorem reportRefuge_effect (r : Fin 4) (old : Refuge) (s : State) : Effect (.refugeStamps :: sheltering) [] s (reportRefuge r old s) := by
  unfold reportRefuge
  simp only
  split
  · exact ((setRefugeStamp_effect ..).mono.trans (postRefuge_effect ..).mono).trans (sendRefugeReport_effect ..).mono
  split
  · exact (postRefuge_effect ..).mono.trans (sendRefugeReport_effect ..).mono
  · exact .refl s

theorem press_effect (r : Fin 4) (s : State) : Effect (.called :: .refuges :: alarming) [] s (press r s) := by
  unfold press
  have h : Effect (.called :: .refuges :: alarming) [] s (sauRecompute (s.setRefuge r { s.refuge r with called := true })) :=
    sauRecompute_regains (setRefuge_effect_of_head rfl)
  exact h.trans ((postRefuge_effect ..).mono.trans (sendTo_effect ..).mono)

/-- What a completion of a refuge head moves. -/
abbrev attending : List Part := .refugeStamps :: .called :: .refuges :: alarming

theorem refugeReading_effect (r : Fin 4) (f : RefugeFields) (s : State) : Effect attending [] s (refugeReading r f s) := by
  have hone : Effect [.refuges] [] s (s.setRefuge r { s.refuge r with miss := 0, fields := some f, state := f.state }) :=
    setRefuge_effect_of_called rfl rfl
  have hset := hone.mono (rs := attending) (out := [])
  have hrep (t : State) := (reportRefuge_effect r (s.refuge r) t).mono (rs := attending) (out := [])
  have hpress (b : Bool) (t : State) : Effect attending [] t (if b = true then press r t else t) := by
    split
    · exact (press_effect r t).mono
    · exact .refl t
  unfold refugeReading
  exact (hset.trans (hrep _)).trans (hpress ..)

theorem refugeMiss_effect (r : Fin 4) (s : State) : Effect (.refugeStamps :: sheltering) [] s (refugeMiss r s) := by
  have hset (n : Nat) (x : RefugeState) : Effect [.refuges] [] s (s.setRefuge r { s.refuge r with miss := n, state := x }) :=
    setRefuge_effect_of_called rfl rfl
  unfold refugeMiss
  exact (hset _ _).mono.trans (reportRefuge_effect ..)

theorem airEvent_effect (i : Fin 16) (a b : Option ChannelInput) (s : State) : Effect sheltering [] s (airEvent i a b s) := by
  unfold airEvent
  split
  · split
    · split
      · exact (postRefuge_effect ..).mono.trans (sendRefugeReport_effect ..)
      · exact .refl s
    · exact .refl s
  · exact .refl s

theorem refugeReportTick_effect (r : Fin 4) (s : State) : Effect sheltering [] s (refugeReportTick r s) := by
  have hset (n : Nat) : Effect [.refuges] [] s (s.setRefuge r { s.refuge r with report := n }) := setRefuge_effect_of_called rfl rfl
  unfold refugeReportTick
  split
  · exact sendRefugeReport_effect ..
  split
  · exact (hset _).mono
  · exact (hset 0).mono

theorem countRound_effect (s : State) : Effect [.outputs] [] s (s.updSau AlarmUnit.round) := by
  have hround : ∃ n p m, s.updSau AlarmUnit.round = s.updSau fun a => { a with announce := n, pulse := p, modeInUse := m } := by
    have h (a : AlarmUnit) : ∃ n p m, a.round = { a with announce := n, pulse := p, modeInUse := m } := by
      simp only [AlarmUnit.round]
      split <;> exact ⟨_, _, _, rfl⟩
    obtain ⟨n, p, m, h⟩ := h s.sau
    exact ⟨n, p, m, by simp only [State.updSau, h]⟩
  obtain ⟨n, p, m, h⟩ := hround
  rw [h]
  exact .of_parts

theorem sauRound_effect (s : State) : Effect (.outputs :: sheltering) [] s (sauRound s) :=
  (countRound_effect s).mono.trans ((forEach_effect allRefuges refugeReportTick_effect _).mono)

/-! ## Gas channels (R66 to R79) -/

theorem channel_setChannel_field {α : Type} (f : Channel → α) {i : Fin 16} {c : Channel} {s : State} (h : f c = f (s.channel i)) :
    (fun k => f ((s.setChannel i c).channel k)) = fun k => f (s.channel k) := by
  funext k
  by_cases hk : k = i
  · rw [hk, State.channel_setChannel, h]
  · rw [State.channel_setChannel_of_ne s i k c hk]

theorem setChannel_effect_lost (i : Fin 16) (c : Channel) (s : State) :
    Effect [.chanCfg, .judged, .channels] [.coverage, .tripDerived] s (s.setChannel i c) := .of_parts

/-- R60, R64: a record whose configuration may change, no coverage being lost. -/
theorem setChannel_effect_covered {i : Fin 16} {c : Channel} {s : State} (h : coverageLost s i c = false) :
    Effect [.chanCfg, .judged, .channels] [.tripDerived] s (s.setChannel i c) := by
  refine (setChannel_effect_lost i c s).regain .coverage fun _ hn => ?_
  have hany : allChannels.any (fun j => uncoveredVoter s.tu.ovr.set j (if j = i then c else s.channel j)) = true := by
    have hne : (s.tu.ovr.state != .none) = true := by simpa using hn
    simpa only [coverageLost, hne, Bool.true_and, Bool.not_eq_false'] using h
  obtain ⟨j, -, hj⟩ := List.any_eq_true.mp hany
  refine ⟨j, ?_⟩
  by_cases e : j = i
  · rw [e, State.channel_setChannel]; simpa [e] using hj
  · rw [State.channel_setChannel_of_ne s i j c e]; simpa [e] using hj

theorem setChannel_effect {i : Fin 16} {c : Channel} {s : State} (hc : c.cfg = (s.channel i).cfg)
    (he : c.enabled = (s.channel i).enabled) : Effect [.judged, .channels] [.tripDerived] s (s.setChannel i c) :=
  ((setChannel_effect_lost i c s).unmoved .chanCfg
    (channel_setChannel_field (fun c => (c.cfg, c.enabled)) (by rw [hc, he]))).spare .coverage

theorem setChannel_effect_of_judged {i : Fin 16} {c : Channel} {s : State} (hc : c.cfg = (s.channel i).cfg)
    (he : c.enabled = (s.channel i).enabled) (hl : c.level = (s.channel i).level) (hs : c.status = (s.channel i).status) :
    Effect [.channels] [] s (s.setChannel i c) :=
  ((setChannel_effect hc he).unmoved .judged
    (channel_setChannel_field (fun c => (c.level, c.status)) (by rw [hl, hs]))).spare .tripDerived

theorem reportChannel_effect (i : Fin 16) (old : Channel) (s : State) : Effect telling [] s (reportChannel i old s) := by
  have h1 (b : Prop) [Decidable b] (k : NoticeKind) (d : Bytes) (t : State) : Effect telling [] t (if b then t else postBoth k d t) := by
    split
    · exact .refl t
    · exact postBoth_effect ..
  have h2 (b : Bool) (k : Nat) (d : Bytes) (t : State) : Effect telling [] t (if b = true then t else sendTo k 0 d t) := by
    split
    · exact .refl t
    · exact sendTo_effect ..
  unfold reportChannel
  exact ((h1 ..).trans (h2 ..)).trans (h1 ..)

/-- What a hand-over of a channel to the Section Alarm Unit moves. -/
abbrev handing : List Part := .inputs :: .refuges :: alarming

theorem handToAlarm_effect (i : Fin 16) (s : State) : Effect handing [] s (handToAlarm i s) := by
  unfold handToAlarm
  have hset (x : Option ChannelInput) : Effect handing [] s (sauRecompute (s.updSau fun a => { a with inputs := vset a.inputs i x })) :=
    sauRecompute_regains (ps := [.inputs]) .of_parts
  exact (hset _).trans (airEvent_effect ..).mono

/-- R75 to R78: what follows the replacement of a channel record. -/
def handOn (i : Fin 16) (old : Channel) (s : State) : State := handToAlarm i (tuRecompute (reportChannel i old (recomputeMethane s)))

theorem handOn_effect (i : Fin 16) (old : Channel) (s : State) : Effect handing [] s (handOn i old s) :=
  (((recomputeMethane_effect s).mono.trans (reportChannel_effect ..).mono).trans (tuRecompute_effect _).mono).trans
    (handToAlarm_effect ..)

/-- What follows the replacement of a channel record restores the persisting cause set. -/
theorem handOn_regains {ps rs : List Part} {i : Fin 16} {old : Channel} {s t : State} (h : Effect ps [.tripDerived] s t)
    (hp : ps ⊆ rs := by decide) (hh : handing ⊆ rs := by decide) : Effect rs [] s (handOn i old t) :=
  ((h.mono hp (List.Subset.refl _)).trans ((handOn_effect i old t).mono hh)).regain .tripDerived fun _ =>
    (handToAlarm_effect i _).keeps .tripDerived (by simp) (tuRecompute_derived _)

theorem commitChannel_eq (i : Fin 16) (c : Channel) (s : State) : commitChannel i c s = handOn i (s.channel i) (s.setChannel i c) := rfl

/-- What an evaluation of a channel moves. -/
abbrev gauging : List Part := .judged :: .channels :: handing

theorem commitChannel_effect {i : Fin 16} {c : Channel} {s : State} (hc : c.cfg = (s.channel i).cfg)
    (he : c.enabled = (s.channel i).enabled) : Effect gauging [] s (commitChannel i c s) :=
  handOn_regains (setChannel_effect hc he)

theorem commitChannel_effect_covered {i : Fin 16} {c : Channel} {s : State} (h : coverageLost s i c = false) :
    Effect (.chanCfg :: gauging) [] s (commitChannel i c s) :=
  handOn_regains (setChannel_effect_covered h)

theorem Channel.read_configured (c : Channel) (f : ChannelConfig) (mob : Bool) (v : Calibrated) (sat : Bool) (now : Stamp) :
    (c.read f mob v sat now).cfg = c.cfg ∧ (c.read f mob v sat now).enabled = c.enabled := by
  simp only [Channel.read, Channel.returned]
  split <;> exact ⟨rfl, rfl⟩

theorem commitReading_effect {i : Fin 16} {c : Channel} {s : State} (hc : c.cfg = (s.channel i).cfg)
    (he : c.enabled = (s.channel i).enabled) (f : ChannelConfig) (mob : Bool) (v : Calibrated) (sat : Bool) :
    Effect gauging [] s (commitChannel i (c.read f mob v sat s.now) s) := by
  obtain ⟨h1, h2⟩ := c.read_configured f mob v sat s.now
  exact commitChannel_effect (h1.trans hc) (h2.trans he)

theorem channelReading_effect (i : Fin 16) (raw : Nat) (sat : Bool) (s : State) : Effect gauging [] s (channelReading i raw sat s) := by
  unfold channelReading
  simp only
  split
  · split
    · split
      · exact commitReading_effect rfl rfl ..
      · exact .refl s
    · exact .refl s
  · exact .refl s

theorem channelMiss_effect (i : Fin 16) (reason : MissReason) (s : State) : Effect gauging [] s (channelMiss i reason s) := by
  unfold channelMiss
  simp only
  split
  · split
    · split
      · exact commitChannel_effect rfl rfl
      · exact .refl s
    · exact .refl s
  · exact .refl s

theorem channelWarmup_effect (i : Fin 16) (s : State) : Effect [.channels] [] s (channelWarmup i s) := by
  unfold channelWarmup
  simp only
  split
  · split
    · exact setChannel_effect_of_judged (c := { s.channel i with warmup := true }) rfl rfl rfl rfl
    · exact .refl s
  · exact .refl s

theorem mobileReading_effect (v : Nat) (s : State) : Effect gauging [] s (mobileReading v s) := by
  have h (f : ChannelConfig) (x : Calibrated) :
      Effect gauging [] s (commitChannel mobile ({ s.channel mobile with silence := 0 }.read f true x false s.now) s) :=
    commitReading_effect (i := mobile) (c := { s.channel mobile with silence := 0 }) rfl rfl f true x false
  unfold mobileReading
  simp only
  split
  next f _ =>
    split
    · exact h f _
    · exact .refl s
  · exact .refl s

theorem mobileTick_effect (s : State) : Effect gauging [] s (mobileTick s) := by
  unfold mobileTick
  simp only
  split
  · exact commitChannel_effect rfl rfl
  split
  · exact (setChannel_effect_of_judged (i := mobile)
      (c := { s.channel mobile with silence := (s.channel mobile).silence + 1 }) rfl rfl rfl rfl).mono
  · exact .refl s

theorem reportTick_effect (i : Fin 16) (s : State) : Effect (.channels :: telling) [] s (reportTick i s) := by
  have hone (n : Nat) : Effect [.channels] [] s (s.setChannel i { s.channel i with report := n }) :=
    setChannel_effect_of_judged rfl rfl rfl rfl
  have hset (n : Nat) := (hone n).mono (rs := .channels :: telling) (out := [])
  unfold reportTick
  simp only
  split
  · split
    · exact hset 0
    · exact (hset 0).trans (sendTo_effect ..).mono
  · split
    · split
      · exact hset _
      · exact .refl s
    · exact .refl s

theorem gcuRound_effect (s : State) : Effect gauging [] s (gcuRound s) :=
  (mobileTick_effect s).trans ((forEach_effect allChannels reportTick_effect _).mono)

/-! ## Sensor buses (R43 to R57) -/

/-- What a completion handed over moves. -/
abbrev completing : List Part := .refugeStamps :: .called :: gauging

theorem handOver_effect (t : Target) (c : Completion) (s : State) : Effect completing [] s (handOver t c s) := by
  unfold handOver
  split
  · exact (channelReading_effect ..).mono
  · exact (channelMiss_effect ..).mono
  · exact (channelWarmup_effect ..).mono
  · split
    · exact .refl s
    · exact (refugeReading_effect ..).mono
  · split
    · exact .refl s
    · exact (refugeMiss_effect ..).mono
  · exact .refl s

theorem updBus_effect_lost (b : Bus) (f : BusMaster → BusMaster) (s : State) :
    Effect [.told, .buses] [.modes, .buses] s (s.updBus b f) := .of_parts

theorem updBus_effect {b : Bus} {f : BusMaster → BusMaster} {s : State} (ht : (f (s.bus b)).modeTold = (s.bus b).modeTold)
    (hf : BusLegal (s.bus b) → BusLegal (f (s.bus b))) : Effect [.buses] [] s (s.updBus b f) := by
  have htold : Part.told.same s (s.updBus b f) := by cases b <;> exact congrArg₂ Prod.mk (by first | exact ht | rfl) (by first | exact ht | rfl)
  refine (((updBus_effect_lost b f s).unmoved .told htold).spare .modes).regain .buses fun h => ?_
  cases b
  · exact ⟨hf h.one, h.two⟩
  · exact ⟨h.one, hf h.two⟩

theorem bus_updBus (b : Bus) (f : BusMaster → BusMaster) (s : State) : (s.updBus b f).bus b = f (s.bus b) := by cases b <;> rfl

theorem endTransaction_effect (b : Bus) (hold : Nat) (signs : List BusSign) (c : Target → Completion) (s : State) :
    Effect (.buses :: completing) [] s (endTransaction b hold signs c s) := by
  have hend : Effect [.buses] [] s (s.updBus b fun m => { m with
      state := .idle, inFlight := none, holdTotal := min 17 hold, owesStop := m.owesStop || signs.isEmpty
      wire := m.wire ++ signs }) := updBus_effect rfl fun h => ⟨h.started, h.release, by simp, by simp⟩
  unfold endTransaction
  split
  · exact .refl s
  · simp only
    split
    · exact hend.mono
    · exact hend.mono.trans (handOver_effect ..).mono

theorem completeTransaction_effect (b : Bus) (reply : BusReply) (s : State) :
    Effect (.buses :: completing) [] s (completeTransaction b reply s) := by
  unfold completeTransaction
  simp only
  split
  · exact endTransaction_effect ..
  · exact endTransaction_effect ..

theorem holdClock_effect (b : Bus) (n : Nat) (s : State) : Effect (.buses :: completing) [] s (holdClock b n s) := by
  unfold holdClock
  simp only
  split
  · exact .refl s
  split
  · exact endTransaction_effect ..
  · exact (updBus_effect rfl fun h => ⟨h.started, h.release, h.flight, h.failed⟩).mono

theorem BusLegal.start {m : BusMaster} (h : BusLegal m) (high : Bool) : BusLegal (m.start high) := by
  unfold BusMaster.start
  split
  next hm =>
    simp only [Bool.and_eq_true, decide_eq_true_eq] at hm
    obtain ⟨hi, hs⟩ := hm
    have hflight := h.flight
    rw [hi] at hflight
    split
    · exact h
    · split
      · exact ⟨hs, h.release, by simp, by simp⟩
      · exact ⟨h.started, by simp [BusMaster.enterReleasing], by simpa [BusMaster.enterReleasing] using hflight,
          by simp [BusMaster.enterReleasing]⟩
  next => exact h

theorem BusMaster.start_modeTold (m : BusMaster) (high : Bool) : (m.start high).modeTold = m.modeTold := by
  unfold BusMaster.start
  split
  · split
    · rfl
    · split <;> rfl
  · rfl

theorem startBus_effect (b : Bus) (high : Bool) (s : State) : Effect [.buses] [] s (s.updBus b fun m => m.start high) :=
  updBus_effect (BusMaster.start_modeTold ..) fun h => h.start high

theorem BusLegal.idle {m : BusMaster} (h : BusLegal m) (hs : m.state ≠ .polling) : BusLegal m.toIdle :=
  ⟨h.started, by simp [BusMaster.toIdle], by simpa [BusMaster.toIdle] using fun e => hs (h.flight.mp e), by simp [BusMaster.toIdle]⟩

theorem sampleRelease_effect (b : Bus) (high : Bool) (s : State) : Effect [.buses] [] s (s.updBus b fun m => m.sampleRelease high) := by
  refine updBus_effect ?_ fun h => ?_
  · unfold BusMaster.sampleRelease
    split
    · split <;> rfl
    · rfl
  · unfold BusMaster.sampleRelease
    split
    next hr =>
      split
      · exact h.idle (by simp [hr])
      · exact ⟨h.started, h.release, h.flight, h.failed⟩
    next => exact h

theorem letGo_effect (b : Bus) (s : State) : Effect [.buses] [] s (s.updBus b BusMaster.letGo) := by
  refine updBus_effect ?_ fun h => ?_
  · unfold BusMaster.letGo
    split <;> rfl
  · unfold BusMaster.letGo
    split
    · exact ⟨h.started, h.release, h.flight, h.failed⟩
    · exact h

theorem failPolls_effect (polls : List Poll) (s : State) : Effect completing [] s (failPolls polls s) :=
  forEach_effect polls (fun _ _ => handOver_effect ..) s

theorem failBus_effect {b : Bus} {s : State} (h : (s.bus b).state = .releasing) : Effect (.buses :: completing) [] s (failBus b s) := by
  have hset : Effect [.buses] [] s (s.updBus b fun m => { m with state := .failed, list := [], linesHigh := false }) := by
    refine updBus_effect rfl fun hl => ⟨hl.started, hl.release, ?_, fun _ => rfl⟩
    have hf := hl.flight
    rw [h] at hf
    simpa using hf
  exact hset.mono.trans (failPolls_effect ..).mono

theorem releaseStep_effect (b : Bus) (high : Bool) (s : State) : Effect (.buses :: completing) [] s (releaseStep b high s) := by
  have hlow : Effect [.buses] [] s (s.updBus b fun m => { m with linesHigh := false }) :=
    updBus_effect rfl fun h => ⟨h.started, h.release, h.flight, h.failed⟩
  have hidle (hs : (s.bus b).state ≠ .polling) : Effect [.buses] [] s (s.updBus b BusMaster.toIdle) :=
    updBus_effect rfl fun h => h.idle hs
  unfold releaseStep
  simp only
  split
  next hr =>
    split
    · exact (hidle (by simp [hr])).mono
    split
    · exact failBus_effect hr
    next hn =>
      exact (updBus_effect (f := fun m => { m with release := m.release + 1, linesHigh := false }) rfl fun h =>
        ⟨h.started, Nat.lt_of_not_le hn, h.flight, h.failed⟩).mono
  next hf =>
    split
    · exact (hidle (by simp [hf])).mono
    · exact hlow.mono
  · exact .refl s

theorem BusLegal.filterList {m n : BusMaster} (h : BusLegal m) (hs : n.started ≤ m.started) (hr : n.release = m.release)
    (hf : n.inFlight.isSome = m.inFlight.isSome) (ht : n.state = m.state) (hl : n.list.Sublist m.list) : BusLegal n :=
  ⟨hs.trans h.started, hr ▸ h.release, by rw [hf, ht]; exact h.flight,
    fun e => List.sublist_nil.mp (h.failed (ht ▸ e) ▸ hl)⟩

theorem applyMode_effect (b : Bus) (s : State) : Effect [.buses] [] s (applyMode b s) := by
  refine updBus_effect rfl fun h => h.filterList (Nat.le_refl _) rfl rfl rfl ?_
  simp only
  split
  · exact List.filter_sublist
  · exact List.Sublist.refl _

theorem joinPoll_effect {b : Bus} {p : Poll} {s : State} (h : (s.bus b).state ≠ .failed) :
    Effect [.buses, .channels] [] s (joinPoll b p s) := by
  unfold joinPoll
  split
  · split
    next i _ => exact (setChannel_effect_of_judged (i := i) (c := { s.channel i with skipped := true }) rfl rfl rfl rfl).mono
    · exact .refl s
  · exact (updBus_effect (f := fun m => { m with list := m.list ++ [p] }) rfl fun hl =>
      ⟨hl.started, hl.release, hl.flight, fun e => absurd e h⟩).mono

theorem joinPoll_state (b : Bus) (p : Poll) (s : State) : ((joinPoll b p s).bus b).state = (s.bus b).state := by
  unfold joinPoll
  split
  · split <;> rfl
  · rw [bus_updBus]

theorem joinPolls_effect {b : Bus} (ps : List Poll) {s : State} (h : (s.bus b).state ≠ .failed) :
    Effect [.buses, .channels] [] s (forEach ps (joinPoll b) s) := by
  induction ps generalizing s with
  | nil => exact .refl s
  | cons p ps ih => exact (joinPoll_effect h).trans (ih (by rwa [joinPoll_state]))

theorem addDue_effect (b : Bus) (s : State) : Effect (.buses :: completing) [] s (addDue b s) := by
  unfold addDue
  split
  · exact (failPolls_effect ..).mono
  next h => exact (joinPolls_effect _ h).mono

theorem busRound_effect (b : Bus) (high : Bool) (s : State) : Effect (.buses :: completing) [] s (busRound b high s) := by
  have hstart (t : State) : Effect [.buses] [] t (t.updBus b fun m => { m with started := 0 }) :=
    updBus_effect rfl fun h => ⟨Nat.zero_le _, h.release, h.flight, h.failed⟩
  exact ((((applyMode_effect b s).trans (hstart _)).mono).trans (releaseStep_effect ..)).trans (addDue_effect ..)

theorem dropPolls_effect (t : Target) (s : State) : Effect [.buses] [] s (dropPolls t s) := by
  have hdrop (b : Bus) (u : State) : Effect [.buses] [] u (u.updBus b fun m => m.drop t) :=
    updBus_effect rfl fun h => h.filterList (Nat.le_refl _) rfl (by simp [BusMaster.drop]) rfl List.filter_sublist
  exact (hdrop .one s).trans (hdrop .two _)

end Sys2Proof.Machine
end

section
/-! PROOFS. The trunk state machine, the lines and the round start: what each operation touches and which invariants it keeps (R1 to
R17, R21, R22, R31, R33, R36, R39, R98 to R101). -/

namespace Sys2Proof.Machine

-- Declarations are elaborated one after another: in a text of this length the threads of many at once would not fit the memory limit.
set_option Elab.async false

/-! ## The trunk state machine (R7 to R17) -/

/-- What a change of trunk state moves, the Time Base apart. -/
abbrev switching : List Part := .clock :: .trunk :: calling

theorem postTrunk_effect (before : TrunkState) (s : State) : Effect telling [] s (postTrunk before s) := postBoth_effect ..

theorem trunkChanged_effect (old : TimeBase) (s : State) : Effect calling [] s (trunkChanged old s) := by
  have hpost (b : Bool) : Effect calling [] s (if b = true then postTrunk old.trunk s else s) := by
    split
    · exact (postTrunk_effect ..).mono
    · exact .refl s
  unfold trunkChanged
  simp only
  split
  · exact hpost _
  split
  · exact (hpost _).trans (ctuTrunkLost_effect _)
  · exact (hpost _).trans (ctuTrunkLost_effect _)
  · exact (hpost _).trans (ctuTrunkLost_effect _)
  · exact (hpost _).trans (ctuHalt_effect _)
  · exact hpost _

/-- A step of the Time Base that moves nothing but its timing and its trunk state machine. -/
def TrunkStep (step : TimeBase → TimeBase) : Prop := ∀ s : State, Effect [.clock, .trunk] [] s (s.updTb step)

/-- Timing and trunk state machine of a Time Base. -/
def TimeBase.retimed (t u : TimeBase) : TimeBase :=
  { t with running := u.running, tick := u.tick, phaseAge := u.phaseAge, lateUntil := u.lateUntil, trunk := u.trunk, lead := u.lead,
           flags := u.flags, joinCnt := u.joinCnt, runLead := u.runLead, holdoverCnt := u.holdoverCnt, quietCnt := u.quietCnt,
           listenAge := u.listenAge, candidate := u.candidate, rejoin := u.rejoin, pendingCmd := u.pendingCmd }

theorem trunkStep_of_retimed {step : TimeBase → TimeBase} (h : ∀ t, step t = t.retimed (step t)) : TrunkStep step := by
  intro s
  have hs : s.updTb step = s.updTb fun t => t.retimed (step s.tb) := by simp only [State.updTb, ← h]
  rw [hs]
  exact .of_parts

theorem huntLimit_step {f : TimeBase → TimeBase} (h : ∀ t, f t = t.retimed (f t)) : TrunkStep fun t => huntLimit (f t) := by
  refine trunkStep_of_retimed fun t => ?_
  have hu := h t
  generalize f t = u at hu ⊢
  unfold huntLimit
  split
  · calc
      enterIsland u = enterIsland (t.retimed u) := congrArg _ hu
      _ = t.retimed (enterIsland (t.retimed u)) := rfl
      _ = t.retimed (enterIsland u) := by rw [← hu]
  · exact hu

theorem ownStep_step (quiet : Bool) : TrunkStep (ownStep quiet) := by
  refine trunkStep_of_retimed fun t => ?_
  unfold ownStep
  split
  · unfold huntLimit
    split <;> rfl
  · unfold huntLimit
    split <;> rfl
  · simp only
    split <;> rfl
  · rfl

theorem closeStep_step (quiet : Bool) : TrunkStep (closeStep quiet) := by
  refine trunkStep_of_retimed fun t => ?_
  unfold closeStep
  split
  · rfl
  · unfold huntLimit
    split <;> rfl
  · rfl

theorem applyCommand_step (c : TrunkCommand) : TrunkStep fun t => { applyCommand c t with pendingCmd := none } :=
  trunkStep_of_retimed fun t => by cases c <;> rfl

theorem postDone_effect (p : PendingTrunk) (s : State) : Effect telling [] s (postDone p s) := by
  unfold postDone
  split
  · exact post_effect ..
  · exact .refl s

theorem finishTrunk_effect (old : TimeBase) (s : State) : Effect switching [] s (finishTrunk old s) := by
  unfold finishTrunk
  split
  · exact (trunkChanged_effect old s).mono
  next p _ => exact ((applyCommand_step p.cmd s).mono.trans (trunkChanged_effect ..).mono).trans (postDone_effect ..).mono

theorem trunkStep_effect {step : TimeBase → TimeBase} (h : TrunkStep step) (s : State) : Effect switching [] s (trunkStep step s) := by
  unfold trunkStep
  split
  · exact (h s).mono.trans (finishTrunk_effect ..)
  · exact finishTrunk_effect ..

/-! ## Adoption and the taking of a cell 0 (R13, R26, R33, R39) -/

/-- What the adoption of an epoch moves. -/
abbrev adopting : List Part := [.epoch, .remote, .latch]

theorem adoptEpoch_effect (m : Marker) (clearing : Bool) (s : State) : Effect adopting [.levelDerived] s (adoptEpoch m clearing s) := by
  have hset (t : State) : Effect adopting [.levelDerived] t
      ((t.updTb fun b => { b with epoch := m.epoch }).updCs fun c => { c with remote := ⟨⟨.normal, 0⟩, ⟨.normal, 0⟩⟩ }) := .of_parts
  have hclear (t : State) : Effect adopting [.levelDerived] t (t.updSau fun a => { a with latch := a.causes.gasEvacuate }) := .of_parts
  unfold adoptEpoch
  split
  · exact .refl s
  · simp only
    split
    · exact (hset s).trans (hclear _)
    · exact hset s

theorem adoptEpoch_epoch (m : Marker) (clearing : Bool) (s : State) : (adoptEpoch m clearing s).tb.epoch = m.epoch := by
  unfold adoptEpoch
  split
  next h => exact h.symm
  · simp only
    split <;> rfl

theorem enterCarry_step (m : Marker) : TrunkStep fun t => enterCarry t m := trunkStep_of_retimed fun _ => rfl

theorem adoptMarker_effect (m : Marker) (clearing : Bool) (s : State) :
    Effect (.clock :: .trunk :: adopting) [.levelDerived] s (adoptMarker m clearing s) :=
  (enterCarry_step m s).mono.trans (adoptEpoch_effect ..).mono

theorem takeHold_effect (l : Line) (h : Option Nat) (s : State) : Effect (.flow :: telling) [] s (takeHold l h s) := by
  have hset (n : Nat) : Effect [.flow] [] s (s.updCs fun c => { c with held := c.held.set l n }) := .of_parts
  unfold takeHold
  split
  · exact .refl s
  · exact (hset 0).mono
  · exact (hset _).mono.trans (latchInd_effect ..).mono

/-- What a level taken from a cell 0 moves. -/
abbrev remoting : List Part := .remote :: alarming

theorem setRemote_effect (l : Line) (r : Remote) (s : State) :
    Effect [.remote] [.levelDerived] s (s.updCs fun c => { c with remote := c.remote.set l r }) := .of_parts

/-- The section level derived again, once the latch may have been set beside it. -/
theorem latchDerive_effect (b : AlarmUnit → Bool) (s : State) :
    Effect alarming [] s (sauDerive (s.updSau fun a => { a with latch := b a })) :=
  sauDerive_regains (ps := [.latch]) .of_parts

theorem latchDerive_derived (b : AlarmUnit → Bool) (s : State) :
    Law.levelDerived.holds (sauDerive (s.updSau fun a => { a with latch := b a })) := sauDerive_derived _

theorem takeLevel_effect (l : Line) (epoch : Nat) (level : SectionLevel) (s : State) :
    Effect remoting [] s (takeLevel l epoch level s) := by
  unfold takeLevel
  split
  · refine Effect.regain .levelDerived ?_ fun _ => latchDerive_derived (fun a => a.latch || decide (level = .evacuate)) _
    exact (setRemote_effect l { level := level, age := 0 } s).mono.trans
      ((latchDerive_effect (fun a => a.latch || decide (level = .evacuate)) _).mono)
  · exact .refl s

/-- R39: where the epoch is the node's own, the section level follows whatever it had fallen behind. -/
theorem takeLevel_derived {l : Line} {epoch : Nat} {level : SectionLevel} {s : State} (h : epoch = s.tb.epoch) :
    Law.levelDerived.holds (takeLevel l epoch level s) := by
  unfold takeLevel
  rw [if_pos h]
  exact latchDerive_derived (fun a => a.latch || decide (level = .evacuate)) _

/-- What a taken cell 0 moves. -/
abbrev zeroing : List Part := .flow :: .line :: remoting

theorem takeMarker_effect (m : Marker) (s : State) : Effect zeroing [] s (takeMarker m s) :=
  ((takeHold_effect ..).mono.trans (updStatus_effect ..).mono).trans (takeLevel_effect ..).mono

theorem takeMarker_derived {m : Marker} {s : State} (h : m.epoch = s.tb.epoch) : Law.levelDerived.holds (takeMarker m s) := by
  have hsame : Effect zeroing [] s ((takeHold .outbye m.hold s).updStatus .outbye fun st => { st with neighbour := some m.src }) :=
    (takeHold_effect ..).mono.trans (updStatus_effect ..).mono
  exact takeLevel_derived (h.trans (hsame.same .epoch (by decide)).symm)

theorem takeUplink_effect (c : Cell) (s : State) : Effect zeroing [] s (takeUplink c s) :=
  ((takeHold_effect ..).mono.trans (updStatus_effect ..).mono).trans (takeLevel_effect ..).mono

/-! ## The lines at a round start (R31, R33, R36, R39) -/

theorem lineRound_effect (l : Line) (rep : CarrierReport) (s : State) : Effect (.line :: telling) [] s (lineRound l rep s) := by
  have hlost (b : Bool) : Effect (.line :: telling) [] s (if b = true then latchInd l .carrierLost s else s) := by
    split
    · exact (latchInd_effect ..).mono
    · exact .refl s
  have hup (f : LineStatus → LineStatus) (t : State) : Effect (.line :: telling) [] t (t.updStatus l f) := (updStatus_effect ..).mono
  have hpost (b : Prop) [Decidable b] (t : State) : Effect (.line :: telling) [] t (if b then t else postLineEvent l t) := by
    split
    · exact .refl t
    · exact (postLineEvent_effect ..).mono
  exact ((hlost _).trans (hup _ _)).trans (hpost ..)

theorem levelOf_setRemote_age {l : Line} {n : Nat} {s : State} :
    levelOf (s.updCs fun c => { c with remote := c.remote.set l { level := (s.cs.remote.get l).level, age := n } }) = levelOf s := by
  cases l <;> rfl

/-- R39: a remote level replaced; the section level is derived again where the level differs. -/
theorem ageRemote_effect (l : Line) (level : SectionLevel) (n : Nat) (s : State) : Effect remoting [] s
    (if level = (s.cs.remote.get l).level then s.updCs fun c => { c with remote := c.remote.set l { level := level, age := n } }
      else sauDerive (s.updCs fun c => { c with remote := c.remote.set l { level := level, age := n } })) := by
  have hset := setRemote_effect l { level := level, age := n } s
  split
  next h =>
    rw [h] at hset ⊢
    exact (hset.regain .levelDerived fun hs => Eq.trans hs levelOf_setRemote_age.symm).mono
  · exact (hset.mono.trans ((sauDerive_effect _).mono)).regain .levelDerived fun _ => sauDerive_derived _

theorem remoteTick_effect (l : Line) (s : State) : Effect remoting [] s (remoteTick l s) := ageRemote_effect l _ _ s

theorem heldTick_effect (l : Line) (s : State) : Effect [.flow] [] s (heldTick l s) := .of_parts

theorem announceFor_effect (l : Line) (n : Nat) (s : State) : Effect [.flow] [] s (announceFor l n s) := .of_parts

theorem setHolding_effect (l : Line) (h : Holding) (s : State) : Effect [.flow] [] s (setHolding l h s) := .of_parts

theorem examineQueue_effect (l : Line) (s : State) : Effect [.flow] [] s (examineQueue l s) := by
  unfold examineQueue
  simp only
  split
  · split
    · exact (setHolding_effect ..).trans (announceFor_effect ..)
    split
    · exact (setHolding_effect ..).trans (announceFor_effect ..)
    · exact setHolding_effect ..
  · split
    · exact (setHolding_effect ..).trans (announceFor_effect ..)
    · exact .refl s

/-! ## The sixteen positions (R21, R22) -/

theorem cellZero_effect (l : Line) (s : State) : Effect [.flow] [] s (cellZero l s).2 := by
  unfold cellZero
  split
  · exact .of_parts
  · exact .refl s

theorem setSent_effect (l : Line) (cells : List Cell) (s : State) :
    Effect [.sent] [] s (s.updCs fun c => { c with sent := c.sent.set l cells }) := .of_parts

theorem dropQueues_effect (l : Line) (m n : Nat) (s : State) :
    Effect [.cells] [] s (s.updQueues l fun q => { signal := q.signal.drop m, data := q.data.drop n }) := by
  refine .of_parts (capacity := fun _ h => h.of_cells rfl rfl fun hc => hc.updQueues l ?_)
  obtain ⟨hs, hd⟩ := hc.queues l
  exact ⟨by rw [List.length_drop]; omega, by rw [List.length_drop]; omega⟩

/-- What the filling of the positions of a line moves. -/
abbrev filling : List Part := [.flow, .calls, .cells, .sent]

theorem fillLine_effect (l : Line) (held : Bool) (s : State) : Effect filling [] s (fillLine l held s) := by
  have hzero := (cellZero_effect l s).mono (rs := filling) (out := [])
  have hcalls := (callCells_effect l allCalls (cellZero l s).2).mono (rs := filling) (out := [])
  have hdrop (m n : Nat) (t : State) := (dropQueues_effect l m n t).mono (rs := filling) (out := [])
  have hsent (cells : List Cell) (t : State) := (setSent_effect l cells t).mono (rs := filling) (out := [])
  unfold fillLine
  split
  · exact ((hzero.trans hcalls).trans (hdrop ..)).trans (hsent ..)
  · exact hsent ..

theorem releaseStaged_effect (s : State) : Effect telling [] s (releaseStaged s) :=
  (setStaging_effect none s).trans (forEach_effect _ (fun (p : Line × Cell) t => joinLocal_effect p.1 p.2 t) _)

/-! ## Supply (R98 to R101) -/

theorem setSupply_effect {f : SupplyMonitor → SupplyMonitor} {s : State} (hm : (f s.tu.supply).mode = s.tu.supply.mode)
    (he : (f s.tu.supply).enter = s.tu.supply.enter) (hl : (f s.tu.supply).leave = s.tu.supply.leave) :
    Effect [.supply] [] s (s.updTu fun u => { u with supply := f u.supply }) := by
  have h : Effect [.supplyConf, .supplyMode, .supply] [.modes, .tripDerived] s (s.updTu fun u => { u with supply := f u.supply }) :=
    .of_parts
  exact (((h.unmoved .supplyConf (congrArg₂ Prod.mk he hl)).unmoved .supplyMode hm).spare .modes).spare .tripDerived

theorem enterMode_effect (m : SupplyMode) (s : State) :
    Effect [.supply, .supplyMode] [.modes, .tripDerived] s (s.updTu fun u => { u with supply := u.supply.enterMode m }) := .of_parts

/-- R101: the buses, the Gas Channel Unit and the Call Table Unit, then the Cell Switch and the Section Alarm Unit, are told. -/
def tellMode (m : SupplyMode) (s : State) : State :=
  ((ctuSupplyMode m (((s.updBus .one fun b => { b with modeTold := m }).updBus .two fun b => { b with modeTold := m }).updGcu
    fun g => { g with supplyMode := m })).updCs fun c => { c with supplyMode := m }).updSau fun a => { a with modeTold := m }

/-- The parts that hold the supply mode as it was told. -/
abbrev moding : List Part := .told :: .gcuMode :: .csMode :: .alarmTold :: .ctuMode :: calling

theorem tellBuses_effect (m : SupplyMode) (s : State) : Effect [.told] [.modes] s
    ((s.updBus .one fun b => { b with modeTold := m }).updBus .two fun b => { b with modeTold := m }) := .of_parts

theorem tellGas_effect (m : SupplyMode) (s : State) : Effect [.gcuMode] [.modes] s (s.updGcu fun g => { g with supplyMode := m }) :=
  .of_parts

theorem tellCells_effect (m : SupplyMode) (s : State) : Effect [.csMode] [.modes] s (s.updCs fun c => { c with supplyMode := m }) :=
  .of_parts

theorem tellAlarm_effect (m : SupplyMode) (s : State) : Effect [.alarmTold] [.modes] s (s.updSau fun a => { a with modeTold := m }) :=
  .of_parts

theorem tellMode_effect (m : SupplyMode) (s : State) : Effect moding [.modes] s (tellMode m s) :=
  ((((tellBuses_effect m s).mono.trans (tellGas_effect m _).mono).trans (ctuSupplyMode_effect m _).mono).trans
    (tellCells_effect m _).mono).trans (tellAlarm_effect m _).mono

theorem ctuSupplyMode_mode (m : SupplyMode) (s : State) : (ctuSupplyMode m s).ctu.supplyMode = m := by
  have h : Part.ctuMode.same (s.updCtu fun c => { c with supplyMode := m }) (shed .supply (s.updCtu fun c => { c with supplyMode := m })) :=
    (shed_effect ..).same .ctuMode (by decide)
  unfold ctuSupplyMode
  exact h

/-- R101: after the hand-over every block holds the mode that was told. -/
theorem tellMode_modes {m : SupplyMode} {s : State} (h : s.tu.supply.mode = m) : ModesAlike (tellMode m s) := by
  have hmode : (tellMode m s).tu.supply.mode = m := ((tellMode_effect m s).same .supplyMode (by decide)).trans h
  rw [ModesAlike, hmode]
  unfold tellMode
  have hb1 : (((s.updBus .one fun b => { b with modeTold := m }).updBus .two fun b => { b with modeTold := m }).updGcu
    fun g => { g with supplyMode := m }).sbm.one.modeTold = m := rfl
  have hb2 : (((s.updBus .one fun b => { b with modeTold := m }).updBus .two fun b => { b with modeTold := m }).updGcu
    fun g => { g with supplyMode := m }).sbm.two.modeTold = m := rfl
  have hg : (((s.updBus .one fun b => { b with modeTold := m }).updBus .two fun b => { b with modeTold := m }).updGcu
    fun g => { g with supplyMode := m }).gcu.supplyMode = m := rfl
  generalize ((s.updBus .one fun b => { b with modeTold := m }).updBus .two fun b => { b with modeTold := m }).updGcu
    (fun g => { g with supplyMode := m }) = u at hb1 hb2 hg ⊢
  have hu := ctuSupplyMode_effect m u
  obtain ⟨h1, h2⟩ := Prod.mk.inj (hu.same .told (by decide))
  have hm := ctuSupplyMode_mode m u
  have hgu := hu.same .gcuMode (by decide)
  generalize ctuSupplyMode m u = v at h1 h2 hm hgu ⊢
  exact ⟨rfl, hgu.trans hg, hm, rfl, h1.trans hb1, h2.trans hb2⟩

theorem supplyChange_eq (m : SupplyMode) (s : State) : supplyChange m s =
    tellMode m (tuRecompute (postBoth .supplyChange (u8 m.code ++ u8 s.tu.supply.mode.code
      ++ u16 (s.tu.supply.enterMode m).lastBattery ++ u16 s.tb.running) (s.updTu fun u => { u with supply := u.supply.enterMode m }))) := rfl

/-- What a change of supply mode moves. -/
abbrev supplying : List Part := .supply :: .supplyMode :: .trip :: .tripStamp :: moding

theorem supplyChange_effect (m : SupplyMode) (s : State) : Effect supplying [] s (supplyChange m s) := by
  have hpost (d : Bytes) (t : State) : Effect tripping [] t (tuRecompute (postBoth .supplyChange d t)) :=
    (postBoth_effect ..).mono.trans (tuRecompute_effect _)
  have hset := (enterMode_effect m s).mono (rs := supplying) (out := [.modes, .tripDerived])
  have htell (t : State) := (tellMode_effect m t).mono (rs := supplying) (out := [.modes, .tripDerived])
  rw [supplyChange_eq]
  refine Effect.regain .tripDerived (Effect.regain .modes ((hset.trans (hpost _ _).mono).trans (htell _)) fun _ => ?_) fun _ => ?_
  · exact tellMode_modes ((hpost _ _).same .supplyMode (by decide))
  · exact (tellMode_effect m _).keeps .tripDerived (by simp) (tuRecompute_derived _)

theorem supplySample_effect (mains : Bool) (battery : Nat) (s : State) : Effect supplying [] s (supplySample mains battery s) := by
  have hset : Effect [.supply] [] s (s.updTu fun u => { u with supply := u.supply.sample mains battery }) :=
    setSupply_effect (f := fun m => m.sample mains battery) rfl rfl rfl
  unfold supplySample
  simp only
  split
  · exact hset.mono.trans (supplyChange_effect ..)
  · exact hset.mono

/-! ## The round start (R1, log 3) -/

theorem openRound_effect (n : Nat) (late : Option Nat) (s : State) : Effect [.clock] [] s (openRound n late s) := .of_parts

theorem countWork_effect (s : State) : Effect (.outputs :: .road :: sheltering) [] s (countWork s) :=
  (sauRound_effect s).mono.trans (membersRound_effect _).mono

theorem linesRound_effect (smp : Samples) (s : State) :
    Effect (.flow :: .line :: telling) [] s (bothLines heldTick (bothLines (fun l => lineRound l (smp.carrier.get l)) s)) :=
  (bothLines_effect (fun l t => lineRound_effect l (smp.carrier.get l) t) s).mono.trans ((bothLines_effect heldTick_effect _).mono)

/-- The remote ages at a round start that a marker produced. -/
def agesRound (m : Marker) (renewed : Bool) (s : State) : State :=
  let s3 := if m.epoch = s.tb.epoch then s else remoteTick .outbye s
  if renewed then s3 else remoteTick .inbye s3

theorem agesRound_effect (m : Marker) (renewed : Bool) (s : State) : Effect remoting [] s (agesRound m renewed s) := by
  have h : Effect remoting [] s (if m.epoch = s.tb.epoch then s else remoteTick .outbye s) := by
    split
    · exact .refl s
    · exact remoteTick_effect ..
  unfold agesRound
  simp only
  generalize (if m.epoch = s.tb.epoch then s else remoteTick .outbye s) = t at h ⊢
  split
  · exact h
  · exact h.trans (remoteTick_effect ..)

theorem lineWork_none (smp : Samples) (renewed : Bool) (s : State) : lineWork smp none renewed s =
    remoteTick .inbye (remoteTick .outbye (bothLines heldTick (bothLines (fun l => lineRound l (smp.carrier.get l)) s))) := rfl

theorem lineWork_some (smp : Samples) (m : Marker) (renewed : Bool) (s : State) : lineWork smp (some m) renewed s =
    takeMarker m (agesRound m renewed (bothLines heldTick (bothLines (fun l => lineRound l (smp.carrier.get l)) s))) := rfl

theorem lineWork_effect (smp : Samples) (mk : Option Marker) (renewed : Bool) (s : State) :
    Effect zeroing [] s (lineWork smp mk renewed s) := by
  have hlines := (linesRound_effect smp s).mono (rs := zeroing) (out := [])
  cases mk with
  | none =>
    rw [lineWork_none]
    exact hlines.trans ((remoteTick_effect ..).trans (remoteTick_effect ..)).mono
  | some m =>
    rw [lineWork_some]
    exact (hlines.trans (agesRound_effect ..).mono).trans (takeMarker_effect ..)

theorem lineWork_derived {smp : Samples} {m : Marker} {renewed : Bool} {s : State} (h : m.epoch = s.tb.epoch) :
    Law.levelDerived.holds (lineWork smp (some m) renewed s) := by
  have hages : Effect zeroing [] s (agesRound m renewed (bothLines heldTick (bothLines (fun l => lineRound l (smp.carrier.get l)) s))) :=
    (linesRound_effect smp s).mono.trans (agesRound_effect ..).mono
  rw [lineWork_some]
  exact takeMarker_derived (h.trans (hages.same .epoch (by decide)).symm)

/-- What the field blocks move at a round start. -/
abbrev fielding : List Part := .buses :: .sup :: .holders :: .tableFull :: .supply :: .supplyMode :: (completing ++ moding)

theorem fieldWork_effect (smp : Samples) (s : State) : Effect fielding [] s (fieldWork smp s) := by
  have hbus (b : Bus) (h : Bool) (t : State) := (busRound_effect b h t).mono (rs := fielding) (out := [])
  have hgas (t : State) := (gcuRound_effect t).mono (rs := fielding) (out := [])
  have hsup (t : State) := (supervisionTick_effect t).mono (rs := fielding) (out := [])
  have hovr (t : State) := (overrideTick_effect t).mono (rs := fielding) (out := [])
  have hmains (t : State) := (supplySample_effect smp.mains smp.battery t).mono (rs := fielding) (out := [])
  have hcalls (t : State) := (ctuRound_effect t).mono (rs := fielding) (out := [])
  have hcars (t : State) := (vuRound_effect t).mono (rs := fielding) (out := [])
  exact ((((((hbus .one _ s).trans (hbus .two _ _)).trans (hgas _)).trans (hsup _)).trans (hovr _)).trans (hmains _)).trans
    ((hcalls _).trans (hcars _))

theorem fillWork_effect (held : PerLine Bool) (s : State) : Effect filling [] s (fillWork held s) :=
  (bothLines_effect examineQueue_effect s).mono.trans (bothLines_effect (fun l t => fillLine_effect l (held.get l) t) _)

/-- What a round start moves, its timing and its trunk state machine among it. -/
abbrev rounding : List Part := .clock :: .trunk :: .epoch :: .outputs :: .sent :: .line :: .flow :: .remote :: .radio :: fielding

/-- R13, R39: the level of a marker is taken where its epoch was adopted. -/
theorem roundWork_effect {smp : Samples} {mk : Option Marker} {trunk : State → State} {s : State}
    (h : ∀ t, Effect rounding [] t (trunk t)
      ∨ (Effect rounding [.levelDerived] t (trunk t) ∧ ∃ m, mk = some m ∧ m.epoch = (trunk t).tb.epoch)) :
    Effect rounding [] s (roundWork smp mk trunk s) := by
  have hopen := ((setStaging_effect (some []) s).mono (rs := rounding) (out := [])).trans ((countWork_effect _).mono)
  have hline (b : Bool) (t : State) := (lineWork_effect smp mk b t).mono (rs := rounding) (out := [])
  have hfield (t : State) := (fieldWork_effect smp t).mono (rs := rounding) (out := [])
  have hfill (x : PerLine Bool) (t : State) := (fillWork_effect x t).mono (rs := rounding) (out := [])
  have hrel (t : State) := (releaseStaged_effect t).mono (rs := rounding) (out := [])
  have hrest (x : PerLine Bool) (t : State) : Effect rounding [] t (releaseStaged (fillWork x (fieldWork smp t))) :=
    ((hfield t).trans (hfill x _)).trans (hrel _)
  unfold roundWork
  obtain ht | ⟨ht, m, rfl, he⟩ := h (countWork (s.updCs fun c => { c with staging := some [] }))
  · exact ((hopen.trans ht).trans (hline _ _)).trans (hrest _ _)
  · refine Effect.regain .levelDerived (((hopen.mono.trans ht).trans (hline _ _).mono).trans (hrest _ _).mono) fun _ => ?_
    exact (hrest _ _).keeps .levelDerived (by simp) (lineWork_derived he)

theorem ownRound_effect (smp : Samples) (s : State) : Effect rounding [] s (ownRound smp s) := by
  unfold ownRound
  split
  · exact ((advanceTicks_effect ..).mono.trans (openRound_effect ..).mono).trans
      (roundWork_effect fun t => .inl (trunkStep_effect (ownStep_step _) t).mono)
  · exact .refl s

theorem closeWindow_effect (smp : Samples) (s : State) : Effect rounding [] s (closeWindow smp s) := by
  unfold closeWindow
  split
  · exact .refl s
  · exact ((advanceTicks_effect ..).mono.trans (openRound_effect ..).mono).trans
      (roundWork_effect fun t => .inl (trunkStep_effect (closeStep_step _) t).mono)

/-! ## Markers (R6 to R11) -/

/-- A round start that a marker produces, the step being one of the Time Base alone. -/
theorem stepRound_effect {smp : Samples} {m : Marker} {step : TimeBase → TimeBase} (h : TrunkStep step) (s : State) :
    Effect rounding [] s (markerRound smp m (fun t => t.updTb step) s) :=
  (openRound_effect ..).mono.trans (roundWork_effect fun t => .inl ((h t).mono.trans (finishTrunk_effect ..).mono))

/-- A round start that a marker produces, the marker being adopted. -/
theorem adoptRound_effect {smp : Samples} {m : Marker} {clearing : Bool} {f : State → State}
    (hf : ∀ t, Effect [.clock, .trunk] [] t (f t)) (s : State) :
    Effect rounding [] s (markerRound smp m (fun t => adoptMarker m clearing (f t)) s) := by
  refine (openRound_effect ..).mono.trans (roundWork_effect fun t => .inr ⟨?_, m, rfl, ?_⟩)
  · exact ((hf t).mono.trans (adoptMarker_effect ..).mono).trans (finishTrunk_effect ..).mono
  · exact ((finishTrunk_effect s.tb (adoptMarker m clearing (f t))).same .epoch (by decide)).symm ▸ (adoptEpoch_epoch ..).symm

theorem huntMarker_effect (smp : Samples) (m : Marker) (s : State) : Effect rounding [] s (huntMarker smp m s) :=
  stepRound_effect (huntLimit_step fun _ => rfl) s

theorem joinMarker_effect (smp : Samples) (m : Marker) (s : State) : Effect rounding [] s (joinMarker smp m s) := by
  unfold joinMarker
  split
  · simp only
    split
    · exact adoptRound_effect (f := fun t => t.updTb (joinCounts (quietRound smp))) (trunkStep_of_retimed fun _ => rfl) s
    · exact stepRound_effect (huntLimit_step fun _ => rfl) s
  · exact huntMarker_effect ..

theorem enterHoldover_step (c : Option Candidate) : TrunkStep fun t => enterHoldover t c := trunkStep_of_retimed fun _ => rfl

theorem carryMarker_effect (smp : Samples) (m : Marker) (s : State) : Effect rounding [] s (carryMarker smp m s) := by
  unfold carryMarker
  split
  · exact adoptRound_effect (f := fun t => t) (fun t => .refl t) s
  · have hstep := (enterHoldover_step (some { round := m.round, age := 0 }) s).mono (rs := rounding) (out := [])
    have hchange (t : State) := (trunkChanged_effect s.tb t).mono (rs := rounding) (out := [])
    exact (hstep.trans (hchange _)).trans (takeMarker_effect ..).mono

theorem setCandidate_step (c : Option Candidate) : TrunkStep fun t => { t with candidate := c } := trunkStep_of_retimed fun _ => rfl

theorem setRejoin_step (r : RejoinRun) : TrunkStep fun t => { t with rejoin := r } := trunkStep_of_retimed fun _ => rfl

/-- R10: the marker of a round already started is adopted. -/
theorem lateMarker_effect (m : Marker) (clearing : Bool) (s : State) : Effect rounding [] s
    (takeMarker m (trunkChanged s.tb (adoptMarker m clearing (s.updTb fun t => { t with phaseAge := 0 })))) := by
  have hphase := (trunkStep_of_retimed (step := fun t => { t with phaseAge := 0 }) (fun _ => rfl) s).mono (rs := rounding) (out := [.levelDerived])
  have hadopt (t : State) := (adoptMarker_effect m clearing t).mono (rs := rounding) (out := [.levelDerived])
  have hchange (t : State) := (trunkChanged_effect s.tb t).mono (rs := rounding) (out := [.levelDerived])
  have htake (t : State) := (takeMarker_effect m t).mono (rs := rounding) (out := [.levelDerived])
  refine Effect.regain .levelDerived (((hphase.trans (hadopt _)).trans (hchange _)).trans (htake _)) fun _ => takeMarker_derived ?_
  have hsame := (trunkChanged_effect s.tb (adoptMarker m clearing (s.updTb fun t => { t with phaseAge := 0 }))).same .epoch (by decide)
  exact (Eq.trans hsame (adoptEpoch_epoch ..)).symm

theorem holdoverMarker_effect (smp : Samples) (m : Marker) (s : State) : Effect rounding [] s (holdoverMarker smp m s) := by
  unfold holdoverMarker
  simp only
  split
  · exact adoptRound_effect (f := fun t => t) (fun t => .refl t) s
  split
  · exact lateMarker_effect ..
  split
  · exact adoptRound_effect (f := fun t => t) (fun t => .refl t) s
  · exact (setCandidate_step _ s).mono.trans (takeMarker_effect ..).mono

theorem islandMarker_effect (smp : Samples) (m : Marker) (s : State) : Effect rounding [] s (islandMarker smp m s) := by
  have hrun (r : RejoinRun) : Effect rounding [] s (takeMarker m (s.updTb fun t => { t with rejoin := r })) :=
    (setRejoin_step r s).mono.trans (takeMarker_effect ..).mono
  have heither (b : Bool) (r : RejoinRun) : Effect rounding [] s
      (if b = true then markerRound smp m (adoptMarker m false) s else takeMarker m (s.updTb fun t => { t with rejoin := r })) := by
    split
    · exact adoptRound_effect (f := fun t => t) (fun t => .refl t) s
    · exact hrun r
  exact heither ..

theorem markerEvent_effect (smp : Samples) (m : Marker) (s : State) : Effect rounding [] s (markerEvent smp m s) := by
  unfold markerEvent
  split
  · exact (takeMarker_effect m s).mono
  · exact (takeMarker_effect m s).mono
  · exact (takeMarker_effect m s).mono
  · exact huntMarker_effect ..
  · exact joinMarker_effect ..
  · exact carryMarker_effect ..
  · exact holdoverMarker_effect ..
  · exact islandMarker_effect ..

theorem badMarker_effect (s : State) : Effect switching [] s (badMarker s) := by
  have hstep {f : TimeBase → TimeBase} (h : ∀ t, f t = t.retimed (f t)) : Effect switching [] s (s.updTb f) := (trunkStep_of_retimed h s).mono
  unfold badMarker
  simp only
  split
  · split
    · exact (hstep fun _ => rfl).trans (trunkChanged_effect ..).mono
    · exact .refl s
  · split
    · exact hstep fun _ => rfl
    · exact .refl s
  · split
    · exact hstep fun _ => rfl
    · exact .refl s
  · exact .refl s

theorem markGood_effect (l : Line) (s : State) : Effect [.inds, .line] [] s (markGood l s) := updStatus_effect ..

theorem badCell_effect (l : Line) (c : Cell) (s : State) : Effect (.line :: telling) [] s (badCell l c s) := by
  unfold badCell
  simp only
  split
  · exact (latchInd_effect ..).mono
  · exact (latchInd_effect ..).mono.trans (addFiltered_effect ..).mono

theorem cellZeroOutbye_effect (raw : Bytes) (smp : Samples) (s : State) : Effect rounding [] s (cellZeroOutbye raw smp s) := by
  unfold cellZeroOutbye
  simp only
  split
  · exact .refl s
  split
  · exact (badCell_effect ..).mono.trans (badMarker_effect _).mono
  split
  · exact (markGood_effect ..).mono
  split
  · exact (markerEvent_effect ..).trans (markGood_effect ..).mono
  · exact (markGood_effect ..).mono.trans (addFiltered_effect ..).mono

theorem cellZeroInbye_effect (raw : Bytes) (s : State) : Effect zeroing [] s (cellZeroInbye raw s) := by
  unfold cellZeroInbye
  simp only
  split
  · exact (badCell_effect ..).mono
  split
  · exact (markGood_effect ..).mono
  split
  · exact (markGood_effect ..).mono.trans (takeUplink_effect ..)
  · exact (markGood_effect ..).mono.trans (addFiltered_effect ..).mono

end Sys2Proof.Machine
end

section
/-! PROOFS. The port commands: what each touches and which invariants it keeps. A refusal touches the response alone. -/

namespace Sys2Proof.Machine

-- Declarations are elaborated one after another: in a text of this length the threads of many at once would not fit the memory limit.
set_option Elab.async false

/-! ## Time Base and Cell Switch (R15 to R17, R29 to R41) -/

theorem doTrunkConfigure_effect (src : Source) (tag : Byte) (p : Bytes) (s : State) :
    Effect (.node :: answering) [] s (doTrunkConfigure src tag p s) := by
  have hset (x : TrunkParams) : Effect [.node] [] s (s.updTb fun t => { t with params := x }) := .of_parts
  refine command_effect (sized_effect ?_)
  split
  · exact .refl s
  split
  · exact .refl s
  · exact (hset _).mono

theorem trunkCommand_effect (c : TrunkCommand) (src : Source) (tag : Byte) (p : Bytes) (s : State) :
    Effect (.trunk :: answering) [] s (trunkCommand c src tag p s) := by
  have hset (x : Option PendingTrunk) : Effect [.trunk] [] s (s.updTb fun t => { t with pendingCmd := x }) := .of_parts
  refine command_effect (sized_effect ?_)
  split
  · exact .refl s
  split
  · exact .refl s
  · exact (hset _).mono

theorem doFilterSet_effect (src : Source) (tag : Byte) (p : Bytes) (s : State) :
    Effect (.flowConf :: answering) [] s (doFilterSet src tag p s) := by
  have hset (l : Line) (d : DropSet) : Effect [.flowConf] [] s (s.updCs fun c => { c with dropSet := c.dropSet.set l d }) := .of_parts
  refine command_effect (sized_effect ?_)
  split
  · split
    · exact .refl s
    · exact (hset _ _).mono
  · exact .refl s

theorem doHoldConfigure_effect (src : Source) (tag : Byte) (p : Bytes) (s : State) :
    Effect (.flowConf :: answering) [] s (doHoldConfigure src tag p s) := by
  have hset (x : HoldParams) : Effect [.flowConf] [] s (s.updCs fun c => { c with holdParams := x }) := .of_parts
  exact command_effect (sized_effect (hset _).mono)

theorem takeCell_effect (safety : Bool) (s : State) : Effect telling [] s (takeCell safety s).1 := by
  unfold takeCell
  split
  · exact .refl s
  next rest h =>
    refine setDeliveryQueue_effect fun hq => ?_
    rw [h, List.length_cons] at hq
    omega

theorem doCellTake_effect (src : Source) (tag : Byte) (p : Bytes) (s : State) : Effect answering [] s (doCellTake src tag p s) := by
  unfold doCellTake
  split
  · exact command_effect (.refl s)
  · exact command_effect (sized_effect (takeCell_effect ..).mono)

theorem clearLine_effect (l : Line) (s : State) : Effect [.inds, .line] [] s (clearLine l s) := updStatus_effect ..

theorem doLineStatusRead_effect (src : Source) (tag : Byte) (p : Bytes) (s : State) :
    Effect (.line :: answering) [] s (doLineStatusRead src tag p s) := by
  refine command_effect (paged_effect fun page => ?_)
  split
  · simp only
    split
    · exact (forEach_effect _ clearLine_effect s).mono
    · exact .refl s
  · exact .refl s

theorem doMessageSend_effect (src : Source) (tag : Byte) (p : Bytes) (s : State) :
    Effect answering [] s (doMessageSend src tag p s) := by
  refine command_effect ?_
  simp only
  split
  · exact .refl s
  split
  · exact .refl s
  split
  · exact .refl s
  · exact (sendTo_effect ..).mono

/-! ## Sensor buses and gas channels (R48, R59 to R65) -/

theorem releaseBus_effect (b : Bus) (high : Bool) (s : State) : Effect [.buses] [] s (releaseBus b high s).1 := by
  unfold releaseBus
  simp only
  split
  next hf =>
    refine updBus_effect (f := fun m => m.enterReleasing.sampleRelease high) ?_ fun h => ?_
    · cases high <;> rfl
    · have hflight := h.flight
      rw [hf] at hflight
      cases high
      · exact ⟨h.started, by simp [BusMaster.enterReleasing, BusMaster.sampleRelease],
          by simpa [BusMaster.enterReleasing, BusMaster.sampleRelease] using hflight,
          by simp [BusMaster.enterReleasing, BusMaster.sampleRelease]⟩
      · exact ⟨h.started, by simp [BusMaster.enterReleasing, BusMaster.sampleRelease, BusMaster.toIdle],
          by simpa [BusMaster.enterReleasing, BusMaster.sampleRelease, BusMaster.toIdle] using hflight,
          by simp [BusMaster.enterReleasing, BusMaster.sampleRelease, BusMaster.toIdle]⟩
  · exact .refl s
  · exact .refl s

theorem doBusRelease_effect (src : Source) (tag : Byte) (p : Bytes) (high : Bool) (s : State) :
    Effect (.buses :: answering) [] s (doBusRelease src tag p high s) := by
  refine command_effect (sized_effect ?_)
  split
  · exact (releaseBus_effect ..).mono
  · exact .refl s

/-- What a change of a channel's configuration moves. -/
abbrev configuring : List Part := .buses :: .chanCfg :: gauging

theorem commitDropped_effect {i : Fin 16} {c : Channel} {s : State} (h : coverageLost s i c = false) :
    Effect configuring [] s (commitChannel i c (dropPolls (.chan i) s)) := by
  have hkept : coverageLost (dropPolls (.chan i) s) i c = false := h
  have hcommit := (commitChannel_effect_covered hkept).mono (rs := configuring) (out := [])
  exact (dropPolls_effect ..).mono.trans hcommit

theorem configureChannel_effect (p : Bytes) (s : State) : Effect configuring [] s (configureChannel p s).1 := by
  unfold configureChannel
  split
  · exact .refl s
  split
  · exact .refl s
  split
  · exact .refl s
  split
  · exact .refl s
  next hcov =>
    dsimp only
    exact commitDropped_effect (by simpa using hcov)

theorem doChannelConfigure_effect (src : Source) (tag : Byte) (p : Bytes) (s : State) :
    Effect (.slots :: configuring) [] s (doChannelConfigure src tag p s) :=
  command_effect (sized_effect (configureChannel_effect ..).mono)

/-- A channel that is enabled takes no coverage away. -/
theorem setChannel_effect_enabled {i : Fin 16} {c : Channel} {s : State} (hc : c.cfg = (s.channel i).cfg) (he : c.enabled = true) :
    Effect [.chanCfg, .judged, .channels] [.tripDerived] s (s.setChannel i c) := by
  refine (setChannel_effect_lost i c s).regain .coverage fun hs hn => ?_
  obtain ⟨j, hj⟩ := hs hn
  refine ⟨j, ?_⟩
  by_cases e : j = i
  · subst e
    rw [State.channel_setChannel]
    simp only [uncoveredVoter, Bool.and_eq_true, hc, he] at hj ⊢
    exact ⟨⟨⟨hj.1.1.1, trivial⟩, hj.1.2⟩, hj.2⟩
  · rwa [State.channel_setChannel_of_ne s i j c e]

theorem enableChannel_effect (i : Fin 16) (s : State) : Effect (.chanCfg :: gauging) [] s (enableChannel i s).1 := by
  have h (c : Channel) (hc : c.cfg = (s.channel i).cfg) (he : c.enabled = true) :
      Effect (.chanCfg :: gauging) [] s (commitChannel i c s) := handOn_regains (setChannel_effect_enabled hc he)
  unfold enableChannel
  simp only
  split
  · exact .refl s
  split
  · exact .refl s
  · dsimp only
    exact h { s.channel i with enabled := true, report := 0, silence := if i = mobile then 0 else (s.channel i).silence } rfl rfl

theorem disableChannel_effect (i : Fin 16) (s : State) : Effect configuring [] s (disableChannel i s).1 := by
  unfold disableChannel
  simp only
  split
  · exact .refl s
  split
  · exact .refl s
  split
  · exact .refl s
  next hcov =>
    dsimp only
    exact commitDropped_effect (by simpa using hcov)

theorem doChannelEnable_effect (src : Source) (tag : Byte) (p : Bytes) (s : State) :
    Effect (.slots :: .chanCfg :: gauging) [] s (doChannelEnable src tag p s) := by
  refine command_effect (sized_effect ?_)
  split
  · exact (enableChannel_effect ..).mono
  · exact .refl s

theorem doChannelDisable_effect (src : Source) (tag : Byte) (p : Bytes) (s : State) :
    Effect (.slots :: configuring) [] s (doChannelDisable src tag p s) := by
  refine command_effect (sized_effect ?_)
  split
  · exact (disableChannel_effect ..).mono
  · exact .refl s

theorem doChannelRead_effect (src : Source) (tag : Byte) (p : Bytes) (s : State) :
    Effect (.channels :: answering) [] s (doChannelRead src tag p s) := by
  have hset (i : Fin 16) : Effect [.channels] [] s (s.setChannel i { s.channel i with skipped := false }) :=
    setChannel_effect_of_judged rfl rfl rfl rfl
  refine command_effect (paged_effect fun page => ?_)
  split
  · simp only
    split
    · exact (hset _).mono
    · exact .refl s
  · exact .refl s

/-! ## The section alarm and the refuges (R105, R106, R111, R113, R114, R118) -/

/-- What a change of the manual ALERT moves. -/
abbrev raising : List Part := .holders :: alarming

theorem setHolder_effect (src : Source) (b : Bool) (s : State) : Effect raising [] s (setHolder src b s) := by
  unfold setHolder
  split
  · exact sauRecompute_regains (ps := [.holders]) .of_parts
  · exact .refl s

theorem clearHolders_effect (s : State) : Effect raising [] s (sauRecompute (s.updSau fun a => { a with holders := ⟨false, false⟩ })) :=
  sauRecompute_regains (ps := [.holders]) .of_parts

theorem doAlarmRaiseAlert_effect (src : Source) (tag : Byte) (s : State) :
    Effect (.slots :: raising) [] s (doAlarmRaiseAlert src tag s) :=
  command_effect (setHolder_effect ..).mono

theorem doAlarmRaiseEvacuate_effect (src : Source) (tag : Byte) (s : State) :
    Effect (.slots :: alarming) [] s (doAlarmRaiseEvacuate src tag s) :=
  command_effect (setLatch_effect s).mono

theorem doEvacuate_effect (src : Source) (tag : Byte) (p : Bytes) (s : State) :
    Effect (.slots :: alarming) [] s (doEvacuate src tag p s) :=
  command_effect (sized_effect (setLatch_effect s).mono)

theorem doAlertClearOwn_effect (src : Source) (tag : Byte) (s : State) :
    Effect (.slots :: raising) [] s (doAlertClearOwn src tag s) :=
  command_effect (setHolder_effect ..).mono

theorem doAlertClearBoth_effect (src : Source) (tag : Byte) (s : State) :
    Effect (.slots :: raising) [] s (doAlertClearBoth src tag s) :=
  command_effect (clearHolders_effect s).mono

/-- What the all-clear moves. -/
abbrev clearing : List Part := .epoch :: .remote :: alarming

theorem allClear_effect (s : State) : Effect clearing [] s (allClear s) := by
  have hset (t : State) : Effect [.epoch, .remote] [.levelDerived] t ((t.updTb fun b => { b with epoch := (b.epoch + 1) % 256 }).updCs
      fun c => { c with remote := ⟨⟨.normal, 0⟩, ⟨.normal, 0⟩⟩ }) := .of_parts
  unfold allClear
  exact ((hset s).mono.trans ((latchDerive_effect (fun a => a.causes.gasEvacuate) _).mono)).regain .levelDerived
    fun _ => latchDerive_derived (fun a => a.causes.gasEvacuate) _

theorem doAllClear_effect (src : Source) (tag : Byte) (p : Bytes) (s : State) :
    Effect (.slots :: clearing) [] s (doAllClear src tag p s) :=
  command_effect (sized_effect (allClear_effect s).mono)

theorem setAnnounce_effect (n : Nat) (s : State) : Effect [.outputs] [] s (s.updSau fun a => { a with announce := n }) := .of_parts

theorem doSounderSilence_effect (src : Source) (tag : Byte) (p : Bytes) (s : State) :
    Effect (.outputs :: answering) [] s (doSounderSilence src tag p s) := by
  refine command_effect (sized_effect ?_)
  split
  · exact (setAnnounce_effect 0 s).mono
  · exact .refl s

/-- What a command on a refuge record moves. -/
abbrev settling : List Part := .refugeHeads :: .buses :: attending

theorem configureRefuge_effect (r : Fin 4) (head : Option (Bus × Nat)) (s : State) :
    Effect settling [] s (configureRefuge r head s) := by
  have hset (x : Refuge) := (setRefuge_effect r x s).mono (rs := settling) (out := [.alarmDerived])
  have hdrop (t : State) := (dropPolls_effect (.refuge r) t).mono (rs := settling) (out := [.alarmDerived])
  have hrep (x : Refuge) (t : State) := (reportRefuge_effect r x t).mono (rs := settling) (out := [.alarmDerived])
  unfold configureRefuge
  exact sauRecompute_regains (((hset _).trans (hdrop _)).trans (hrep _ _))

theorem doRefugeConfigure_effect (src : Source) (tag : Byte) (p : Bytes) (s : State) :
    Effect (.slots :: settling) [] s (doRefugeConfigure src tag p s) := by
  refine command_effect (sized_effect ?_)
  split
  · exact (configureRefuge_effect ..).mono
  · exact .refl s

theorem ackRefuge_effect (r : Fin 4) (s : State) : Effect (.called :: .refuges :: alarming) [] s (ackRefuge r s).1 := by
  have hset : Effect (.called :: .refuges :: alarming) [] s (sauRecompute (s.setRefuge r { s.refuge r with called := false })) :=
    sauRecompute_regains (setRefuge_effect_of_head rfl)
  unfold ackRefuge
  simp only
  split
  · exact .refl s
  split
  · exact .refl s
  · exact hset.trans ((postRefuge_effect ..).mono.trans (sendRefugeReport_effect ..).mono)

theorem doRefugeAck_effect (src : Source) (tag : Byte) (p : Bytes) (s : State) :
    Effect (.slots :: .called :: .refuges :: alarming) [] s (doRefugeAck src tag p s) := by
  refine command_effect (sized_effect ?_)
  split
  · exact (ackRefuge_effect ..).mono
  · exact .refl s

/-! ## Calls (R124 to R141) -/

theorem doCallOpen_effect (src : Source) (tag : Byte) (p : Bytes) (s : State) :
    Effect (.slots :: calling) [] s (doCallOpen src tag p s) :=
  command_effect (sized_effect (openCall_effect ..).mono)

theorem doCallAnswer_effect (src : Source) (tag : Byte) (p : Bytes) (s : State) :
    Effect (.slots :: calling) [] s (doCallAnswer src tag p s) := by
  refine command_effect (sized_effect ?_)
  split
  · split
    next h => exact (answerCall_effect (isSome_of_ringing h)).mono
    · exact .refl s
  · exact .refl s

theorem doCallReject_effect (src : Source) (tag : Byte) (p : Bytes) (s : State) :
    Effect (.slots :: calling) [] s (doCallReject src tag p s) := by
  refine command_effect (sized_effect ?_)
  split
  · split
    · exact (clearOwn_effect ..).mono
    · exact .refl s
  · exact .refl s

theorem doCallClear_effect (src : Source) (tag : Byte) (p : Bytes) (s : State) :
    Effect (.slots :: calling) [] s (doCallClear src tag p s) := by
  refine command_effect (sized_effect ?_)
  split
  · split
    · exact .refl s
    · split
      · exact .refl s
      · exact (clearOwn_effect ..).mono
  · exact .refl s

theorem doCallRead_effect (src : Source) (tag : Byte) (p : Bytes) (s : State) : Effect answering [] s (doCallRead src tag p s) := by
  refine command_effect (paged_effect fun page => ?_)
  split
  · exact .refl s
  · exact .refl s

theorem doVoicePut_effect (src : Source) (tag : Byte) (p : Bytes) (s : State) :
    Effect (.slots :: calling) [] s (doVoicePut src tag p s) := by
  refine command_effect (sized_effect ?_)
  split
  · split
    next e h => exact (setCall_like_effect (f := { e with tx := some (p.drop 1) }) (call_of_voiceEntry h) (.of_sides rfl rfl rfl rfl rfl)).mono
    · exact .refl s
  · exact .refl s

theorem doVoiceTake_effect (src : Source) (tag : Byte) (p : Bytes) (s : State) :
    Effect (.slots :: calling) [] s (doVoiceTake src tag p s) := by
  refine command_effect (sized_effect ?_)
  split
  · split
    next e h => exact (setCall_like_effect (f := { e with rx := none }) (call_of_voiceEntry h) (.of_sides rfl rfl rfl rfl rfl)).mono
    · exact .refl s
  · exact .refl s

theorem doCallBudgetSet_effect (src : Source) (tag : Byte) (p : Bytes) (s : State) :
    Effect (.budget :: .slots :: calling) [] s (doCallBudgetSet src tag p s) :=
  command_effect (sized_effect (shedBudget_effect ..).mono)

/-! ## Trip, supervision, override, supply (R85 to R100) -/

theorem doTripManual_effect (src : Source) (tag : Byte) (p : Bytes) (s : State) :
    Effect (.slots :: tripping) [] s (doTripManual src tag p s) :=
  command_effect (sized_effect (tripManual_effect s).mono)

theorem doTripReset_effect (src : Source) (tag : Byte) (p : Bytes) (s : State) :
    Effect (.slots :: tripping) [] s (doTripReset src tag p s) := by
  refine command_effect (sized_effect ?_)
  split
  · exact .refl s
  split
  · exact .refl s
  next h => exact (tripReset_effect (by simpa using h)).mono

theorem doSuperviseStart_effect (src : Source) (tag : Byte) (p : Bytes) (s : State) :
    Effect (.sup :: answering) [] s (doSuperviseStart src tag p s) := by
  have hset (n : Nat) : Effect [.sup] [] s (s.updTu fun u => { u with sup :=
      if u.sup.state = .off then { state := .running, period := some n, count := n } else { u.sup with period := some n } }) := by
    refine setSup_effect_of_iff (x := if s.tu.sup.state = .off then { state := .running, period := some n, count := n }
      else { s.tu.sup with period := some n }) ?_
    split
    next h => simp [h]
    next => exact Iff.rfl
  exact command_effect (sized_effect (hset _).mono)

theorem doSuperviseRefresh_effect (src : Source) (tag : Byte) (p : Bytes) (s : State) :
    Effect (.slots :: .sup :: supervising) [] s (doSuperviseRefresh src tag p s) := by
  refine command_effect (sized_effect ?_)
  split
  · exact .refl s
  · exact (refresh_effect s).mono

theorem doOverrideRequest_effect (src : Source) (tag : Byte) (p : Bytes) (s : State) :
    Effect (.ovr :: answering) [] s (doOverrideRequest src tag p s) := by
  refine command_effect (sized_effect ?_)
  simp only
  split
  · exact .refl s
  split
  · exact .refl s
  next hn =>
    split
    · exact .refl s
    split
    · exact .refl s
    next hu => exact (requestOverride_effect (by simpa using hn) (by simpa using hu)).mono

theorem doOverrideConfirm_effect (src : Source) (tag : Byte) (p : Bytes) (s : State) :
    Effect (.slots :: alarming) [] s (doOverrideConfirm src tag p s) := by
  refine command_effect (sized_effect ?_)
  split
  · exact .refl s
  next hp =>
    split
    · exact .refl s
    · exact (confirmOverride_effect (by simpa using hp)).mono

theorem doOverrideCancel_effect (src : Source) (tag : Byte) (p : Bytes) (s : State) :
    Effect (.slots :: alarming) [] s (doOverrideCancel src tag p s) := by
  refine command_effect (sized_effect ?_)
  split
  · exact .refl s
  · exact (endOverride_effect ..).mono

theorem configureSupply_effect (p : Bytes) (s : State) :
    Effect [.supply, .supplyConf] [] s (s.updTu fun u => { u with supply := u.supply.configure p }) := .of_parts

theorem doSupplyConfigure_effect (src : Source) (tag : Byte) (p : Bytes) (s : State) :
    Effect (.supply :: .supplyConf :: answering) [] s (doSupplyConfigure src tag p s) :=
  command_effect (sized_effect (configureSupply_effect p s).mono)

/-! ## The Port Interface (R167, R175 to R179) -/

theorem readResponse_effect (p : Port) (s : State) : Effect [.notices, .portConf, .slots] [] s (readResponse p s) := by
  refine updPort_effect ?_ s
  exact fun _ => List.Sublist.refl _

theorem portCommand_effect {ps : List Part} {src : Source} {tag : Byte} {params : Bytes} {body : Port → Body} {s : State}
    (hb : ∀ p, Effect ps [] s (body p s).1) (hp : answering ⊆ ps := by decide) :
    Effect ps [] s (portCommand src tag params body s) := by
  unfold portCommand
  split
  · exact command_effect (hb _) hp
  · exact command_effect (.refl s) hp

/-- What a setting of the notices of a port moves. -/
abbrev noticing : List Part := .portConf :: answering

/-- A setting that leaves a port's queue as it is. -/
theorem configPort_effect {p : Port} {f : PortState → PortState} {s : State} (hf : ∀ ps, (f ps).queue = ps.queue) :
    Effect noticing [] s (s.updPort p f) :=
  (updPort_effect (fun ps => (hf ps).symm ▸ List.Sublist.refl _) s).mono

theorem doNoticeEnableSet_effect (src : Source) (tag : Byte) (p : Bytes) (s : State) :
    Effect noticing [] s (doNoticeEnableSet src tag p s) := by
  refine portCommand_effect fun q => sized_effect ?_
  split
  · exact .refl s
  · dsimp only
    refine configPort_effect ?_
    exact fun _ => rfl

theorem doNoticeEnableClear_effect (src : Source) (tag : Byte) (p : Bytes) (s : State) :
    Effect noticing [] s (doNoticeEnableClear src tag p s) := by
  refine portCommand_effect fun q => sized_effect ?_
  split
  · exact .refl s
  · dsimp only
    refine configPort_effect ?_
    exact fun _ => rfl

theorem doNoticeGroupSet_effect (src : Source) (tag : Byte) (p : Bytes) (s : State) :
    Effect noticing [] s (doNoticeGroupSet src tag p s) := by
  refine portCommand_effect fun q => sized_effect ?_
  simp only
  split
  · exact .refl s
  · dsimp only
    refine configPort_effect ?_
    exact fun _ => rfl

theorem doNoticeTake_effect (src : Source) (tag : Byte) (p : Bytes) (s : State) :
    Effect noticing [] s (doNoticeTake src tag p s) := by
  refine portCommand_effect fun q => sized_effect ?_
  split
  next n _ => exact (updPort_effect (f := fun ps => { ps with queue := ps.queue.erase n }) (fun _ => List.erase_sublist) s).mono
  · exact .refl s

theorem clearStatus_effect (p : Port) (s : State) : Effect (.resetCause :: noticing) [] s (clearStatus p s) := by
  have hcause (t : State) : Effect [.resetCause] [] t (t.updPi fun u => { u with powerOn := false, external := false }) := .of_parts
  have hport : Effect noticing [] s (s.updPort p fun ps => { ps with responseLost := false, noticeOverflow := false }) :=
    configPort_effect fun _ => rfl
  exact hport.mono.trans (hcause _).mono

theorem doStatusRead_effect (src : Source) (tag : Byte) (page : Nat) (s : State) :
    Effect answering [] s (doStatusRead src tag page s) := command_effect (.refl s)

theorem doStatusReadClear_effect (src : Source) (tag : Byte) (page : Nat) (s : State) :
    Effect (.resetCause :: noticing) [] s (doStatusReadClear src tag page s) := by
  refine portCommand_effect fun q => ?_
  simp only
  split
  · exact clearStatus_effect ..
  · exact .refl s

theorem doIdentRead_effect (src : Source) (tag : Byte) (p : Bytes) (s : State) : Effect answering [] s (doIdentRead src tag p s) :=
  command_effect (sized_effect (.refl s))

/-! ## Vehicles (R154, R156, R162, R164) -/

theorem doVehicleOrder_effect (stop : Bool) (src : Source) (tag : Byte) (id : Nat) (s : State) :
    Effect (.slots :: driving) [] s (command src tag [] (cpSurface src) (orderVehicle id stop) s) :=
  command_effect (orderVehicle_effect ..).mono

theorem doBlockConfigure_effect (src : Source) (tag : Byte) (p : Bytes) (s : State) :
    Effect (.slots :: .roadCfg :: driving) [] s (doBlockConfigure src tag p s) := by
  refine command_effect (sized_effect ?_)
  split
  · exact .refl s
  next h =>
    split
    · exact .refl s
    · dsimp only
      exact (configureBlock_effect (convoy_of_blockConfigOf h) s).mono

theorem doVehicleRead_effect (src : Source) (tag : Byte) (p : Bytes) (s : State) : Effect answering [] s (doVehicleRead src tag p s) := by
  refine command_effect (paged_effect fun page => ?_)
  split
  · exact .refl s
  · exact .refl s

theorem doBlockRead_effect (src : Source) (tag : Byte) (p : Bytes) (s : State) : Effect answering [] s (doBlockRead src tag p s) :=
  command_effect (paged_effect fun _ => .refl s)

theorem doBlockForceClear_effect (src : Source) (tag : Byte) (p : Bytes) (s : State) :
    Effect (.slots :: driving) [] s (doBlockForceClear src tag p s) := by
  refine command_effect (sized_effect ?_)
  dsimp only
  exact (forceClear_effect s).mono

end Sys2Proof.Machine
end

section
/-! PROOFS. Records, received cells, the radio and the timed events; then every command, what it may touch and that it keeps every
invariant, and with it the step. -/

namespace Sys2Proof.Machine

-- Declarations are elaborated one after another: in a text of this length the threads of many at once would not fit the memory limit.
set_option Elab.async false

/-- Every part but the queue of waiting commands. -/
abbrev anything : List Part :=
  [.node, .clock, .trunk, .epoch, .tripStamp, .refugeStamps, .cells, .inds, .line, .flow, .flowConf, .remote, .csMode, .sent,
   .buses, .told, .channels, .judged, .chanCfg, .nodeMethane, .gcuMode, .trip, .sup, .ovr, .supply, .supplyMode, .supplyConf,
   .causes, .latch, .level, .inputs, .holders, .covered, .called, .refuges, .refugeHeads, .outputs, .alarmTold,
   .calls, .budget, .ctuMode, .ctuLevel, .vehicles, .tableFull, .vuLevel, .vuMethane, .radio, .roadCfg, .road,
   .notices, .portConf, .slots, .resetCause]

theorem subset_anything {ps : List Part} (h : Part.pending ∉ ps) : ps ⊆ anything := by
  intro p hp
  have hall : ∀ q : Part, q ≠ .pending → q ∈ anything := by intro q hq; cases q <;> first | decide | exact absurd rfl hq
  exact hall p fun e => h (e ▸ hp)

/-- An effect on parts that need not be told apart. -/
theorem Effect.widen {ps : List Part} {s t : State} (h : Effect ps [] s t) (hp : Part.pending ∉ ps := by decide) :
    Effect anything [] s t := h.mono (subset_anything hp) (List.Subset.refl _)

/-! ## Records (R166 to R170) -/

theorem badForm_effect (src : Source) (tag : Byte) (right : Bool) (s : State) : Effect answering [] s (badForm src tag right s) :=
  respond_effect ..

theorem runAlarmRaise_effect (src : Source) (tag : Byte) (p : Bytes) (s : State) :
    Effect (.slots :: raising) [] s (runAlarmRaise src tag p s) := by
  unfold runAlarmRaise
  simp only
  split
  · exact (respond_effect ..).mono
  split
  · exact (badForm_effect ..).mono
  split
  · exact doAlarmRaiseAlert_effect ..
  · exact (doAlarmRaiseEvacuate_effect ..).mono

theorem runAlertClear_effect (src : Source) (tag : Byte) (p : Bytes) (s : State) :
    Effect (.slots :: raising) [] s (runAlertClear src tag p s) := by
  unfold runAlertClear
  split
  · exact (badForm_effect ..).mono
  split
  · exact doAlertClearOwn_effect ..
  · exact doAlertClearBoth_effect ..

theorem runVehicleOrder_effect (src : Source) (tag : Byte) (p : Bytes) (s : State) :
    Effect (.slots :: driving) [] s (runVehicleOrder src tag p s) := by
  unfold runVehicleOrder
  split
  · exact (badForm_effect ..).mono
  split
  · exact doVehicleOrder_effect ..
  · exact doVehicleOrder_effect ..

theorem runStatusRead_effect (src : Source) (tag : Byte) (p : Bytes) (s : State) :
    Effect (.resetCause :: noticing) [] s (runStatusRead src tag p s) := by
  unfold runStatusRead
  simp only
  split
  · exact (respond_effect ..).mono
  split
  · exact (badForm_effect ..).mono
  split
  · exact (doStatusRead_effect ..).mono
  · exact doStatusReadClear_effect ..

theorem runCode_effect (src : Source) (tag : Byte) (code : Nat) (p : Bytes) (s : State) :
    Effect anything [] s (runCode src tag code p s) := by
  unfold runCode
  split
  · exact (doTrunkConfigure_effect ..).widen
  · exact (trunkCommand_effect ..).widen
  · exact (trunkCommand_effect ..).widen
  · exact (trunkCommand_effect ..).widen
  · exact (doFilterSet_effect ..).widen
  · exact (doHoldConfigure_effect ..).widen
  · exact (doCellTake_effect ..).widen
  · exact (doLineStatusRead_effect ..).widen
  · exact (doMessageSend_effect ..).widen
  · exact (doBusRelease_effect ..).widen
  · exact (doChannelConfigure_effect ..).widen
  · exact (doChannelEnable_effect ..).widen
  · exact (doChannelDisable_effect ..).widen
  · exact (doChannelRead_effect ..).widen
  · exact (doTripManual_effect ..).widen
  · exact (doTripReset_effect ..).widen
  · exact (doSuperviseStart_effect ..).widen
  · exact (doSuperviseRefresh_effect ..).widen
  · exact (doOverrideRequest_effect ..).widen
  · exact (doOverrideConfirm_effect ..).widen
  · exact (doOverrideCancel_effect ..).widen
  · exact (doSupplyConfigure_effect ..).widen
  · exact (runAlarmRaise_effect ..).widen
  · exact (doEvacuate_effect ..).widen
  · exact (runAlertClear_effect ..).widen
  · exact (doAllClear_effect ..).widen
  · exact (doSounderSilence_effect ..).widen
  · exact (doRefugeConfigure_effect ..).widen
  · exact (doRefugeAck_effect ..).widen
  · exact (doCallOpen_effect ..).widen
  · exact (doCallAnswer_effect ..).widen
  · exact (doCallReject_effect ..).widen
  · exact (doCallClear_effect ..).widen
  · exact (doCallRead_effect ..).widen
  · exact (doVoicePut_effect ..).widen
  · exact (doVoiceTake_effect ..).widen
  · exact (doCallBudgetSet_effect ..).widen
  · exact (runVehicleOrder_effect ..).widen
  · exact (doVehicleRead_effect ..).widen
  · exact (doBlockConfigure_effect ..).widen
  · exact (doBlockRead_effect ..).widen
  · exact (doBlockForceClear_effect ..).widen
  · exact (doNoticeEnableSet_effect ..).widen
  · exact (doNoticeEnableClear_effect ..).widen
  · exact (doNoticeGroupSet_effect ..).widen
  · exact (doNoticeTake_effect ..).widen
  · exact (runStatusRead_effect ..).widen
  · exact (doIdentRead_effect ..).widen
  · exact (respond_effect ..).widen

theorem runSurface_effect (r : Bytes) (s : State) : Effect anything [] s (runSurface r s) := by
  unfold runSurface
  split
  · exact (respond_effect ..).widen
  split
  · exact (respond_effect ..).widen
  · exact runCode_effect ..

theorem sendCommand_effect (target : Nat) (r : Bytes) (s : State) : Effect anything [] s (sendCommand target r s) := by
  unfold sendCommand
  split
  · exact runSurface_effect ..
  split
  · exact .refl s
  · exact (sendTo_effect ..).widen

theorem remoteBody_effect (p : Bytes) (s : State) : Effect anything [] s (remoteBody p s).1 := by
  unfold remoteBody
  simp only
  split
  · exact .refl s
  split
  · exact .refl s
  · exact sendCommand_effect ..

theorem doRemote_effect (src : Source) (tag : Byte) (p : Bytes) (s : State) : Effect anything [] s (doRemote src tag p s) :=
  command_effect (remoteBody_effect p s)

theorem runRecord_effect (src : Source) (r : Bytes) (s : State) : Effect anything [] s (runRecord src r s) := by
  unfold runRecord
  split
  · exact (respond_effect ..).widen
  split
  · exact doRemote_effect ..
  · exact runCode_effect ..

/-! ## Cells (R26 to R30, R36) -/

theorem consume_effect (l : Line) (c : Cell) (s : State) : Effect anything [] s (consume l c s) := by
  unfold consume
  split
  · exact (callSetup_effect ..).widen
  · exact (callAlerting_effect ..).widen
  · exact (callConnect_effect ..).widen
  · exact (callRefused_effect ..).widen
  · exact (callCleared_effect ..).widen
  · exact (blockRequest_effect ..).widen
  · exact (blockGrant_effect ..).widen
  · exact (blockExit_effect ..).widen
  · exact runSurface_effect ..
  · exact (deliver_effect ..).widen

theorem relayCell_effect (l : Line) (c : Cell) (s : State) : Effect telling [] s (relayCell l c s) := by
  unfold relayCell
  split
  · exact latchInd_effect ..
  · exact joinQueue_effect ..

theorem dispose_effect (l : Line) (c : Cell) (s : State) : Effect anything [] s (dispose l c s) := by
  unfold dispose
  split
  · exact (callCell_effect ..).widen
  split
  · exact consume_effect ..
  split
  · exact .refl s
  split
  · exact (addFiltered_effect ..).widen
  · exact (relayCell_effect ..).widen

theorem receiveCell_effect (l : Line) (raw : Bytes) (s : State) : Effect anything [] s (receiveCell l raw s) := by
  unfold receiveCell
  simp only
  split
  · exact .refl s
  split
  · exact (badCell_effect ..).widen
  split
  · exact (markGood_effect ..).widen
  split
  · exact (markGood_effect ..).widen.trans (addFiltered_effect ..).widen
  · exact (markGood_effect ..).widen.trans (dispose_effect ..)

theorem loseCarrier_effect (l : Line) (s : State) : Effect (.line :: telling) [] s (loseCarrier l s) :=
  (updStatus_effect ..).mono.trans (latchInd_effect ..).mono

/-! ## The radio (R144 to R149) -/

theorem updRadio_effect (f : Radio → Radio) (s : State) : Effect [.radio] [] s (s.updRadio f) := .of_parts

theorem syncByte_effect (s : State) : Effect [.radio] [] s (syncByte s) := by
  unfold syncByte
  split
  · exact .refl s
  · exact updRadio_effect ..

theorem sendOrder_effect (s : State) : Effect [.radio] [] s (sendOrder s) := by
  unfold sendOrder
  split
  · exact .refl s
  · exact updRadio_effect ..

/-- What a beacon moves. -/
abbrev beaconing : List Part := .radio :: .tableFull :: gauging

theorem appearance_effect (id : Nat) (l : Line) (s : State) : Effect driving [] s (appearance id l s) := by
  unfold appearance
  split
  · split
    · exact .refl s
    · exact (sendAdjacent_effect ..).mono
  · split
    · exact vehicleExit_effect ..
    · exact .refl s

theorem firstHeading_effect (i : Fin 16) (s : State) : Effect driving [] s (firstHeading i s) := by
  unfold firstHeading
  split
  · split
    · exact Effect.trans setRole_effect (appearance_effect ..)
    · exact .refl s
  · exact .refl s

theorem releaseInbye_effect (i : Fin 16) (s : State) : Effect driving [] s (releaseInbye i s) := by
  unfold releaseInbye
  split
  · split
    · exact releaseRequest_effect ..
    · exact .refl s
  · exact .refl s

theorem handMethane_effect (m : Option Nat) (s : State) : Effect gauging [] s (handMethane m s) := by
  unfold handMethane
  split
  · exact mobileReading_effect ..
  · exact .refl s

theorem answerBeacon_effect (id : Nat) (o : Order) (s : State) : Effect [.radio] [] s (answerBeacon id o s) := updRadio_effect ..

/-- R149 steps 6 and 7, after the derivation. -/
theorem answerOwn_effect (i : Fin 16) (b : Beacon) (s : State) : Effect beaconing [] s
    (match (modVehicle i (fun v => { v with echoOk := b.echo == v.order.code }) s).vehicle i with
      | some v => answerBeacon b.id v.order (modVehicle i (fun v => { v with echoOk := b.echo == v.order.code }) s)
      | none => modVehicle i (fun v => { v with echoOk := b.echo == v.order.code }) s) := by
  have hecho : Effect driving [] s (modVehicle i (fun v => { v with echoOk := b.echo == v.order.code }) s) := setRole_effect
  split
  · exact hecho.mono.trans (answerBeacon_effect ..).mono
  · exact hecho.mono

theorem concludeBeacon_effect (i : Fin 16) (b : Beacon) (s : State) : Effect beaconing [] s (concludeBeacon i b s) :=
  (deriveOwn_effect i s).mono.trans (answerOwn_effect i b _)

/-- R149: whatever the beacon's entry held, it is left with an order it may carry. -/
theorem concludeBeacon_entry (i : Fin 16) (b : Beacon) (s : State) : DieselEntry i (concludeBeacon i b s) :=
  (answerOwn_effect i b _).keeps (.diesel i) (by simp) (deriveOwn_entry i s)

theorem knownBeacon_effect (i : Fin 16) (b : Beacon) (s : State) : Effect beaconing [] s (knownBeacon i b s) := by
  have hset (f : Vehicle → Vehicle) : Effect beaconing [.diesel i] s (modVehicle i f s) :=
    (modVehicle_effect_lost i f s).mono (by decide) (List.Subset.refl _)
  have hrest (t : State) : Effect beaconing [] t (concludeBeacon i b (handMethane b.methane (releaseInbye i (firstHeading i t)))) :=
    (((firstHeading_effect i t).mono.trans (releaseInbye_effect i _).mono).trans (handMethane_effect ..).mono).trans
      (concludeBeacon_effect ..)
  unfold knownBeacon
  exact ((hset _).trans ((hrest _).mono (List.Subset.refl _) (List.nil_subset _))).regain (.diesel i) fun _ => concludeBeacon_entry _ _ _

theorem setNewVehicle_effect (i : Fin 16) (b : Beacon) (s : State) :
    Effect [.vehicles] [] s (s.setVehicle i (some (newVehicle b s))) := by
  refine setVehicle_effect fun v hv => ?_
  obtain rfl := Option.some.inj hv
  intro _
  exact ⟨fun _ => ⟨by simp [newVehicle], by simp [newVehicle]⟩, fun _ _ => by simp [newVehicle]⟩

theorem arrival_effect (i : Fin 16) (b : Beacon) (s : State) : Effect beaconing [] s (arrival i b s) := by
  have hcome : Effect beaconing [] s
      (concludeBeacon i b (handMethane b.methane (firstHeading i (s.setVehicle i (some (newVehicle b s)))))) :=
    (((setNewVehicle_effect i b s).mono.trans (firstHeading_effect ..).mono).trans (handMethane_effect ..).mono).trans
      (concludeBeacon_effect ..)
  unfold arrival
  simp only
  split
  · exact hcome.trans (reportVehicle_effect ..).mono
  · exact hcome

theorem tableFullBeacon_effect (b : Beacon) (s : State) : Effect beaconing [] s (tableFullBeacon b s) := by
  have hanswer : Effect beaconing [] s (handMethane b.methane (answerBeacon b.id .wait s)) :=
    (answerBeacon_effect ..).mono.trans (handMethane_effect ..).mono
  unfold tableFullBeacon
  simp only
  split
  · exact hanswer
  · exact (hanswer.trans (setTableFull_effect ..).mono).trans (postBoth_effect ..).mono

theorem takeBeacon_effect (b : Beacon) (s : State) : Effect beaconing [] s (takeBeacon b s) := by
  have hcount : Effect beaconing [] s
      (s.updRadio fun r => { r with inFrame := false, frameAge := 0, beacons := satSucc 65535 r.beacons }) := (updRadio_effect ..).mono
  unfold takeBeacon
  simp only
  split
  · exact hcount.trans (knownBeacon_effect ..)
  · split
    · exact hcount.trans (arrival_effect ..)
    · exact hcount.trans (tableFullBeacon_effect ..)

theorem radioFrame_effect (f : Bytes) (s : State) : Effect beaconing [] s (radioFrame f s) := by
  unfold radioFrame
  split
  · exact (updRadio_effect ..).mono
  · exact takeBeacon_effect ..

/-! ## Timed events -/

/-- A row that acts only when it is due. -/
theorem due_effect {ps : List Part} {b : Bool} {s t : State} (h : Effect ps [] s t) : Effect ps [] s (if b = true then t else s) := by
  split
  · exact h
  · exact .refl s

theorem listenTimeout_effect (s : State) : Effect switching [] s (listenTimeout s) :=
  due_effect (trunkStep_effect (trunkStep_of_retimed fun _ => rfl) s)

theorem holdoverLimit_effect (s : State) : Effect switching [] s (holdoverLimit s) :=
  due_effect (trunkStep_effect (trunkStep_of_retimed fun _ => rfl) s)

theorem candidateDrop_effect (s : State) : Effect [.clock, .trunk] [] s (candidateDrop s) := due_effect (setCandidate_step none s)

theorem rejoinRunLapse_effect (s : State) : Effect [.clock, .trunk] [] s (rejoinRunLapse s) := due_effect (setRejoin_step noRun s)

theorem trunkCommandApply_effect (s : State) : Effect switching [] s (trunkCommandApply s) := due_effect (finishTrunk_effect ..)

theorem heldCountExpiry_effect (l : Line) (s : State) : Effect [.flow] [] s (heldCountExpiry l s) := by
  unfold heldCountExpiry
  split
  · exact heldTick_effect l s
  · exact .refl s

theorem busFailed_effect (b : Bus) (s : State) : Effect (.buses :: completing) [] s (busFailed b s) := by
  unfold busFailed
  split
  next h =>
    simp only [Bool.and_eq_true, decide_eq_true_eq] at h
    exact failBus_effect h.1
  · exact .refl s

/-! ## Resets (R84, R178, 9.6) -/

/-- The blocks at their reset values meet every invariant but that of the trip, which the restart brings about. -/
theorem bootState_holds (role : Role) (straps : Nat) (p x : Bool) (pending : List Instr) {l : Law} (hl : l ≠ .tripHeld) :
    l.holds (bootState role straps p x pending) := by
  have hone : l.holds (bootState .junction 1 true false []) := by
    cases l with
    | tripHeld => exact absurd rfl hl
    | buses => exact ⟨⟨by decide, by decide, by decide, by decide⟩, ⟨by decide, by decide, by decide, by decide⟩⟩
    | coverage => exact fun h => absurd rfl h
    | calls => exact ⟨by decide, by decide, fun l => by cases l <;> decide, fun h => absurd h (by decide)⟩
    | refs =>
      intro i j e f hi
      have hnone : ∀ k : Fin 12, (bootState .junction 1 true false []).call k = none := by decide
      exact absurd (hi.symm.trans (hnone i)) (by simp)
    | levels => exact ⟨by decide, by decide⟩
    | modes => exact ⟨by decide, by decide, by decide, by decide, by decide, by decide⟩
    | methane => exact rfl
    | diesel i =>
      intro v hv
      have hnone : ∀ k : Fin 16, (bootState .junction 1 true false []).vehicle k = none := by decide
      exact absurd (hv.symm.trans (hnone i)) (by simp)
    | capacity =>
      exact ⟨by decide, by decide, by decide, by decide, by decide, by decide, fun k _ => ⟨by simp [bootState, PortState.boot],
        by simp [bootState, PortState.boot]⟩⟩
    | tripDerived => exact (by decide : (bootState .junction 1 true false []).tu.causes = computeCauses (bootState .junction 1 true false []))
    | alarmDerived => exact (by decide : (bootState .junction 1 true false []).sau.causes = localCausesOf (bootState .junction 1 true false []))
    | levelDerived => exact (by decide : (bootState .junction 1 true false []).sau.level = levelOf (bootState .junction 1 true false []))
  refine l.holds_congr (fun part hp => ?_) hone
  cases l <;> simp only [Law.parts, List.mem_cons, List.not_mem_nil, or_false] at hp <;>
    (obtain rfl | rfl | rfl | rfl | rfl | rfl := hp <;> rfl)

theorem restart_holds (role : Role) (straps : Nat) (p x : Bool) (pending : List Instr) (l : Law) :
    l.holds (restart (bootState role straps p x pending)) := by
  by_cases h : l = .tripHeld
  · subst h
    exact captureTrip_held ..
  · exact (captureTrip_effect ..).keeps l (by simp) (bootState_holds _ _ _ _ _ h)

end Sys2Proof.Machine
end

section
/-! PROOFS. Every command keeps every invariant, and so does every step: the statements on invariants settled. -/

namespace Sys2Proof.Machine

-- Declarations are elaborated one after another: in a text of this length the threads of many at once would not fit the memory limit.
set_option Elab.async false

/-- A command that is no reset touches no waiting command and keeps every invariant; a reset restarts from the reset values. -/
theorem exec_cases (i : Instr) (s : State) :
    (∃ t, exec i s = .next t ∧ Effect anything [] s t)
    ∨ ∃ role straps p x, exec i s = .next (restart (bootState role straps p x s.pending)) := by
  cases i with
  | powerOnReset role straps => exact .inr ⟨role, straps, _, _, rfl⟩
  | externalReset role straps => exact .inr ⟨role, straps, _, _, rfl⟩
  | roundStart => exact .inl ⟨_, rfl, (ownRound_effect ..).widen⟩
  | markerWindowClose => exact .inl ⟨_, rfl, (closeWindow_effect ..).widen⟩
  | listenTimeout => exact .inl ⟨_, rfl, (listenTimeout_effect ..).widen⟩
  | holdoverLimit => exact .inl ⟨_, rfl, (holdoverLimit_effect ..).widen⟩
  | candidateDrop => exact .inl ⟨_, rfl, (candidateDrop_effect ..).widen⟩
  | rejoinRunLapse => exact .inl ⟨_, rfl, (rejoinRunLapse_effect ..).widen⟩
  | trunkCommandApply => exact .inl ⟨_, rfl, (trunkCommandApply_effect ..).widen⟩
  | markerReceived => exact .inl ⟨_, rfl, (cellZeroOutbye_effect ..).widen⟩
  | uplinkReceived => exact .inl ⟨_, rfl, (cellZeroInbye_effect ..).widen⟩
  | cellReceived => exact .inl ⟨_, rfl, receiveCell_effect ..⟩
  | carrierLost => exact .inl ⟨_, rfl, (loseCarrier_effect ..).widen⟩
  | holdPeriodExpiry line => exact .inl ⟨_, rfl, (due_effect (examineQueue_effect line s)).widen⟩
  | heldCountExpiry => exact .inl ⟨_, rfl, (heldCountExpiry_effect ..).widen⟩
  | remoteLevelExpiry line => exact .inl ⟨_, rfl, (due_effect (remoteTick_effect line s)).widen⟩
  | transactionStart => exact .inl ⟨_, rfl, (startBus_effect ..).widen⟩
  | transactionComplete => exact .inl ⟨_, rfl, (completeTransaction_effect ..).widen⟩
  | holdTimeout => exact .inl ⟨_, rfl, (holdClock_effect ..).widen⟩
  | releaseSequence => exact .inl ⟨_, rfl, (sampleRelease_effect ..).widen⟩
  | busFailed => exact .inl ⟨_, rfl, (busFailed_effect ..).widen⟩
  | supplyModeChange mains battery => exact .inl ⟨_, rfl, (due_effect (supplySample_effect mains battery s)).widen⟩
  | supervisionLapse => exact .inl ⟨_, rfl, (due_effect (lapse_effect s)).widen⟩
  | overrideWindowExpiry => exact .inl ⟨_, rfl, (due_effect (overrideTick_effect s)).widen⟩
  | overrideDurationExpiry => exact .inl ⟨_, rfl, (due_effect (overrideTick_effect s)).widen⟩
  | mobileSilenceTimeout => exact .inl ⟨_, rfl, (due_effect (mobileTick_effect s)).widen⟩
  | readingReportDue ch => exact .inl ⟨_, rfl, (due_effect (reportTick_effect ch s)).widen⟩
  | announcementEnd => exact .inl ⟨_, rfl, (due_effect (setAnnounce_effect 0 s)).widen⟩
  | refugePeriodicReport r => exact .inl ⟨_, rfl, (due_effect (refugeReportTick_effect r s)).widen⟩
  | callStateTimeout e => exact .inl ⟨_, rfl, (due_effect (stateTimerTick_effect e s)).widen⟩
  | callLossTimeout e => exact .inl ⟨_, rfl, (due_effect (silenceTick_effect e s)).widen⟩
  | callSetupReceived => exact .inl ⟨_, rfl, (callSetup_effect ..).widen⟩
  | callAlertingReceived => exact .inl ⟨_, rfl, (callAlerting_effect ..).widen⟩
  | callConnectReceived => exact .inl ⟨_, rfl, (callConnect_effect ..).widen⟩
  | callRefusedReceived => exact .inl ⟨_, rfl, (callRefused_effect ..).widen⟩
  | callClearReceived => exact .inl ⟨_, rfl, (callCleared_effect ..).widen⟩
  | callCellReceived => exact .inl ⟨_, rfl, (callCell_effect ..).widen⟩
  | blockRequestReceived => exact .inl ⟨_, rfl, (blockRequest_effect ..).widen⟩
  | blockGrantReceived => exact .inl ⟨_, rfl, (blockGrant_effect ..).widen⟩
  | blockExitReceived => exact .inl ⟨_, rfl, (blockExit_effect ..).widen⟩
  | commandReceived => exact .inl ⟨_, rfl, runSurface_effect ..⟩
  | radioFrameDiscard => exact .inl ⟨_, rfl, (radioFrame_effect ..).widen⟩
  | radioTimeout => exact .inl ⟨_, rfl, (due_effect (updRadio_effect (Radio.discard .timeout) s)).widen⟩
  | beacon => exact .inl ⟨_, rfl, (radioFrame_effect ..).widen⟩
  | orderFrameSend => exact .inl ⟨_, rfl, (sendOrder_effect ..).widen⟩
  | vehicleDeparture v => exact .inl ⟨_, rfl, (due_effect (unheardTick_effect v s)).widen⟩
  | blockRequestResend v => exact .inl ⟨_, rfl, (due_effect (resendTick_effect v s)).widen⟩
  | memberOverdue id => exact .inl ⟨_, rfl, (due_effect (memberTick_effect id s)).widen⟩
  | responseRead => exact .inl ⟨_, rfl, (readResponse_effect ..).widen⟩
  | unknownCommand => exact .inl ⟨_, rfl, runRecord_effect ..⟩
  | trunkConfigure => exact .inl ⟨_, rfl, (doTrunkConfigure_effect ..).widen⟩
  | trunkStart => exact .inl ⟨_, rfl, (trunkCommand_effect ..).widen⟩
  | trunkHalt => exact .inl ⟨_, rfl, (trunkCommand_effect ..).widen⟩
  | trunkSetup => exact .inl ⟨_, rfl, (trunkCommand_effect ..).widen⟩
  | filterSet => exact .inl ⟨_, rfl, (doFilterSet_effect ..).widen⟩
  | holdConfigure => exact .inl ⟨_, rfl, (doHoldConfigure_effect ..).widen⟩
  | cellTake => exact .inl ⟨_, rfl, (doCellTake_effect ..).widen⟩
  | lineStatusRead => exact .inl ⟨_, rfl, (doLineStatusRead_effect ..).widen⟩
  | messageSend => exact .inl ⟨_, rfl, (doMessageSend_effect ..).widen⟩
  | busRelease => exact .inl ⟨_, rfl, (doBusRelease_effect ..).widen⟩
  | channelConfigure => exact .inl ⟨_, rfl, (doChannelConfigure_effect ..).widen⟩
  | channelEnable => exact .inl ⟨_, rfl, (doChannelEnable_effect ..).widen⟩
  | channelDisable => exact .inl ⟨_, rfl, (doChannelDisable_effect ..).widen⟩
  | channelRead => exact .inl ⟨_, rfl, (doChannelRead_effect ..).widen⟩
  | tripManual => exact .inl ⟨_, rfl, (doTripManual_effect ..).widen⟩
  | tripReset => exact .inl ⟨_, rfl, (doTripReset_effect ..).widen⟩
  | superviseStart => exact .inl ⟨_, rfl, (doSuperviseStart_effect ..).widen⟩
  | superviseRefresh => exact .inl ⟨_, rfl, (doSuperviseRefresh_effect ..).widen⟩
  | overrideRequest => exact .inl ⟨_, rfl, (doOverrideRequest_effect ..).widen⟩
  | overrideConfirm => exact .inl ⟨_, rfl, (doOverrideConfirm_effect ..).widen⟩
  | overrideCancel => exact .inl ⟨_, rfl, (doOverrideCancel_effect ..).widen⟩
  | supplyConfigure => exact .inl ⟨_, rfl, (doSupplyConfigure_effect ..).widen⟩
  | alarmRaiseAlert => exact .inl ⟨_, rfl, (doAlarmRaiseAlert_effect ..).widen⟩
  | alarmRaiseEvacuate => exact .inl ⟨_, rfl, (doAlarmRaiseEvacuate_effect ..).widen⟩
  | evacuate => exact .inl ⟨_, rfl, (doEvacuate_effect ..).widen⟩
  | alertClearOwn => exact .inl ⟨_, rfl, (doAlertClearOwn_effect ..).widen⟩
  | alertClearBoth => exact .inl ⟨_, rfl, (doAlertClearBoth_effect ..).widen⟩
  | allClear => exact .inl ⟨_, rfl, (doAllClear_effect ..).widen⟩
  | sounderSilence => exact .inl ⟨_, rfl, (doSounderSilence_effect ..).widen⟩
  | refugeConfigure => exact .inl ⟨_, rfl, (doRefugeConfigure_effect ..).widen⟩
  | refugeAck => exact .inl ⟨_, rfl, (doRefugeAck_effect ..).widen⟩
  | callOpen => exact .inl ⟨_, rfl, (doCallOpen_effect ..).widen⟩
  | callAnswer => exact .inl ⟨_, rfl, (doCallAnswer_effect ..).widen⟩
  | callReject => exact .inl ⟨_, rfl, (doCallReject_effect ..).widen⟩
  | callClear => exact .inl ⟨_, rfl, (doCallClear_effect ..).widen⟩
  | callRead => exact .inl ⟨_, rfl, (doCallRead_effect ..).widen⟩
  | voicePut => exact .inl ⟨_, rfl, (doVoicePut_effect ..).widen⟩
  | voiceTake => exact .inl ⟨_, rfl, (doVoiceTake_effect ..).widen⟩
  | callBudgetSet => exact .inl ⟨_, rfl, (doCallBudgetSet_effect ..).widen⟩
  | vehicleOrderStop => exact .inl ⟨_, rfl, (doVehicleOrder_effect ..).widen⟩
  | vehicleOrderRelease => exact .inl ⟨_, rfl, (doVehicleOrder_effect ..).widen⟩
  | vehicleRead => exact .inl ⟨_, rfl, (doVehicleRead_effect ..).widen⟩
  | blockConfigure => exact .inl ⟨_, rfl, (doBlockConfigure_effect ..).widen⟩
  | blockRead => exact .inl ⟨_, rfl, (doBlockRead_effect ..).widen⟩
  | blockForceClear => exact .inl ⟨_, rfl, (doBlockForceClear_effect ..).widen⟩
  | noticeEnableSet => exact .inl ⟨_, rfl, (doNoticeEnableSet_effect ..).widen⟩
  | noticeEnableClear => exact .inl ⟨_, rfl, (doNoticeEnableClear_effect ..).widen⟩
  | noticeGroupSet => exact .inl ⟨_, rfl, (doNoticeGroupSet_effect ..).widen⟩
  | noticeTake => exact .inl ⟨_, rfl, (doNoticeTake_effect ..).widen⟩
  | statusRead => exact .inl ⟨_, rfl, (doStatusRead_effect ..).widen⟩
  | statusReadClear => exact .inl ⟨_, rfl, (doStatusReadClear_effect ..).widen⟩
  | identRead => exact .inl ⟨_, rfl, (doIdentRead_effect ..).widen⟩
  | remote => exact .inl ⟨_, rfl, doRemote_effect ..⟩
  | syncByteReceived => exact .inl ⟨_, rfl, (syncByte_effect ..).widen⟩
  | clockLetGo => exact .inl ⟨_, rfl, (letGo_effect ..).widen⟩

/-- Every command keeps every invariant. -/
theorem exec_keeps {i : Instr} {s t : State} (h : exec i s = .next t) {l : Law} (hs : l.holds s) : l.holds t := by
  obtain ⟨u, hu, he⟩ | ⟨role, straps, p, x, hu⟩ := exec_cases i s
  · obtain rfl : u = t := Host.Outcome.next.inj (hu.symm.trans h)
    exact he.keeps l (by simp) hs
  · obtain rfl := Host.Outcome.next.inj (hu.symm.trans h)
    exact restart_holds ..

theorem setPending_effect (cs : List Instr) (s : State) : Effect [.pending] [] s { s with pending := cs } := .of_parts

/-- Every step keeps every invariant. -/
theorem step_keeps {s t : State} (h : step s = .next t) {l : Law} (hs : l.holds s) : l.holds t := by
  unfold step at h
  split at h
  · obtain rfl := Host.Outcome.next.inj h
    exact (advanceTicks_effect 1 s).keeps l (by simp) hs
  next rest _ => exact exec_keeps h ((setPending_effect rest s).keeps l (by simp) hs)

/-! ## The invariants as the obligations have them -/

theorem handedOver_iff (s : State) :
    HandedOver s ↔ Law.levels.holds s ∧ Law.modes.holds s ∧ Law.methane.holds s :=
  ⟨fun h => ⟨h.level, h.mode, h.methane⟩, fun ⟨hl, hm, hx⟩ => ⟨hl, hm, hx⟩⟩

theorem levelsDerived_iff (s : State) :
    LevelsDerived s ↔ Law.tripDerived.holds s ∧ Law.alarmDerived.holds s ∧ Law.levelDerived.holds s :=
  ⟨fun h => ⟨h.trip, h.alarm, h.level⟩, fun ⟨ht, ha, hl⟩ => ⟨ht, ha, hl⟩⟩

/-- Settles O53: the invariant is kept by every part of every command, and the restart brings it about. -/
theorem stepKeepsTrip : Obligations.StepKeepsTrip := fun _ _ hs h => step_keeps (l := .tripHeld) h hs

/-- Settles O54: every operation on a bus keeps it legal, no other touches one. -/
theorem stepKeepsBuses : Obligations.StepKeepsBuses := fun _ _ hs h => step_keeps (l := .buses) h hs

/-- Settles O55: a request and a changed channel are refused where coverage would be lost. -/
theorem stepKeepsCoverage : Obligations.StepKeepsCoverage := fun _ _ hs h => step_keeps (l := .coverage) h hs

/-- Settles O56: admission finds room, a lowered budget sheds, and an entry is made under a reference that is free. -/
theorem stepKeepsCalls : Obligations.StepKeepsCalls :=
  ⟨fun _ _ hs h => step_keeps (l := .calls) h hs, fun _ _ hs h => step_keeps (l := .refs) h hs⟩

/-- Settles O57: a hand-over follows each change of what is handed over; an order follows each change it depends on. -/
theorem stepKeepsHandOvers : Obligations.StepKeepsHandOvers := by
  refine ⟨fun s t hs h => ?_, fun s t hs h i => step_keeps (l := .diesel i) h (hs i)⟩
  obtain ⟨hl, hm, hx⟩ := (handedOver_iff s).mp hs
  exact (handedOver_iff t).mpr ⟨step_keeps h hl, step_keeps h hm, step_keeps h hx⟩

/-- Settles O58: what joins a queue or a list finds room or takes another's place. -/
theorem stepKeepsCapacity : Obligations.StepKeepsCapacity := fun _ _ hs h => step_keeps (l := .capacity) h hs

/-- Settles O59: the derivation that follows a changed input restores the invariant. -/
theorem stepKeepsDerivation : Obligations.StepKeepsDerivation := by
  intro s t hs h
  obtain ⟨ht, ha, hl⟩ := (levelsDerived_iff s).mp hs
  exact (levelsDerived_iff t).mpr ⟨step_keeps h ht, step_keeps h ha, step_keeps h hl⟩

/-- The reset state is the one a power-on reset of its node makes. -/
theorem reset_eq_restart : State.reset = restart (bootState .junction 1 true false []) := by
  have h := restart_bootState .junction 1 true false []
  exact h ▸ rfl

/-- Settles O60: the reset state is what a restart makes of the reset values. -/
theorem resetMeetsInvariants : Obligations.ResetMeetsInvariants := by
  have h (l : Law) : l.holds State.reset := reset_eq_restart ▸ restart_holds ..
  exact ⟨h .tripHeld, h .buses, h .coverage, h .calls, (handedOver_iff _).mpr ⟨h .levels, h .modes, h .methane⟩, h .capacity,
    (levelsDerived_iff _).mpr ⟨h .tripDerived, h .alarmDerived, h .levelDerived⟩, fun i => h (.diesel i), h .refs⟩

end Sys2Proof.Machine
end

section
/-! PROOFS. The step, the responses and the notices of the ports (Chapter 9). -/

namespace Sys2Proof.Machine

-- Declarations are elaborated one after another: in a text of this length the threads of many at once would not fit the memory limit.
set_option Elab.async false

/-! ## One step (R1) -/

/-- Settles O1: a step matches on the queue. -/
theorem stepRunsFront : Obligations.StepRunsFront := by
  intro c rest s h
  simp only [step, h]

theorem step_nil {s : State} (h : s.pending = []) : step s = .next (advanceTicks 1 s) := by
  simp only [step, h]

theorem satSucc_eq_min (top n : Nat) : satSucc top n = min top (n + 1) := by
  unfold satSucc; split <;> omega

theorem advanceTicks_vu (n : Nat) (s : State) : (advanceTicks n s).vu = { s.vu with radio := s.vu.radio.ticks n } := rfl

/-- Settles O2: the tick moves the Time Base and the radio port, and the radio port by the two cases of a frame. -/
theorem stepIdles : Obligations.StepIdles := by
  intro s h
  refine ⟨_, step_nil h, rfl, rfl, rfl, rfl, advanceTicks_blocks 1 s, fun hunt => ?_, fun frame hage => ?_, fun frame hage => ?_⟩
  · rw [advanceTicks_vu, Radio.ticks_of_hunt 1 _ hunt]
  · rw [advanceTicks_vu]
    obtain ⟨-, hticks⟩ | ⟨hold, -⟩ := Radio.ticks_of_frame 1 s.vu.radio frame
    · rw [hticks]
    · omega
  · rw [advanceTicks_vu]
    obtain ⟨hnew, -⟩ | ⟨-, hticks⟩ := Radio.ticks_of_frame 1 s.vu.radio frame
    · omega
    · rw [hticks, Radio.discard, satSucc_eq_min]

/-! ## Commands with their right -/

@[simp] theorem portSource_port? (p : Port) : (portSource p).port? = some p := by cases p <;> rfl

theorem sized_of_length {n : Nat} {params : Bytes} (h : params.length = n) (body : Body) : sized n params body = body := if_pos h

theorem paged_of_length {n : Nat} {params : Bytes} (h : params.length = n) (body : Nat → Body) : paged n params body = body 0 :=
  if_pos h

/-- R166, R184: a command with its right and the length its fields require. -/
theorem command_sized {n : Nat} {src : Source} {tag : Byte} {params : Bytes} {right : Bool} {body : Body} {s : State}
    (hright : right = true) (hlen : params.length = n) (hn : n ≤ 32 := by decide) :
    command src tag params right (sized n params body) s = respond src tag (body s).2 (body s).1 := by
  rw [hright, sized_of_length hlen, command_right _ _ _ _ _ (hlen ▸ hn)]

theorem State.updPort_get (p : Port) (f : PortState → PortState) (s : State) :
    (s.updPort p f).pi.ports.get p = f (s.pi.ports.get p) := by simp

/-! ## Responses (R167) -/

theorem readResponse_eq (p : Port) (s : State) : readResponse p s = s.updPort p fun ps => { ps with
    slotRead := true
    lastRead := match ps.slot with
      | some r => responseBytes r
      | none => emptySlotBytes } := rfl

theorem updPort_updPort (p : Port) (f g : PortState → PortState) (s : State) :
    (s.updPort p f).updPort p g = s.updPort p fun ps => g (f ps) := by cases p <;> rfl

theorem updPort_congr {p : Port} {f g : PortState → PortState} {s : State} (h : f (s.pi.ports.get p) = g (s.pi.ports.get p)) :
    s.updPort p f = s.updPort p g := by
  simp only [State.updPort, State.updPi, h]

/-- Reading a response twice is reading it once. -/
theorem readResponse_readResponse (p : Port) (s : State) : readResponse p (readResponse p s) = readResponse p s := by
  rw [readResponse_eq, readResponse_eq, updPort_updPort]

/-- Settles O46: a port's response is an update of its slot, a read keeps the slot, and each outcome of a command is a response. -/
theorem responseSlots : Obligations.ResponseSlots := by
  refine ⟨fun p tag a s => respond_portSource p tag a s, fun p s => ?read, fun p tag params right body s => ?ends⟩
  case read =>
    refine ⟨readResponse p s, readResponse p (readResponse p s), rfl, rfl, ?_, ?_, readResponse_readResponse p s⟩
    · rw [readResponse_eq]
      exact updPort_congr (by rw [State.updPort_get])
    · rw [readResponse_eq, State.updPort_get]; rfl
  case ends =>
    unfold command
    split
    · exact ⟨_, s, rfl⟩
    · split
      · exact ⟨_, s, rfl⟩
      · exact ⟨_, _, rfl⟩

/-! ## Posting a notice (R172 to R174) -/

theorem replaceFirst_append {α : Type} {p : α → Bool} {a b : List α} {q : α} (x : α) (ha : ∀ y ∈ a, p y = false) (hq : p q = true) :
    replaceFirst p x (a ++ q :: b) = a ++ x :: b := by
  induction a with
  | nil => simp [replaceFirst, hq]
  | cons y ys ih => simp [replaceFirst, ha y, ih fun z hz => ha z (by simp [hz])]

theorem removeLast_append {α : Type} {p : α → Bool} {a b : List α} {q : α} (hb : ∀ y ∈ b, p y = false) (hq : p q = true) :
    removeLast p (a ++ q :: b) = a ++ b := by
  have hrev : (a ++ q :: b).reverse = b.reverse ++ q :: a.reverse := by simp
  rw [removeLast, hrev, List.eraseP_append_right _ (by simpa using hb), List.eraseP_cons_of_pos hq]
  simp

section
variable {n : Notice} {ps : PortState}

theorem PortState.post_of_disabled (hmask : n.kind.maskable = true) (hoff : holdsKind ps.enabled n.kind = false) : ps.post n = ps := by
  simp [PortState.post, hmask, hoff]

/-- R176: a notice the port takes at all. -/
def PortState.takes (ps : PortState) (n : Notice) : Prop := n.kind.maskable = false ∨ holdsKind ps.enabled n.kind = true

theorem PortState.takes.guard (h : ps.takes n) : (n.kind.maskable && !holdsKind ps.enabled n.kind) = false := by
  obtain h | h := h <;> simp [h]

theorem PortState.post_of_update (htakes : ps.takes n) (hany : ps.queue.any (coalesces n) = true) :
    ps.post n = { ps with queue := replaceFirst (coalesces n) n ps.queue } := by
  simp [PortState.post, htakes.guard, hany]

theorem PortState.post_of_room (htakes : ps.takes n) (hnew : ps.queue.any (coalesces n) = false)
    (hroom : n.kind.maskable = false ∨ maskableCount ps.queue < 24) : ps.post n = { ps with queue := ps.queue ++ [n] } := by
  have hguard : (!n.kind.maskable || maskableCount ps.queue < Config.maskableCapacity) = true := by
    obtain h | h := hroom <;> simp [h, Config.maskableCapacity]
  simp only [PortState.post, htakes.guard, hnew, hguard, Bool.false_eq_true, if_false, if_true]

theorem PortState.post_of_full (htakes : ps.takes n) (hnew : ps.queue.any (coalesces n) = false)
    (hmask : n.kind.maskable = true) (hfull : 24 ≤ maskableCount ps.queue) :
    ps.post n = if holdsKind ps.high n.kind && ps.queue.any (lowNotice ps) then
        { ps with queue := removeLast (lowNotice ps) ps.queue ++ [n], noticeOverflow := true }
      else { ps with noticeOverflow := true } := by
  have hguard : (!n.kind.maskable || maskableCount ps.queue < Config.maskableCapacity) = false := by
    simp [hmask, Config.maskableCapacity, Nat.not_lt.mpr hfull]
  simp only [PortState.post, htakes.guard, hnew, hguard, Bool.false_eq_true, if_false]

end

/-- Settles O47: the branches of the post, one by one. -/
theorem noticePosting : Obligations.NoticePosting := by
  intro n ps
  refine ⟨PortState.post_same n ps, fun hmask hoff => PortState.post_of_disabled hmask hoff,
    fun htakes => ⟨fun a b q hq hc ha => ?update, fun hnone => ?fresh⟩⟩
  case update =>
    rw [PortState.post_of_update htakes (by simp [hq, hc]), hq, replaceFirst_append n ha hc]
  case fresh =>
    have hnew : ps.queue.any (coalesces n) = false := by simpa using hnone
    refine ⟨fun hroom => PortState.post_of_room htakes hnew hroom, fun hmask hfull => ⟨fun a b q hhigh hq hlow hb => ?_, fun hlost => ?_⟩⟩
    · rw [PortState.post_of_full htakes hnew hmask hfull, if_pos (by simp [hhigh, hq, hlow]), hq, removeLast_append hb hlow]
    · refine (PortState.post_of_full htakes hnew hmask hfull).trans (if_neg ?_)
      obtain h | h := hlost
      · simp [h]
      · simp_all

/-! ## Taking a notice (R175) -/

theorem nextNotice_nil {ps : PortState} (h : ps.queue = []) : nextNotice ps = none := by simp [nextNotice, h]

theorem find?_append_eq {α : Type} {p : α → Bool} {a b : List α} {x : α} (ha : ∀ y ∈ a, p y = false) (hx : p x = true) :
    (a ++ x :: b).find? p = some x := by
  rw [List.find?_append, List.find?_eq_none.mpr (by simpa using ha)]
  simp [hx]

/-- R175: the notice chosen stands before every equal one, so that taking it removes that very place. -/
theorem erase_append_eq {α : Type} [DecidableEq α] {a b : List α} {x : α} (ha : x ∉ a) : (a ++ x :: b).erase x = a ++ b := by
  rw [List.erase_append_right _ ha, List.erase_cons_head]

section
variable {ps : PortState} {a b : List Notice} {n : Notice}

theorem nextNotice_unmaskable (hq : ps.queue = a ++ n :: b) (hn : n.kind.maskable = false) (ha : ∀ x ∈ a, x.kind.maskable = true) :
    nextNotice ps = some n := by
  rw [nextNotice, hq, find?_append_eq (by simpa using ha) (by simp [hn])]

theorem find?_unmaskable_none (hmask : ∀ x ∈ ps.queue, x.kind.maskable = true) :
    ps.queue.find? (fun q => !q.kind.maskable) = none := by simpa using hmask

theorem nextNotice_high (hq : ps.queue = a ++ n :: b) (hmask : ∀ x ∈ ps.queue, x.kind.maskable = true)
    (hn : holdsKind ps.high n.kind = true) (ha : ∀ x ∈ a, holdsKind ps.high x.kind = false) : nextNotice ps = some n := by
  have hnmask : n.kind.maskable = true := hmask n (by simp [hq])
  have hfind : ps.queue.find? (highNotice ps) = some n := by
    rw [hq]; exact find?_append_eq (fun x hx => by simp [highNotice, ha x hx]) (by simp [highNotice, hnmask, hn])
  simp [nextNotice, find?_unmaskable_none hmask, hfind]

theorem nextNotice_low (hq : ps.queue = n :: b) (hmask : ∀ x ∈ ps.queue, x.kind.maskable = true)
    (hlow : ∀ x ∈ ps.queue, holdsKind ps.high x.kind = false) : nextNotice ps = some n := by
  have hnmask : n.kind.maskable = true := hmask n (by simp [hq])
  have hnlow : holdsKind ps.high n.kind = false := hlow n (by simp [hq])
  have hfind : ps.queue.find? (highNotice ps) = none := by
    rw [List.find?_eq_none]; intro x hx; simp [highNotice, hlow x hx]
  simp only [nextNotice, find?_unmaskable_none hmask, hfind]
  simp [hq, lowNotice, hnmask, hnlow]

end

theorem doNoticeTake_some {p : Port} {s : State} {n : Notice} (tag : Byte) (h : nextNotice (s.pi.ports.get p) = some n) :
    doNoticeTake (portSource p) tag [] s = respond (portSource p) tag
      (done (byteOf ((s.pi.ports.get p).queue.erase n).length :: byteOf n.kind.code :: stampBytes (some n.stamp) ++ n.data))
      (s.updPort p fun ps => { ps with queue := ps.queue.erase n }) := by
  rw [doNoticeTake, portCommand_portSource, command_sized (n := 0) rfl rfl, h]
  dsimp only
  rw [State.updPort_get]; rfl

theorem doNoticeTake_none {p : Port} {s : State} (tag : Byte) (h : nextNotice (s.pi.ports.get p) = none) :
    doNoticeTake (portSource p) tag [] s = respond (portSource p) tag (done [0#8]) s := by
  rw [doNoticeTake, portCommand_portSource, command_sized (n := 0) rfl rfl, h]; rfl

/-- Settles O48: the notice chosen is the one the three finds meet first, and it is taken from its own place. -/
theorem noticeTake : Obligations.NoticeTake := by
  intro p tag s ps hps
  subst hps
  have hgoes : ∀ t, doNoticeTake (portSource p) tag [] s = t → Goes (.noticeTake (portSource p) tag []) s t :=
    fun t h => congrArg Host.Outcome.next h
  refine ⟨by simp [State.noticeLine], fun hempty => hgoes _ ?empty, fun a b n hq hnext => hgoes _ ?taken⟩
  case empty => exact doNoticeTake_none tag (nextNotice_nil hempty)
  case taken =>
    have hchosen : nextNotice (s.pi.ports.get p) = some n ∧ n ∉ a := by
      obtain ⟨hn, ha⟩ | ⟨hmask, hn, ha⟩ | ⟨rfl, hmask, hlow⟩ := hnext
      · exact ⟨nextNotice_unmaskable hq hn ha, fun h => by simp [ha n h] at hn⟩
      · exact ⟨nextNotice_high hq hmask hn ha, fun h => by simp [ha n h] at hn⟩
      · exact ⟨nextNotice_low hq hmask hlow, by simp⟩
    obtain ⟨hnext, hout⟩ := hchosen
    have herase : (s.pi.ports.get p).queue.erase n = a ++ b := by rw [hq]; exact erase_append_eq hout
    rw [doNoticeTake_some tag hnext, herase]
    exact congrArg (respond (portSource p) tag _) (updPort_congr (by rw [herase]))

/-! ## Notice settings and reads that change nothing (R141, R164, R176, R177) -/

theorem wordAt_pair (a b : Byte) (rest : Bytes) : wordAt (a :: b :: rest) 0 = (a ++ b : BitVec 16).toNat := by
  have h := b.isLt
  rw [BitVec.toNat_append, Nat.shiftLeft_eq, Nat.mul_comm, ← Nat.two_pow_add_eq_or_of_lt h]
  simp [wordAt, byteAt]; omega

theorem badKinds_toNat {m : BitVec 16} (hne : m ≠ 0#16) (htop : m.getLsbD 15 = false) : badKinds m.toNat = false := by
  have hpos : m.toNat ≠ 0 := fun h => hne (BitVec.eq_of_toNat_eq h)
  have hlow : ¬ 32767 < m.toNat := by
    intro h
    have htest : m.toNat.testBit 15 = true := by
      rw [Nat.testBit_eq_decide_div_mod_eq]; have := m.isLt; simp; omega
    exact absurd htop (by rw [BitVec.getLsbD, htest]; decide)
  simp [badKinds, hpos, hlow]

theorem byteAt_byteOf {n : Nat} (h : n < 256) (rest : Bytes) : byteAt (byteOf n :: rest) 0 = n := by
  simp [byteAt, byteOf, Nat.mod_eq_of_lt h]

theorem callOf_val (i : Fin 12) : callOf i.val = some i := dif_pos i.isLt

theorem vehicleOf_val (i : Fin 16) : vehicleOf i.val = some i := dif_pos i.isLt

theorem Goes.of_eq {i : Instr} {s t u : State} (h : t = u) (hi : exec i s = .next t := by rfl) : Goes i s u := h ▸ hi

section
variable {p : Port} {a b : Byte} (tag : Byte) (s : State)

theorem doNoticeEnableSet_good (h : badKinds (a ++ b : BitVec 16).toNat = false) :
    doNoticeEnableSet (portSource p) tag [a, b] s
      = respond (portSource p) tag (done (u16 ((s.pi.ports.get p).enabled ||| (a ++ b)).toNat))
          (s.updPort p fun ps => { ps with enabled := ps.enabled ||| (a ++ b) }) := by
  rw [doNoticeEnableSet, portCommand_portSource, command_sized (n := 2) rfl rfl]
  simp only [wordAt_pair, h, Bool.false_eq_true, if_false, BitVec.ofNat_toNat, BitVec.setWidth_eq, State.updPort_get]

theorem doNoticeEnableClear_good (h : badKinds (a ++ b : BitVec 16).toNat = false) :
    doNoticeEnableClear (portSource p) tag [a, b] s
      = respond (portSource p) tag (done (u16 ((s.pi.ports.get p).enabled &&& ~~~(a ++ b)).toNat))
          (s.updPort p fun ps => { ps with enabled := ps.enabled &&& ~~~(a ++ b) }) := by
  rw [doNoticeEnableClear, portCommand_portSource, command_sized (n := 2) rfl rfl]
  simp only [wordAt_pair, h, Bool.false_eq_true, if_false, BitVec.ofNat_toNat, BitVec.setWidth_eq, State.updPort_get]

theorem doNoticeGroupSet_high (h : badKinds (a ++ b : BitVec 16).toNat = false) :
    doNoticeGroupSet (portSource p) tag [a, b, 0#8] s
      = respond (portSource p) tag (done (groupBytes { s.pi.ports.get p with high := (s.pi.ports.get p).high ||| (a ++ b) }))
          (s.updPort p fun ps => { ps with high := ps.high ||| (a ++ b) }) := by
  rw [doNoticeGroupSet, portCommand_portSource, command_sized (n := 3) rfl rfl]
  simp only [wordAt_pair, h, BitVec.ofNat_toNat, BitVec.setWidth_eq, State.updPort_get]
  rfl

theorem doNoticeGroupSet_low (h : badKinds (a ++ b : BitVec 16).toNat = false) :
    doNoticeGroupSet (portSource p) tag [a, b, 1#8] s
      = respond (portSource p) tag (done (groupBytes { s.pi.ports.get p with high := (s.pi.ports.get p).high &&& ~~~(a ++ b) }))
          (s.updPort p fun ps => { ps with high := ps.high &&& ~~~(a ++ b) }) := by
  rw [doNoticeGroupSet, portCommand_portSource, command_sized (n := 3) rfl rfl]
  simp only [wordAt_pair, h, BitVec.ofNat_toNat, BitVec.setWidth_eq, State.updPort_get]
  rfl

end

theorem doCallRead_index (tag : Byte) (i : Fin 12) (s : State) :
    doCallRead .cp tag [byteOf i.val] s = respond .cp tag (done (pageOf .cp 0 (callReadBytes i s))) s := by
  rw [doCallRead, paged_of_length (n := 1) rfl, cpOnly, decide_eq_true rfl, command_right _ _ [byteOf i.val] _ _ (Nat.le_add_left 1 31)]
  simp only [byteAt_byteOf (show i.val < 256 by omega), callOf_val]

theorem doVehicleRead_index (src : Source) (tag : Byte) (i : Fin 16) (s : State) :
    doVehicleRead src tag [byteOf i.val] s = respond src tag (done (pageOf src 0 (vehicleReadBytes i s))) s := by
  rw [doVehicleRead, paged_of_length (n := 1) rfl, command_right _ _ [byteOf i.val] _ _ (Nat.le_add_left 1 31)]
  simp only [byteAt_byteOf (show i.val < 256 by omega), vehicleOf_val]

theorem doBlockRead_nil (src : Source) (tag : Byte) (s : State) :
    doBlockRead src tag [] s = respond src tag (done (pageOf src 0 (blockReadBytes s))) s := by
  rw [doBlockRead, paged_of_length (n := 0) rfl, command_right _ _ _ _ _ (by decide)]

/-- Settles O49: the settings by the set the two bytes spell, the reads by their answers alone. -/
theorem settingsAndReads : Obligations.SettingsAndReads := by
  refine ⟨fun p tag a b s m hm hne htop => ?settings, fun tag i s => ⟨_, .of_eq (doCallRead_index tag i s)⟩,
    fun src tag i page s => ⟨⟨_, .of_eq (doVehicleRead_index src tag i s)⟩, ⟨_, .of_eq (doBlockRead_nil src tag s)⟩,
      ⟨_, .of_eq (command_right src tag [] _ s (by decide))⟩⟩, fun p tag s => ?clear⟩
  case settings =>
    subst hm
    have hgood := badKinds_toNat hne htop
    exact ⟨⟨_, .of_eq (doNoticeEnableSet_good tag s hgood)⟩, ⟨_, .of_eq (doNoticeEnableClear_good tag s hgood)⟩,
      ⟨_, .of_eq (doNoticeGroupSet_high tag s hgood)⟩, ⟨_, .of_eq (doNoticeGroupSet_low tag s hgood)⟩⟩
  case clear =>
    refine ⟨_, _, .of_eq (doStatusReadClear_page_zero p tag s), rfl, rfl, rfl, fun b hb => ?_⟩
    cases b <;> first | rfl | simp at hb

/-! ## Rights (R171) -/

/-- R171: a command whose right is not the source's. -/
theorem goes_denied {i : Instr} {src : Source} {tag : Byte} {params : Bytes} {right : Bool} {body : Body} {s : State}
    (hright : right = false) (hlen : params.length ≤ 32) (hi : exec i s = .next (command src tag params right body s) := by rfl) :
    Goes i s (respond src tag (refused .denied) s) :=
  .of_eq (hright ▸ command_denied src tag params body s hlen) hi

/-- R35: the queue a CELL_TAKE names decides its right. -/
theorem doCellTake_denied {src : Source} {tag : Byte} {b : Byte} {rest : Bytes} {s : State} (hb : b.toNat ≤ 1)
    (hright : src ≠ if b.toNat = 0 then .sp else .cp) (hlen : rest.length ≤ 31) :
    doCellTake src tag (b :: rest) s = respond src tag (refused .denied) s := by
  have hbyte : byteAt (b :: rest) 0 = b.toNat := rfl
  rw [doCellTake, if_neg (by simp [hbyte]; omega), hbyte]
  have hno : decide (src = if (b.toNat == 0) = true then Source.sp else .cp) = false := by simpa using hright
  dsimp only
  rw [hno, command_denied _ _ (b :: rest) _ _ (Nat.succ_le_succ hlen)]

/-- Settles O51: command by command the right is false, and a command without its right is denied. -/
theorem rightsRefused : Obligations.RightsRefused := by
  intro src tag p s hlen
  have htake : (p.take 31).length ≤ 31 := by simp
  have hnil : ([] : Bytes).length ≤ 32 := by decide
  simp only [List.forall_mem_cons, List.not_mem_nil, false_implies, implies_true, and_true]
  refine ⟨fun h => ?sp, fun h => ?spSurface, fun h => ?surface, fun h => ?port, fun h => ?cpSurface, fun h => ?cp, fun h => ?head⟩
  case sp =>
    have hr : spOnly src = false := decide_eq_false h
    exact ⟨goes_denied hr hlen, goes_denied hr hlen, goes_denied hr hlen, goes_denied hr hlen, goes_denied hr hlen,
      goes_denied hr hlen, goes_denied hr hlen, goes_denied hr hlen, .of_eq (doCellTake_denied (b := 0#8) (by decide) h htake),
      goes_denied hr hnil⟩
  case spSurface =>
    subst h
    exact ⟨goes_denied rfl hlen, goes_denied rfl hlen⟩
  case surface =>
    have hr : surfaceOnly src = false := decide_eq_false h
    exact ⟨goes_denied hr hlen, goes_denied hr hlen⟩
  case port =>
    subst h
    exact ⟨goes_denied rfl hnil, goes_denied rfl hnil, goes_denied rfl hnil, goes_denied rfl hlen, goes_denied rfl hlen,
      goes_denied rfl hlen, goes_denied rfl hlen, goes_denied rfl hlen, goes_denied rfl hlen,
      goes_denied (body := refuse .denied) rfl hnil⟩
  case cpSurface =>
    have hr : cpSurface src = false := by rw [h]; rfl
    exact ⟨goes_denied hr hlen, goes_denied hr hnil, goes_denied hr hnil, goes_denied hr hlen, goes_denied hr hlen,
      goes_denied hr hlen, goes_denied hr hlen, goes_denied hr hlen⟩
  case cp =>
    have hr : cpOnly src = false := decide_eq_false h
    exact ⟨goes_denied hr hlen, goes_denied hr hlen, goes_denied hr hlen, goes_denied hr hlen, goes_denied hr hlen,
      goes_denied hr hlen, goes_denied hr hlen, goes_denied hr hlen, goes_denied hr hlen, goes_denied hr hlen,
      goes_denied hr hlen, goes_denied hr hlen, goes_denied hr hlen, goes_denied hr hlen,
      .of_eq (doCellTake_denied (b := 1#8) (by decide) h htake)⟩
  case head =>
    have hr : (s.isHead && spCp src) = false := by
      obtain h | h := h <;> simp [h, State.isHead, spCp]
    exact ⟨goes_denied hr hlen, goes_denied hr hlen⟩

end Sys2Proof.Machine
end

section
/-! PROOFS. From the parts an operation may touch to the frames of Safety.lean. -/

namespace Sys2Proof.Machine

-- Declarations are elaborated one after another: in a text of this length the threads of many at once would not fit the memory limit.
set_option Elab.async false

/-! ## Blocks as lists of parts -/

/-- The parts a block is made of. -/
def Block.parts : Block → List Part
  | .tb => [.node, .clock, .trunk, .epoch, .tripStamp, .refugeStamps]
  | .cs => [.cells, .inds, .line, .flow, .flowConf, .remote, .csMode, .sent]
  | .sbm => [.buses, .told]
  | .gcu => [.channels, .nodeMethane, .gcuMode]
  | .tu => [.trip, .sup, .ovr, .supply]
  | .sau => [.causes, .latch, .level, .inputs, .holders, .covered, .refuges, .outputs, .alarmTold]
  | .ctu => [.calls, .budget, .ctuMode, .ctuLevel]
  | .vu => [.vehicles, .tableFull, .vuLevel, .vuMethane, .radio, .roadCfg, .road]
  | .pi => [.notices, .portConf, .slots, .resetCause]
  | .pending => [.pending]

theorem LineStatus.eq_of_latched_plain {a b : LineStatus} (hl : b.latched = a.latched) (hp : b.plain = a.plain) : b = a := by
  have hi (i : Indication) : b.latched i = a.latched i := congrFun hl i
  have h1 := hi .carrierLost
  have h2 := hi .crcErrors
  have h3 := hi .signalLost
  have h4 := hi .dataDropped
  have h5 := hi .holdReceived
  have h6 := hi .deliveryOverflow
  cases a; cases b
  simp only [LineStatus.latched, LineStatus.plain, LineStatus.mk.injEq] at h1 h2 h3 h4 h5 h6 hp ⊢
  simp [h1, h2, h3, h4, h5, h6, hp]

theorem PerBus.ext {α : Type} {p q : PerBus α} (h1 : p.one = q.one) (h2 : p.two = q.two) : p = q := by
  cases p; cases q; simp_all

/-- A block whose parts are as they were is as it was. -/
theorem Same.of_parts {s t : State} (b : Block) (h : ∀ p ∈ b.parts, p.same s t) : Same s t b := by
  cases b <;> simp only [Block.parts, List.forall_mem_cons, List.not_mem_nil, false_implies, implies_true, and_true] at h
  case cs =>
    obtain ⟨h1, h2, h3, h4, h5, h6, h7, h8⟩ := h
    simp only [Part.same, Prod.mk.injEq] at h1 h2 h3 h4 h5 h6 h7 h8
    have hstatus : t.cs.status = s.cs.status := by
      have ho := LineStatus.eq_of_latched_plain h2.1 h3.1
      have hi := LineStatus.eq_of_latched_plain h2.2 h3.2
      revert ho hi
      cases t.cs.status; cases s.cs.status
      intro ho hi
      simp_all
    obtain ⟨q, st, sq, gq⟩ := h1
    obtain ⟨ho, an, he⟩ := h4
    obtain ⟨ds, hp⟩ := h5
    show t.cs = s.cs
    revert hstatus q st sq gq ho an he ds hp h6 h7 h8
    cases t.cs; cases s.cs
    intros
    simp_all
  case sbm =>
    obtain ⟨h1, h2⟩ := h
    simp only [Part.same, Prod.mk.injEq] at h1 h2
    obtain ⟨⟨a, b⟩, c, d⟩ := And.intro h1 h2
    have one : t.sbm.one = s.sbm.one := by
      revert a c
      cases t.sbm.one; cases s.sbm.one
      intro a c
      simp_all
    have two : t.sbm.two = s.sbm.two := by
      revert b d
      cases t.sbm.two; cases s.sbm.two
      intro b d
      simp_all
    exact PerBus.ext one two
  case pi =>
    obtain ⟨h1, h2, h3, h4⟩ := h
    simp only [Part.same, Prod.mk.injEq] at h1 h2 h3 h4
    show t.pi = s.pi
    revert h1 h2 h3 h4
    rcases t.pi with ⟨⟨⟨⟩, ⟨⟩⟩, _, _⟩
    rcases s.pi with ⟨⟨⟨⟩, ⟨⟩⟩, _, _⟩
    intro h1 h2 h3 h4
    simp_all
  all_goals
    simp only [Part.same, Prod.mk.injEq] at h
    simp only [Same]
  case tb => revert h; cases t.tb; cases s.tb; intro h; simp_all
  case gcu => revert h; cases t.gcu; cases s.gcu; intro h; simp_all
  case tu => revert h; cases t.tu; cases s.tu; intro h; simp_all
  case sau => revert h; cases t.sau; cases s.sau; intro h; simp_all
  case ctu => revert h; cases t.ctu; cases s.ctu; intro h; simp_all
  case vu => revert h; cases t.vu; cases s.vu; intro h; simp_all
  case pending => exact h

/-- Every block. -/
def Block.all : List Block := [.tb, .cs, .sbm, .gcu, .tu, .sau, .ctu, .vu, .pi, .pending]

section
variable {ps : List Part} {lost : List Law} {s t : State}

/-- No part of a block may change. -/
def Block.untouched (ps : List Part) (b : Block) : Bool := b.parts.all fun p => !ps.contains p

theorem Effect.block (h : Effect ps lost s t) (b : Block) (hb : b.untouched ps = true := by decide) : Same s t b :=
  .of_parts b fun p hp => h.same p fun hm => by
    have := List.all_eq_true.mp hb p hp
    simp [hm] at this

theorem Effect.sameBut (h : Effect ps lost s t) {may : List Block}
    (hb : (Block.all.all fun b => may.contains b || b.untouched ps) = true := by decide) : SameBut may s t := by
  intro b hn
  refine h.block b ?_
  have hall := List.all_eq_true.mp hb b (by cases b <;> decide)
  simpa [hn] using hall

theorem Effect.stampsOnly (h : Effect ps lost s t)
    (hp : ([Part.node, .clock, .trunk, .epoch].all fun p => !ps.contains p) = true := by decide) : StampsOnly s t := by
  have hs (p : Part) (hm : p ∈ [Part.node, .clock, .trunk, .epoch]) : p.same s t := h.same p fun hin => by
    have := List.all_eq_true.mp hp p hm
    simp [hin] at this
  have h1 := hs .node (by decide)
  have h2 := hs .clock (by decide)
  have h3 := hs .trunk (by decide)
  have h4 := hs .epoch (by decide)
  simp only [Part.same, Prod.mk.injEq] at h1 h2 h3 h4
  unfold StampsOnly
  revert h1 h2 h3 h4
  cases t.tb; cases s.tb
  intro h1 h2 h3 h4
  simp_all

theorem Effect.channels (h : Effect ps lost s t) (hp : Part.channels ∉ ps := by decide) : t.gcu.channels = s.gcu.channels :=
  h.same .channels hp

theorem Effect.pending (h : Effect ps lost s t) (hp : Part.pending ∉ ps := by decide) : t.pending = s.pending := h.same .pending hp

theorem Effect.alarmFrame (h : Effect ps lost s t)
    (hn : ([Part.node, .clock, .trunk, .epoch].all fun p => !ps.contains p) = true := by decide)
    (hb : Block.sbm.untouched ps = true := by decide) (hc : Part.channels ∉ ps := by decide)
    (hp : Part.pending ∉ ps := by decide) : AlarmFrame s t :=
  ⟨h.stampsOnly hn, h.block .sbm hb, h.channels hc, h.pending hp⟩

end

/-- A report touches the Cell Switch and the Port Interface alone. -/
theorem SameBut.mono {may more : List Block} {s t : State} (h : SameBut may s t) (hm : may ⊆ more := by decide) : SameBut more s t :=
  fun b hb => h b fun hin => hb (hm hin)

section
variable {may : List Block} {s t : State}

theorem SameBut.tb_eq (h : SameBut may s t) (hb : Block.tb ∉ may := by decide) : t.tb = s.tb := h .tb hb
theorem SameBut.pending_eq (h : SameBut may s t) (hb : Block.pending ∉ may := by decide) : t.pending = s.pending := h .pending hb

end

theorem StampsOnly.refl (s : State) : StampsOnly s s := rfl

theorem StampsOnly.of_tb {s t : State} (h : t.tb = s.tb) : StampsOnly s t := by rw [StampsOnly, h]

theorem StampsOnly.trans {s t u : State} (h : StampsOnly s t) (k : StampsOnly t u) : StampsOnly s u := by
  unfold StampsOnly at *
  rw [k, h]

end Sys2Proof.Machine
end

section
/-! PROOFS. The queues, the line indications and the port commands of the Cell Switch (Chapter 2). -/

namespace Sys2Proof.Machine

-- Declarations are elaborated one after another: in a text of this length the threads of many at once would not fit the memory limit.
set_option Elab.async false

@[simp] theorem PerLine.set_get {α : Type} (p : PerLine α) (l : Line) : p.set l (p.get l) = p := by cases l <;> rfl

@[simp] theorem PerBus.set_get {α : Type} (p : PerBus α) (b : Bus) : p.set b (p.get b) = p := by cases b <;> rfl

@[simp] theorem PerPort.set_get {α : Type} (p : PerPort α) (q : Port) : p.set q (p.get q) = p := by cases q <;> rfl

@[simp] theorem Line.other_ne (l : Line) : l.other ≠ l := by cases l <;> decide

/-! ## Indications (R36, R37) -/

theorem LineStatus.setInd_of_latched {st : LineStatus} {i : Indication} (h : st.latched i = true) : st.setInd i = st := by
  cases i <;> simp only [LineStatus.latched] at h <;> simp only [LineStatus.setInd] <;> rw [← h]

@[simp] theorem LineStatus.latched_setInd (st : LineStatus) (i : Indication) : (st.setInd i).latched i = true := by cases i <;> rfl

/-- R36: a latched indication is the change of one line's status. -/
theorem latchInd_cs (l : Line) (i : Indication) (s : State) :
    (latchInd l i s).cs = { s.cs with status := s.cs.status.set l ((s.cs.status.get l).setInd i) } := by
  unfold latchInd
  split
  next h => rw [LineStatus.setInd_of_latched h, PerLine.set_get]
  next => rfl

theorem latchInd_status_same (l : Line) (i : Indication) (s : State) :
    (latchInd l i s).cs.status.get l = (s.cs.status.get l).setInd i := by simp [latchInd_cs]

theorem latchInd_queues (l : Line) (i : Indication) (s : State) : (latchInd l i s).cs.queues = s.cs.queues := by rw [latchInd_cs]

theorem deliveryQueue_latchInd (b : Bool) (l : Line) (i : Indication) (s : State) :
    deliveryQueue b (latchInd l i s) = deliveryQueue b s := by simp [deliveryQueue, latchInd_cs]

/-! ## Outgoing queues (R24) -/

section
variable {l : Line} {c : Cell} {s : State}

theorem joinQueue_signal_room (hc : c.classOf = .signal) (h : (s.cs.queues.get l).signal.length < 16) :
    joinQueue l c s = s.updQueues l fun q => { q with signal := q.signal ++ [c] } := by
  simp only [joinQueue, hc]; exact if_pos h

theorem joinQueue_signal_full (hc : c.classOf = .signal) (h : 16 ≤ (s.cs.queues.get l).signal.length) :
    joinQueue l c s = latchInd l .signalLost s := by
  simp only [joinQueue, hc]; exact if_neg (Nat.not_lt.mpr h)

theorem joinQueue_data_room (hc : c.classOf = .data) (hnew : (s.cs.queues.get l).data.any (coalescesReport c) = false)
    (h : (s.cs.queues.get l).data.length < 48) :
    joinQueue l c s = s.updQueues l fun q => { q with data := q.data ++ [c] } := by
  simp only [joinQueue, hc, hnew, Bool.false_eq_true, if_false]; exact if_pos h

theorem joinQueue_data_full (hc : c.classOf = .data) (hnew : (s.cs.queues.get l).data.any (coalescesReport c) = false)
    (h : 48 ≤ (s.cs.queues.get l).data.length) : joinQueue l c s = latchInd l .dataDropped s := by
  simp only [joinQueue, hc, hnew, Bool.false_eq_true, if_false]; exact if_neg (Nat.not_lt.mpr h)

theorem joinQueue_data_report (hc : c.classOf = .data) (hold : (s.cs.queues.get l).data.any (coalescesReport c) = true) :
    joinQueue l c s = s.updQueues l fun q => { q with data := replaceFirst (coalescesReport c) c q.data } := by
  simp only [joinQueue, hc, hold, if_true]

end

theorem updQueues_get (l : Line) (f : OutQueues → OutQueues) (s : State) :
    (s.updQueues l f).cs.queues.get l = f (s.cs.queues.get l) := by simp

/-- A join leaves the other line's queues. -/
theorem joinQueue_other (l : Line) (c : Cell) (s : State) : (joinQueue l c s).cs.queues.get l.other = s.cs.queues.get l.other := by
  unfold joinQueue
  cases c.classOf <;> simp only
  case signal => split <;> simp [latchInd_queues]
  case data =>
    split
    · simp
    · split <;> simp [latchInd_queues]

/-- Settles O14: each outcome of a join by its lemma. -/
theorem outgoingQueues : Obligations.OutgoingQueues := by
  intro l c s
  refine ⟨joinQueue_reports l c s, joinQueue_other l c s, fun hc h => ?_, fun hc h => ?_, fun hc hnone => ?fresh,
    fun a b q hc hq hr ha => ?report⟩
  · rw [joinQueue_signal_room hc h, updQueues_get]
  · rw [joinQueue_signal_full hc h, latchInd_status_same]
    exact ⟨latchInd_queues .., rfl⟩
  case fresh =>
    have hnew : (s.cs.queues.get l).data.any (coalescesReport c) = false := by simpa using hnone
    refine ⟨fun h => ?_, fun h => ?_⟩
    · rw [joinQueue_data_room hc hnew h, updQueues_get]
    · rw [joinQueue_data_full hc hnew h, latchInd_status_same]
      exact ⟨latchInd_queues .., rfl⟩
  case report =>
    rw [joinQueue_data_report hc (by simp [hq, hr]), updQueues_get, hq, replaceFirst_append c ha hr]

/-! ## Delivery queues (R34) -/

@[simp] theorem deliveryQueue_setDeliveryQueue (b : Bool) (q : List Cell) (s : State) :
    deliveryQueue b (setDeliveryQueue b q s) = q := by cases b <;> rfl

@[simp] theorem deliveryQueue_not_setDeliveryQueue (b : Bool) (q : List Cell) (s : State) :
    deliveryQueue (!b) (setDeliveryQueue b q s) = deliveryQueue (!b) s := by cases b <;> rfl

@[simp] theorem deliveryQueue_post (b : Bool) (p : Port) (k : NoticeKind) (d : Bytes) (s : State) :
    deliveryQueue b (post p k d s) = deliveryQueue b s := rfl

section
variable {from? : Option Line} {c : Cell} {s : State} {b : Bool}

theorem deliver_room (hb : b = safetyKind c.kind) (h : (deliveryQueue b s).length < 64) :
    deliver from? c s = if (deliveryQueue b s).isEmpty then
        post (if b then .sp else .cp) .deliveryWaiting [] (setDeliveryQueue b (deliveryQueue b s ++ [c]) s)
      else setDeliveryQueue b (deliveryQueue b s ++ [c]) s := by
  subst hb; exact if_pos h

theorem deliver_full (hb : b = safetyKind c.kind) (h : 64 ≤ (deliveryQueue b s).length) :
    deliver from? c s = match c.classOf with
      | .data => latchArrival from? .deliveryOverflow s
      | _ =>
        if (deliveryQueue b s).any (fun d => d.classOf = .data) then
          latchArrival from? .deliveryOverflow
            (setDeliveryQueue b ((deliveryQueue b s).eraseP (fun d => d.classOf = .data) ++ [c]) s)
        else latchArrival from? .signalLost s := by
  subst hb; exact if_neg (Nat.not_lt.mpr h)

theorem deliver_full_data (hb : b = safetyKind c.kind) (h : 64 ≤ (deliveryQueue b s).length) (hc : c.classOf = .data) :
    deliver from? c s = latchArrival from? .deliveryOverflow s := by
  rw [deliver_full hb h, hc]

theorem deliver_full_other (hb : b = safetyKind c.kind) (h : 64 ≤ (deliveryQueue b s).length) (hc : c.classOf ≠ .data) :
    deliver from? c s = if (deliveryQueue b s).any (fun d => d.classOf = .data) then
        latchArrival from? .deliveryOverflow
          (setDeliveryQueue b ((deliveryQueue b s).eraseP (fun d => d.classOf = .data) ++ [c]) s)
      else latchArrival from? .signalLost s := by
  rw [deliver_full hb h]
  cases hk : c.classOf <;> first | rfl | exact absurd hk hc

end

/-- A delivery leaves the other delivery queue. -/
theorem deliver_other_queue {c : Cell} {b : Bool} (l : Line) (s : State) (hb : b = safetyKind c.kind) :
    deliveryQueue (!b) (deliver (some l) c s) = deliveryQueue (!b) s := by
  obtain h | h := Nat.lt_or_ge (deliveryQueue b s).length 64
  · rw [deliver_room hb h]; split <;> simp
  · rw [deliver_full hb h]
    split
    · exact deliveryQueue_latchInd ..
    · split
      · exact (deliveryQueue_latchInd ..).trans (by simp)
      · exact deliveryQueue_latchInd ..

/-- Settles O15: each outcome of a delivery by its lemma. -/
theorem deliveryQueues : Obligations.DeliveryQueues := by
  intro l c s b hb
  refine ⟨deliver_reports (some l) c s, deliver_other_queue l s hb, fun h => ?_, fun h => ?_, fun h hc => ?_,
    fun x y d h hc hq hd hx => ?_, fun h hc hnone => ?_⟩
  · rw [deliver_room hb h]; split <;> simp
  · rw [deliver_room hb (by simp [h]), h]; rfl
  · rw [deliver_full_data hb h hc]
    exact ⟨deliveryQueue_latchInd .., by simp [latchArrival, latchInd_status_same, LineStatus.setInd]⟩
  · have hany : (deliveryQueue b s).any (fun d => d.classOf = .data) = true := by simp [hq, hd]
    have herase : (deliveryQueue b s).eraseP (fun d => d.classOf = .data) = x ++ y := by
      rw [hq, List.eraseP_append_right _ (by simpa using hx), List.eraseP_cons_of_pos (by simpa using hd)]
    rw [deliver_full_other hb h hc, if_pos hany, herase]
    exact ⟨(deliveryQueue_latchInd ..).trans (deliveryQueue_setDeliveryQueue ..),
      by simp [latchArrival, latchInd_status_same, LineStatus.setInd]⟩
  · have hany : (deliveryQueue b s).any (fun d => d.classOf = .data) = false := by simpa using hnone
    rw [deliver_full_other hb h hc, hany]
    exact ⟨deliveryQueue_latchInd .., by simp [latchArrival, latchInd_status_same, LineStatus.setInd]⟩

/-! ## Events on a line (R31, R33, R36, R39) -/

theorem remoteTick_due {l : Line} {s : State} (h : (s.cs.remote.get l).age = 39) :
    remoteTick l s = if (s.cs.remote.get l).level = .normal then
        s.updCs fun c => { c with remote := c.remote.set l { level := .normal, age := 40 } }
      else sauDerive (s.updCs fun c => { c with remote := c.remote.set l { level := .normal, age := 40 } }) := by
  have hage : satSucc Config.remoteAgeLimit (s.cs.remote.get l).age = Config.remoteAgeLimit := by rw [h]; rfl
  unfold remoteTick
  simp only [hage, if_true, eq_comm (a := SectionLevel.normal)]
  rfl

/-- The level of a line's remote level is NORMAL at the age limit, and the section level follows it. -/
theorem remoteLevelExpiry_due {l : Line} {s : State} (h : (s.cs.remote.get l).age = 39) :
    (remoteLevelExpiry l s).cs.remote = s.cs.remote.set l ({ level := .normal, age := 40 } : Remote)
      ∧ ((s.cs.remote.get l).level ≠ .normal → (remoteLevelExpiry l s).sau.level = levelOf (remoteLevelExpiry l s)) := by
  have hdue : remoteDue s l = true := by simp [remoteDue, h, Config.remoteAgeLimit]
  rw [remoteLevelExpiry, if_pos hdue, remoteTick_due h]
  split
  next hn => exact ⟨rfl, fun hne => absurd hn hne⟩
  next => exact ⟨(sauDerive_effect _).same .remote (by decide), fun _ => sauDerive_derived _⟩

theorem loseCarrier_cs (l : Line) (s : State) : (loseCarrier l s).cs = { s.cs with
    status := s.cs.status.set l ({ s.cs.status.get l with carrier := false, lostThisRound := true, carrierLost := true }) } := by
  rw [loseCarrier, latchInd_cs]
  cases l <;> rfl

theorem loseCarrier_blocks (l : Line) (s : State) : SameBut [.cs, .pi] s (loseCarrier l s) :=
  SameBut.trans (t := s.updStatus l fun st => { st with carrier := false, lostThisRound := true })
    (.of_fields rfl rfl rfl rfl rfl rfl rfl rfl) (latchInd_reports ..).blocks

theorem heldTick_one {l : Line} {s : State} (h : s.cs.held.get l = 1) :
    heldTick l s = { s with cs := { s.cs with held := s.cs.held.set l 0 } } := by
  simp [heldTick, State.updCs, h]

theorem examineQueue_again {l : Line} {s : State} (hhold : (s.cs.holding.get l).holding = true)
    (hperiod : (s.cs.holding.get l).period ≤ 1) (hlow : s.cs.holdParams.low < (s.cs.queues.get l).data.length) :
    examineQueue l s = announceFor l s.cs.holdParams.length
      (setHolding l { holding := true, period := s.cs.holdParams.length } s) := by
  simp [examineQueue, hhold, hperiod, Nat.not_le.mpr hlow]

/-- Settles O16: each event at its brink is the round start's own work on that line. -/
theorem lineEvents : Obligations.LineEvents := by
  refine ⟨fun l s h => ⟨_, rfl, ?remote⟩, fun l s => ⟨_, rfl, ?carrier⟩, fun l s h => ?held, fun l s hhold hperiod hlow => ?hold⟩
  case remote =>
    obtain ⟨hremote, hlevel⟩ := remoteLevelExpiry_due h
    have hframe : AlarmFrame s (remoteLevelExpiry l s) := (due_effect (remoteTick_effect l s)).alarmFrame
    exact ⟨by rw [hremote, PerLine.get_set_same], by rw [hremote, PerLine.get_set_other], hlevel, hframe⟩
  case carrier =>
    rw [loseCarrier_cs]
    exact ⟨by simp, by simp, by simp, loseCarrier_blocks l s, rfl⟩
  case held => exact .of_eq ((if_pos h).trans (heldTick_one h)) (hi := rfl)
  case hold =>
    have hdue : periodDue s l = true := by simp [periodDue, hhold, hperiod, hlow]
    refine .of_eq (t := holdPeriodExpiry l s) ?_
    rw [holdPeriodExpiry, if_pos hdue, examineQueue_again hhold (by omega) hlow]
    rfl

/-! ## CELL_TAKE (R35) -/

theorem doCellTake_right (p : Port) (tag : Byte) (s : State) :
    doCellTake (portSource p) tag [byteOf (flag (!takesSafety p))] s
      = respond (portSource p) tag (takeCell (takesSafety p) s).2 (takeCell (takesSafety p) s).1 := by
  cases p <;> rfl

theorem takeCell_nil {b : Bool} {s : State} (h : deliveryQueue b s = []) : takeCell b s = (s, done [0#8]) := by
  simp only [takeCell, h]; rfl

theorem takeCell_cons {b : Bool} {s : State} {c : Cell} {rest : List Cell} (h : deliveryQueue b s = c :: rest) :
    takeCell b s = (setDeliveryQueue b rest s, done (cellHeader c ++ c.payload ++ [byteOf rest.length])) := by
  simp only [takeCell, h]; rfl

theorem setDeliveryQueue_setDeliveryQueue (b : Bool) (q r : List Cell) (s : State) :
    setDeliveryQueue b r (setDeliveryQueue b q s) = setDeliveryQueue b r s := by cases b <;> rfl

/-- Settles O17: the port that takes from a queue holds the right, and the queue emptied tells of the next delivery. -/
theorem cellTake : Obligations.CellTake := by
  intro p tag s i hi
  subst hi
  refine ⟨fun h => .of_eq ?_, fun c rest h => ⟨.of_eq ?_, deliveryQueue_setDeliveryQueue .., fun _ l d hd => ?next⟩⟩
  · rw [doCellTake_right, takeCell_nil h]
  · rw [doCellTake_right, takeCell_cons h]
  case next =>
    rw [deliver_room hd.symm (by simp), deliveryQueue_setDeliveryQueue, setDeliveryQueue_setDeliveryQueue]
    cases p <;> rfl

/-! ## The Cell Switch's own commands (R29, R32, R38, R41) -/

theorem lineOf_lineByte (l : Line) : lineOf (lineByte l).toNat = some l := by cases l <;> rfl

theorem lineOf_none {n : Nat} (h : 1 < n) : lineOf n = none := by
  match n, h with
  | n + 2, _ => rfl

theorem dropSetOf_byte {n : Nat} (h : n ≤ 7) : (dropSetOf n).byte = n := by
  interval_cases n <;> decide

theorem clamp_eq {lo hi : Nat} (h : lo ≤ hi) (n : Nat) : clamp lo hi n = min hi (max lo n) := by
  unfold clamp; split <;> (try split) <;> omega

theorem byteAt_lt (p : Bytes) (i : Nat) : byteAt p i < 256 := (p.getD i 0).isLt

theorem byteOf_byteAt (p : Bytes) (i : Nat) : byteOf (byteAt p i) = p.getD i 0 := by simp [byteOf, byteAt]

theorem command_cp_sized {n : Nat} {tag : Byte} {params : Bytes} {body : Body} {s : State} (hlen : params.length = n)
    (hn : n ≤ 32 := by decide) :
    command .cp tag params (cpOnly .cp) (sized n params body) s = respond .cp tag (body s).2 (body s).1 :=
  command_sized rfl hlen hn

theorem doFilterSet_good {tag : Byte} {p : Bytes} {s : State} {l : Line} (hlen : p.length = 2) (hl : lineOf (byteAt p 0) = some l)
    (hset : byteAt p 1 ≤ 7) : doFilterSet .cp tag p s = respond .cp tag (done [p.getD 1 0])
      (s.updCs fun c => { c with dropSet := c.dropSet.set l (dropSetOf (byteAt p 1)) }) := by
  rw [doFilterSet, command_cp_sized hlen]
  simp only [hl, Nat.not_lt.mpr hset, if_false, dropSetOf_byte hset]
  rw [← byteOf_byteAt]; rfl

theorem doFilterSet_bad {tag : Byte} {p : Bytes} {s : State} (hlen : p.length = 2) (hbad : 1 < byteAt p 0 ∨ 7 < byteAt p 1) :
    doFilterSet .cp tag p s = respond .cp tag (refused .badParam) s := by
  rw [doFilterSet, command_cp_sized hlen]
  obtain h | h := hbad
  · simp only [lineOf_none h]; rfl
  · split
    · simp only [h, if_true]; rfl
    · rfl

theorem doHoldConfigure_good {tag : Byte} {p : Bytes} {s : State} (hlen : p.length = 3) :
    doHoldConfigure .cp tag p s = respond .cp tag
      (done [byteOf (clampHold p).high, byteOf (clampHold p).low, byteOf (clampHold p).length])
      (s.updCs fun c => { c with holdParams := clampHold p }) := by
  rw [doHoldConfigure, command_cp_sized hlen]; rfl

theorem linesOf_lineByte (l : Line) : linesOf (byteAt [lineByte l] 0) = some [l] := by cases l <;> rfl

theorem doLineStatusRead_line (src : Source) (tag : Byte) (l : Line) (s : State) :
    doLineStatusRead src tag [lineByte l] s
      = respond src tag (done (pageOf src 0 (lineStatusBytes l s))) (clearLine l s) := by
  rw [doLineStatusRead, paged_of_length (n := 1) rfl, command_right _ _ [lineByte l] _ _ (Nat.le_add_left 1 31)]
  simp only [linesOf_lineByte, if_true, List.flatMap_cons, List.flatMap_nil, List.append_nil]
  rfl

section
variable {tag : Byte} {dst : Nat} {text : Bytes} {s : State}

/-- R41: the parameters of a MESSAGE_SEND that name a destination at all. -/
theorem doMessageSend_eq (hdst : dst < 256) (htext : text.length ≤ 24) :
    doMessageSend .cp tag (byteOf dst :: text) s
      = if 63 ≤ dst ∨ ownDest dst s = true then respond .cp tag (refused .badParam) s
        else if s.cs.supplyMode = .reserve then respond .cp tag (refused .wrongState) s
        else if 48 ≤ (s.cs.queues.get (onwardLine dst s)).data.length then respond .cp tag (refused .noCells) s
        else respond .cp tag (done (u8 ((sendTo kMessage dst text s).cs.queues.get (onwardLine dst s)).data.length))
          (sendTo kMessage dst text s) := by
  have hlen : (byteOf dst :: text).length ≤ 32 := by simp; omega
  have hguard : (decide ((byteOf dst :: text).length = 0) || decide (63 ≤ dst) || ownDest dst s
      || decide (25 < (byteOf dst :: text).length)) = true ↔ 63 ≤ dst ∨ ownDest dst s = true := by
    simp; omega
  rw [doMessageSend, show cpOnly .cp = true from rfl, command_right _ _ _ _ _ hlen]
  simp only [byteAt_byteOf hdst, hguard, Config.dataCapacity]
  split
  · rfl
  · split
    · rfl
    · split <;> rfl

theorem doMessageSend_bad (hdst : dst < 256) (hown : dst = s.tb.address ∨ dst = 63 ∨ (s.tb.role = .head ∧ dst = 0))
    (htext : text.length ≤ 24) :
    doMessageSend .cp tag (byteOf dst :: text) s = respond .cp tag (refused .badParam) s := by
  rw [doMessageSend_eq hdst htext, if_pos]
  by_cases h : 63 ≤ dst
  · exact .inl h
  · refine .inr ((ownDest_iff dst s).mpr ⟨by omega, ?_⟩)
    obtain haddr | h63 | hhead := hown
    · exact .inl haddr
    · omega
    · exact .inr hhead

/-- R23, R24: a cell built here for another node, with room in its queue and none to replace. -/
theorem sendTo_message (hown : ownDest dst s = false) (hmode : s.cs.supplyMode ≠ .reserve) (hstaging : s.cs.staging = none)
    (hroom : (s.cs.queues.get (onwardLine dst s)).data.length < 48) :
    sendTo kMessage dst text s
      = s.updQueues (onwardLine dst s) fun q => { q with data := q.data ++ [buildCell kMessage dst text s] } := by
  have hnew : (s.cs.queues.get (onwardLine dst s)).data.any (coalescesReport (buildCell kMessage dst text s)) = false := by
    simp [coalescesReport, buildCell, kMessage, kReadingReport]
  rw [sendTo_of_not_ownDest hown, placeCell, hstaging]
  simp only [joinLocal, reserveRefuses, hmode, decide_false, Bool.false_and, Bool.false_eq_true, if_false]
  exact joinQueue_data_room rfl hnew hroom

end

/-- Settles O18: each command by its equation. -/
theorem cellSwitchCommands : Obligations.CellSwitchCommands := by
  refine ⟨fun tag p s hlen => ⟨fun l hl hset => ?filter, fun hbad => .of_eq (doFilterSet_bad hlen hbad)⟩, fun tag p s hlen => ?hold,
    fun src tag l s => ?status, fun tag dst text s hdst hown htext => .of_eq (doMessageSend_bad hdst hown htext),
    fun tag dst text s l hdst haddr hhead htext hmode hl hroom hstaging => ?send⟩
  case filter =>
    have hline : lineOf (byteAt p 0) = some l := by rw [byteAt, hl]; exact lineOf_lineByte l
    exact ⟨_, .of_eq (doFilterSet_good hlen hline hset), rfl, rfl, rfl⟩
  case hold =>
    refine ⟨_, .of_eq (doHoldConfigure_good hlen), clamp_eq (by decide) _, ?_, ?_⟩
    · exact (clamp_eq (Nat.zero_le _) _).trans (by rw [Nat.zero_max]; rfl)
    · have := byteAt_lt p 2
      exact (clamp_eq (by decide) _).trans (by omega)
  case status =>
    exact ⟨_, _, .of_eq (doLineStatusRead_line src tag l s), rfl, by simp [clearLine], by simp [clearLine]⟩
  case send =>
    subst hl
    have hown : ownDest dst s = false := by
      rw [Bool.eq_false_iff]
      intro h
      obtain ⟨-, h | ⟨hrole, h⟩⟩ := (ownDest_iff dst s).mp h
      · exact haddr h
      · exact hhead hrole h
    have hsend := sendTo_message (text := text) hown hmode hstaging hroom
    refine ⟨_, .of_eq ?_, _, hsend, rfl, rfl, rfl, rfl, rfl, rfl, rfl⟩
    rw [doMessageSend_eq (by omega) htext, if_neg (by simp [hown]; omega), if_neg hmode, if_neg (by omega), hsend, updQueues_get]
    simp [u8, byteOf]

end Sys2Proof.Machine
end

section
/-! PROOFS. The steps of a Sensor Bus Master and the classing of completions (Chapter 3). -/

namespace Sys2Proof.Machine

-- Declarations are elaborated one after another: in a text of this length the threads of many at once would not fit the memory limit.
set_option Elab.async false

/-! ## Updates of one bus -/

theorem State.bus_eq (s : State) (b : Bus) : s.bus b = s.sbm.get b := rfl

theorem updBus_congr {b : Bus} {f g : BusMaster → BusMaster} {s : State} (h : f (s.bus b) = g (s.bus b)) :
    s.updBus b f = s.updBus b g := by
  simp only [State.updBus, ← State.bus_eq, h]

theorem updBus_of_eq {b : Bus} {f : BusMaster → BusMaster} {s : State} (h : f (s.bus b) = s.bus b) : s.updBus b f = s := by
  have hget : f (s.sbm.get b) = s.sbm.get b := h
  rw [State.updBus, hget, PerBus.set_get]

/-! ## The master's steps (R42 to R48) -/

section
variable {m : BusMaster} {p : Poll} {rest : List Poll}

theorem BusMaster.start_of_poll (hidle : m.state = .idle) (hroom : m.started < 16) (hlist : m.list = p :: rest) (high : Bool) :
    m.start high = if high then
        { m with linesHigh := true, state := .polling, list := rest, inFlight := some { poll := p, discarded := false },
                 started := m.started + 1, holdTotal := 0, owesStop := false, wire := m.startSigns p.addr }
      else { m with linesHigh := false }.enterReleasing := by
  simp [BusMaster.start, hidle, hroom, Config.startsPerRound, hlist]

theorem BusMaster.start_of_none (h : m.state ≠ .idle ∨ 16 ≤ m.started ∨ m.list = []) (high : Bool) : m.start high = m := by
  unfold BusMaster.start
  split
  next hgo =>
    simp only [Config.startsPerRound, Bool.and_eq_true, decide_eq_true_eq] at hgo
    obtain h | h | h := h
    · exact absurd hgo.1 h
    · exact absurd (of_decide_eq_true hgo.2) (Nat.not_lt.mpr h)
    · rw [h]
  next => rfl

theorem BusMaster.sampleRelease_releasing (h : m.state = .releasing) (high : Bool) :
    m.sampleRelease high = if high then m.toIdle else { m with linesHigh := false } := if_pos h

theorem BusMaster.letGo_eq (m : BusMaster) :
    m.letGo = { m with owesStop := false, wire := m.wire ++ if m.owesStop then [.stop] else [] } := by
  unfold BusMaster.letGo
  split
  next => rfl
  next h => rw [List.append_nil, ← Bool.eq_false_iff.mpr h]

end

theorem holdClock_within {b : Bus} {n : Nat} {s : State} (hflight : (s.bus b).inFlight.isSome = true)
    (hhold : (s.bus b).holdTotal + n ≤ 16) :
    holdClock b n s = s.updBus b fun m => { m with holdTotal := m.holdTotal + n } := by
  obtain ⟨hnone, -⟩ | ⟨-, -, heq⟩ | ⟨-, hpast, -⟩ := holdClock_cases b n s
  · simp [hnone] at hflight
  · rw [heq]; exact updBus_congr rfl
  · omega

/-! ## BUS_RELEASE (R48) -/

theorem doBusRelease_bus (q : Port) (tag : Byte) (b : Bus) (high : Bool) (s : State) :
    doBusRelease (portSource q) tag [busByte b] high s
      = respond (portSource q) tag (releaseBus b high s).2 (releaseBus b high s).1 := by
  cases q <;> cases b <;> rfl

theorem releaseBus_failed {b : Bus} {s : State} (h : (s.bus b).state = .failed) (high : Bool) :
    releaseBus b high s = (s.updBus b fun m => { m with
        state := if high then .idle else .releasing, release := if high then 0 else 1, linesHigh := high },
      done [if high then 0#8 else 2#8]) := by
  have hupd : (s.updBus b fun m => m.enterReleasing.sampleRelease high) = s.updBus b fun m => { m with
      state := if high then .idle else .releasing, release := if high then 0 else 1, linesHigh := high } :=
    updBus_congr (by cases high <;> rfl)
  have hstate : ((s.updBus b fun m => { m with
      state := if high then .idle else .releasing, release := if high then 0 else 1, linesHigh := high }).bus b).state
        = if high then .idle else .releasing := by rw [bus_updBus]
  simp only [releaseBus, h, hupd, hstate]
  cases high <;> rfl

theorem releaseBus_releasing {b : Bus} {s : State} (h : (s.bus b).state = .releasing) (high : Bool) :
    releaseBus b high s = (s, done [2#8, byteOf (s.bus b).release]) := by
  simp only [releaseBus, h]; rfl

theorem releaseBus_other {b : Bus} {s : State} (h : (s.bus b).state = .idle ∨ (s.bus b).state = .polling) (high : Bool) :
    releaseBus b high s = (s, refused .wrongState) := by
  obtain h | h := h <;> simp only [releaseBus, h] <;> rfl

/-- Settles O19: each row is one step of the master. -/
theorem busMasterSteps : Obligations.BusMasterSteps := by
  refine ⟨fun b p rest s hidle hroom hlist => ⟨.of_eq (t := s.updBus b fun m => m.start true) (updBus_congr ?up),
      .of_eq (t := s.updBus b fun m => m.start false) (updBus_congr ?down)⟩,
    fun b high s h => .of_eq (t := s.updBus b fun m => m.start high) (updBus_of_eq (BusMaster.start_of_none h high)),
    fun b s h => ⟨.of_eq (t := s.updBus b fun m => m.sampleRelease true) (updBus_congr ?_),
      .of_eq (t := s.updBus b fun m => m.sampleRelease false) (updBus_congr ?_)⟩,
    fun b s => .of_eq (t := s.updBus b BusMaster.letGo) (updBus_congr (BusMaster.letGo_eq _)),
    fun b n s hflight hhold => .of_eq (t := holdClock b n s) (holdClock_within hflight hhold), fun b q tag high s i hi => ?release⟩
  case up => exact BusMaster.start_of_poll hidle hroom hlist true
  case down => exact BusMaster.start_of_poll hidle hroom hlist false
  · exact BusMaster.sampleRelease_releasing h true
  · exact BusMaster.sampleRelease_releasing h false
  case release =>
    subst hi
    refine ⟨fun h => .of_eq ?_, fun h => .of_eq ?_, fun h => .of_eq ?_⟩
    · rw [doBusRelease_bus, releaseBus_failed h]
    · rw [doBusRelease_bus, releaseBus_releasing h]
    · rw [doBusRelease_bus, releaseBus_other h]

/-! ## The classes of a completion (R44, R55, R56) -/

/-- Settles O21: the rows of the class in their order. -/
theorem completionClasses : Obligations.CompletionClasses := by
  intro k hold status high low check c hc
  have hword : 256 * high.toNat + low.toNat = high.toNat * 256 + low.toNat := by omega
  subst hc
  refine ⟨rfl, fun h => if_pos h, fun h hsum => ?_, fun h hsum => ?_⟩
  · simp [classify, Nat.not_lt.mpr h, replyGood, hsum]
  have hrow : classify k (.bytes status high low check hold)
      = if status.toNat / 32 != k then .miss .kindMismatch
        else if bitOf status.toNat 3 then .miss .headFault
        else if bitOf status.toNat 4 then .warmup
        else if k = refugeKindCode then .refuge (refugeFieldsOf high.toNat low.toNat)
        else if 4095 < high.toNat * 256 + low.toNat then .miss .range
        else .reading (high.toNat * 256 + low.toNat) (bitOf status.toNat 2) := by
    simp [classify, Nat.not_lt.mpr h, replyGood, hsum]
  rw [hrow, hword]
  refine ⟨fun hk => by simp [hk], fun hk hf => by simp [hk, hf], fun hk hf hw => by simp [hk, hf, hw], fun hk hf hw => ⟨?_, ?_, ?_⟩⟩
  · intro h6 hraw
    simp [hk, hf, hw, refugeKindCode, h6, hraw]
  · intro h6 hraw
    simp [hk, hf, hw, refugeKindCode, h6, Nat.not_lt.mpr hraw]
  · intro h6
    simp [hk, hf, hw, refugeKindCode, h6, refugeFieldsOf]

end Sys2Proof.Machine
end

section
/-! PROOFS. Calibration and the level of a channel (4.3, 4.4). -/

namespace Sys2Proof.Machine

-- Declarations are elaborated one after another: in a text of this length the threads of many at once would not fit the memory limit.
set_option Elab.async false

/-! ## Calibration (R67) -/

/-- R67 step 3: the rounded product lies within half a unit, and a tie goes away from zero. -/
theorem roundProduct_nearest (p : Int) :
    2 * (256 * roundProduct p - p).natAbs ≤ 256
      ∧ (2 * (256 * roundProduct p - p).natAbs = 256 → p.natAbs ≤ 256 * (roundProduct p).natAbs) := by
  unfold roundProduct
  simp only
  split <;> omega

section
variable (k : GasKind) (z g raw : Nat) (sat : Bool)

theorem calibrate_value : (calibrate k z g raw sat).value = min (roundProduct (((raw : Int) - z) * g)).toNat k.maximum := rfl

theorem calibrate_overRange : (calibrate k z g raw sat).overRange = true
    ↔ (k.maximum : Int) < roundProduct (((raw : Int) - z) * g) ∨ raw = 4095 ∨ sat = true := by
  simp [calibrate, or_assoc]

theorem calibrate_underRange : (calibrate k z g raw sat).underRange = true ↔ roundProduct (((raw : Int) - z) * g) < 0 := by
  simp [calibrate]

end

/-! ## A reading (R66, R72) -/

section
variable (c : Channel) (f : ChannelConfig) (mobile : Bool) (v : Calibrated) (sat : Bool) (now : Stamp)

/-- R66: what a reading leaves of a record, whatever its status before. -/
theorem Channel.read_eq : c.read f mobile v sat now = { c with
    status := .ok, warmup := false, miss := 0, stamp := some now, last := some v.value
    history := (c.read f mobile v sat now).history, average := (c.read f mobile v sat now).average
    rise := (c.read f mobile v sat now).rise, overRange := v.overRange, underRange := v.underRange, saturated := sat
    confirm := (c.read f mobile v sat now).confirm, level := (c.read f mobile v sat now).level } := by
  unfold Channel.read Channel.returned
  split
  next h => simp only [h]
  next => rfl

theorem Channel.read_confirm : (c.read f mobile v sat now).confirm = confirmAfter f v (if c.status = .ok then c.confirm else 0) := by
  simp only [Channel.read, Channel.returned]
  split <;> rfl

theorem Channel.read_level : (c.read f mobile v sat now).level
    = levelAfter f (capTarget mobile (raiseTarget f (c.read f mobile v sat now).confirm
        ((c.read f mobile v sat now).average.getD 0) (c.read f mobile v sat now).rise))
      ((c.read f mobile v sat now).average.getD 0) (c.read f mobile v sat now).rise c.level := by
  simp only [Channel.read, Channel.returned]
  split <;> rfl

/-- R72: the first reading in FAULT or NO_DATA starts from an empty history. -/
theorem Channel.read_of_not_ok (h : c.status ≠ .ok) : (c.read f mobile v sat now).history = [v.value]
    ∧ (c.read f mobile v sat now).average = averageOf f.window [v.value] ∧ (c.read f mobile v sat now).rise = 0 := by
  simp only [Channel.read, Channel.returned, if_neg h]
  exact ⟨rfl, rfl, rfl⟩

end

/-! ## The fall of a level (R71) -/

section
variable {c : ChannelConfig} {target : GasLevel} {avg : Nat} {rise : Int}

theorem levelBelow_code (l : GasLevel) : (levelBelow l).code = l.code - 1 := by cases l <;> rfl

theorem GasLevel.code_inj {a b : GasLevel} (h : a.code = b.code) : a = b := by
  cases a <;> cases b <;> first | rfl | simp [GasLevel.code] at h

theorem GasLevel.code_le (l : GasLevel) : l.code ≤ 3 := by cases l <;> decide

theorem fallsFrom_lt {l : GasLevel} (h : fallsFrom c target avg rise l = true) : target.code < l.code := by
  simp only [fallsFrom, Bool.and_eq_true, decide_eq_true_eq] at h
  exact h.1.1

/-- A fall ends between the target and the level it starts from. -/
theorem fallLevel_between (n : Nat) {l : GasLevel} (h : target.code ≤ l.code) :
    target.code ≤ (fallLevel c target avg rise n l).code ∧ (fallLevel c target avg rise n l).code ≤ l.code := by
  induction n generalizing l with
  | zero => exact ⟨h, Nat.le_refl _⟩
  | succ n ih =>
    unfold fallLevel
    split
    next hf =>
      have hlt := fallsFrom_lt hf
      have hbelow := levelBelow_code l
      have := ih (l := levelBelow l) (by omega)
      omega
    next => exact ⟨h, Nat.le_refl _⟩

theorem fallLevel_succ (n : Nat) (l : GasLevel) : fallLevel c target avg rise (n + 1) l
    = if fallsFrom c target avg rise l then fallLevel c target avg rise n (levelBelow l) else l := rfl

/-- As many steps as the level's code are enough. -/
theorem fallLevel_of_code_le {n : Nat} {l : GasLevel} (h : l.code ≤ n) :
    fallLevel c target avg rise (n + 1) l = fallLevel c target avg rise n l := by
  induction n generalizing l with
  | zero =>
    have hno : fallsFrom c target avg rise l = false := by
      rw [Bool.eq_false_iff]; intro hf; have := fallsFrom_lt hf; omega
    simp [fallLevel, hno]
  | succ n ih =>
    rw [fallLevel_succ (n + 1) l, fallLevel_succ n l]
    split
    · exact ih (by rw [levelBelow_code]; omega)
    · rfl

theorem levelAfter_of_le {l : GasLevel} (h : l.code ≤ target.code) : levelAfter c target avg rise l = target := by
  unfold levelAfter
  split
  · rfl
  next hnot =>
    have heq : l = target := GasLevel.code_inj (by omega)
    have hno : fallsFrom c target avg rise l = false := by
      rw [Bool.eq_false_iff]; intro hf; have := fallsFrom_lt hf; omega
    rw [fallLevel, hno]
    exact heq

theorem levelAfter_of_lt {l : GasLevel} (h : target.code < l.code) :
    levelAfter c target avg rise l = fallLevel c target avg rise 3 l := if_neg (by omega)

theorem levelAfter_target_le (l : GasLevel) : target.code ≤ (levelAfter c target avg rise l).code := by
  obtain h | h := Nat.lt_or_ge target.code l.code
  · rw [levelAfter_of_lt h]; exact (fallLevel_between 3 (by omega)).1
  · rw [levelAfter_of_le h]

theorem levelAfter_stays {l : GasLevel} (h : target.code < l.code) (hno : fallsFrom c target avg rise l = false) :
    levelAfter c target avg rise l = l := by
  rw [levelAfter_of_lt h, fallLevel, hno]; rfl

/-- A level that falls is judged again from the level below. -/
theorem levelAfter_falls {l : GasLevel} (hf : fallsFrom c target avg rise l = true) :
    levelAfter c target avg rise l = levelAfter c target avg rise (levelBelow l) := by
  have h := fallsFrom_lt hf
  have hbelow := levelBelow_code l
  have htop := GasLevel.code_le l
  rw [levelAfter_of_lt h, fallLevel, if_pos hf]
  obtain hd | hd := Nat.lt_or_ge target.code (levelBelow l).code
  · rw [levelAfter_of_lt hd, fallLevel_of_code_le (n := 2) (by omega)]
  · rw [levelAfter_of_le hd]
    exact GasLevel.code_inj (by have := fallLevel_between (c := c) (target := target) (avg := avg) (rise := rise) 2 (l := levelBelow l) (by omega); omega)

theorem fallsFrom_eq_true {l : GasLevel} (h : target.code < l.code) (hbetter : c.kind.better avg (c.clearOf l) = true)
    (hrise : ¬(l = .alarm ∧ riseCondition c.riseLimit rise = true)) : fallsFrom c target avg rise l = true := by
  simp only [fallsFrom, h, hbetter, decide_true, Bool.true_and, Bool.not_eq_true', Bool.and_eq_false_imp, decide_eq_true_eq]
  exact fun hl => Bool.eq_false_iff.mpr fun hr => hrise ⟨hl, hr⟩

end

theorem atTrip_iff (c : ChannelConfig) (v : Calibrated) :
    atTrip c v = true ↔ c.kind.worseEq v.value c.tripSet = true ∨ (v.overRange = true ∧ c.kind.rising = true)
      ∨ (v.underRange = true ∧ c.kind.rising = false) := by
  simp [atTrip, or_assoc]

theorem capTarget_eq (mobile : Bool) (t : GasLevel) : capTarget mobile t = if mobile = true ∧ t = .trip then .alarm else t := by
  simp [capTarget]

/-- Settles O24: calibration by the rounded product, a reading by its stages, the level by its fall one step at a time. -/
theorem calibrationAndLevel : Obligations.CalibrationAndLevel := by
  refine ⟨fun k z g raw sat p e hp he => ?calibration, fun c r f mobile v sat now hr => ?reading, fun c target l avg rise => ?level⟩
  case calibration =>
    subst hp he
    have hnear := roundProduct_nearest (((raw : Int) - z) * g)
    have hvalue := calibrate_value k z g raw sat
    exact ⟨hnear.1, hnear.2, by omega, by omega, by omega, by omega, calibrate_overRange k z g raw sat, calibrate_underRange k z g raw sat⟩
  case reading =>
    subst hr
    refine ⟨Channel.read_eq c f mobile v sat now, Channel.read_of_not_ok c f mobile v sat now, Channel.read_confirm c f mobile v sat now,
      fun avg target havg htarget => ?_⟩
    rw [Channel.read_level, havg, htarget, capTarget_eq]; rfl
  case level =>
    refine ⟨levelAfter_target_le l, levelAfter_of_le, fun h => ?_, fun h hb => levelAfter_stays h ?_,
      fun h hl hr => levelAfter_stays h ?_, fun h hb hr => ⟨levelBelow l, ?_, levelAfter_falls (fallsFrom_eq_true h hb hr)⟩,
      fun v n => ⟨atTrip_iff c v, ?_, fun h => if_pos h, fun h hw => ?_, fun h hw hr => ?_⟩⟩
    · rw [levelAfter_of_lt h]; exact (fallLevel_between 3 (by omega)).2
    · simp [fallsFrom, hb]
    · simp [fallsFrom, hl, hr]
    · rw [levelBelow_code]; omega
    · simp only [confirmAfter, satSucc_eq_min]
    · rw [raiseTarget, if_neg (by omega), if_pos (by simpa using hw)]
    · rw [raiseTarget, if_neg (by omega), if_neg (by simp [hw, hr])]

end Sys2Proof.Machine
end

section
/-! PROOFS. The commands and the timers of the Gas Channel Unit (4.2, 4.5, 4.8). -/

namespace Sys2Proof.Machine

-- Declarations are elaborated one after another: in a text of this length the threads of many at once would not fit the memory limit.
set_option Elab.async false

/-! ## A channel record committed (R75 to R78) -/

section
variable (i : Fin 16) (c : Channel) (s : State)

theorem channel_of_channels {s t : State} {i : Fin 16} {c : Channel} (h : t.gcu.channels = vset s.gcu.channels i c) :
    t.channel i = c ∧ OtherChannels i s t :=
  ⟨by rw [State.channel, h, vset_get_same], fun j hj => by rw [State.channel, h, vset_get_of_ne _ _ _ _ hj]; rfl⟩

/-- What follows the replacement of a channel record moves no channel record. -/
theorem commitChannel_channels : (commitChannel i c s).gcu.channels = vset s.gcu.channels i c :=
  (handOn_effect i (s.channel i) (s.setChannel i c)).channels

theorem commitChannel_channel : (commitChannel i c s).channel i = c := (channel_of_channels (commitChannel_channels i c s)).1

theorem commitChannel_others : OtherChannels i s (commitChannel i c s) := (channel_of_channels (commitChannel_channels i c s)).2

theorem commitChannel_stampsOnly : StampsOnly s (commitChannel i c s) := by
  rw [commitChannel_eq]
  exact StampsOnly.trans (t := s.setChannel i c) (.of_tb rfl) (handOn_effect i (s.channel i) (s.setChannel i c)).stampsOnly

theorem commitChannel_sbm : (commitChannel i c s).sbm = s.sbm := (handOn_effect i (s.channel i) (s.setChannel i c)).block .sbm

theorem commitChannel_pending : (commitChannel i c s).pending = s.pending := (handOn_effect i (s.channel i) (s.setChannel i c)).pending

end

theorem bus_of_sbm {s t : State} (h : t.sbm = s.sbm) (b : Bus) : t.bus b = s.bus b := by
  unfold State.bus; rw [h]

/-! ## Polls dropped (R54) -/

section
variable (x : Target) (s : State)

theorem dropPolls_list (b : Bus) : ((dropPolls x s).bus b).list = (s.bus b).list.filter fun q => q.target != x := by
  cases b <;> rfl

theorem dropPolls_blocks : SameBut [.sbm] s (dropPolls x s) := by
  intro b hb
  cases b <;> first | rfl | simp at hb

theorem dropPolls_channel (i : Fin 16) : (dropPolls x s).channel i = s.channel i := rfl

end

/-! ## CHANNEL_CONFIGURE (R59 to R62) -/

theorem u8_append (n : Nat) (p : Bytes) : u8 n ++ p = byteOf n :: p := rfl

theorem channelOf_val (i : Fin 16) : channelOf i.val = some i := dif_pos i.isLt

section
variable {tag : Byte} {p : Bytes} {i : Fin 16} {s : State}

theorem doChannelConfigure_eq (hlen : p.length = 32) :
    doChannelConfigure .sp tag p s = respond .sp tag (configureChannel p s).2 (configureChannel p s).1 := by
  rw [doChannelConfigure, show spOnly .sp = true from rfl, command_sized rfl hlen]

theorem configureChannel_none (hi : byteAt p 0 = i.val) (h : configOf i p = none) :
    configureChannel p s = (s, refused .badParam) := by
  simp only [configureChannel, hi, channelOf_val, h, refuse]

theorem configureChannel_some {f : ChannelConfig} (hi : byteAt p 0 = i.val) (h : configOf i p = some f) :
    configureChannel p s = if (i = 15 ∧ f.kind ≠ .ch4) ∨ ordered f = false then (s, refused .badParam)
      else if coverageLost s i ((s.channel i).configured f) then (s, refused .coverage)
      else (commitChannel i ((s.channel i).configured f) (dropPolls (.chan i) s), done (byteOf i.val :: configBytes f)) := by
  have hguard : ((i = mobile && f.kind != .ch4) || !ordered f) = true ↔ (i = 15 ∧ f.kind ≠ .ch4) ∨ ordered f = false := by
    simp [show mobile = 15 from rfl]
  simp only [configureChannel, hi, channelOf_val, h, hguard, refuse, u8_append]

theorem busOf_eq_none {n : Nat} : busOf n = none ↔ n = 0 ∨ 2 < n := by
  match n with
  | 0 => decide
  | 1 => decide
  | 2 => decide
  | n + 3 => simp [busOf]

theorem bindingOf_eq_none {n : Nat} : bindingOf n = none ↔ 4 < n := by
  unfold bindingOf
  split
  · simp; omega
  · split <;> simp <;> omega

theorem alertAtOf_eq_none {n : Nat} : alertAtOf n = none ↔ 3 < n := by
  match n with
  | 0 => decide
  | 1 => decide
  | 2 => decide
  | 3 => decide
  | n + 4 => simp [alertAtOf]

theorem evacuateAtOf_eq_none {n : Nat} : evacuateAtOf n = none ↔ 2 < n := by
  match n with
  | 0 => decide
  | 1 => decide
  | 2 => decide
  | n + 3 => simp [evacuateAtOf]

theorem alertAtOf_code {n : Nat} {a : AlertAt} (h : alertAtOf n = some a) : a.code = n := by
  unfold alertAtOf at h; split at h <;> simp at h <;> subst h <;> rfl

theorem evacuateAtOf_code {n : Nat} {a : EvacuateAt} (h : evacuateAtOf n = some a) : a.code = n := by
  unfold evacuateAtOf at h; split at h <;> simp at h <;> subst h <;> rfl

theorem bindingOf_some {n : Nat} {b : Option (Fin 4)} (h : bindingOf n = some b) :
    (∀ r : Fin 4, b = some r ↔ n = r.val + 1) ∧ (b = none ↔ n = 0) := by
  unfold bindingOf at h
  split at h
  next h0 =>
    obtain rfl := Option.some.inj h
    exact ⟨fun r => by simp; omega, by simp [h0]⟩
  next h0 =>
    split at h
    next hlt =>
      obtain rfl := Option.some.inj h
      exact ⟨fun r => by rw [Option.some.injEq, Fin.ext_iff]; simp only; omega, by simp [h0]⟩
    next => cases h

theorem busOf_some {n : Nat} {b : Bus} (h : busOf n = some b) : n = (busByte b).toNat := by
  unfold busOf at h; split at h <;> simp at h <;> subst h <;> rfl

theorem wordAt_lt (p : Bytes) (k : Nat) : wordAt p k < 65536 := by
  have h1 := byteAt_lt p k
  have h2 := byteAt_lt p (k + 1)
  unfold wordAt; omega

/-- R59, R61: the poll fields that a CHANNEL_CONFIGURE gives; channel 15 has none, and the outer option is BAD_PARAM. -/
def pollOf (i : Fin 16) (p : Bytes) : Option (Option PollConfig) :=
  if i = mobile then some none
  else match busOf (byteAt p 2) with
    | some b => if 1 ≤ byteAt p 3 && byteAt p 3 ≤ 127 then some (some (pollConfigOf p b)) else none
    | none => none

theorem pollOf_eq_none : pollOf i p = none ↔ i ≠ 15 ∧ (byteAt p 2 = 0 ∨ 2 < byteAt p 2 ∨ byteAt p 3 = 0 ∨ 127 < byteAt p 3) := by
  unfold pollOf
  split
  next h => simp [show i = 15 from h]
  next h =>
    have hi : i ≠ 15 := h
    split
    next b hb =>
      have hn : ¬(byteAt p 2 = 0 ∨ 2 < byteAt p 2) := by rw [← busOf_eq_none, hb]; exact Option.some_ne_none b
      split
      next hg =>
        simp only [Bool.and_eq_true, decide_eq_true_eq] at hg
        simp only [reduceCtorEq, false_iff]
        omega
      next hg =>
        simp only [Bool.and_eq_true, decide_eq_true_eq] at hg
        exact iff_of_true rfl ⟨hi, by omega⟩
    next hb => exact iff_of_true rfl ⟨hi, by have := busOf_eq_none.mp hb; omega⟩

/-- R59, R61: the configuration, once its coded fields are read. -/
def configWith (i : Fin 16) (p : Bytes) (kind : GasKind) (binding : Option (Fin 4)) (alertAt : AlertAt) (evacuateAt : EvacuateAt)
    (poll : Option PollConfig) : ChannelConfig :=
  { kind := kind, poll := poll, window := roundWindow (byteAt p 8), report := byteAt p 11
    adviseSet := min kind.maximum (wordAt p 12), alarmSet := min kind.maximum (wordAt p 14)
    tripSet := min kind.maximum (wordAt p 16), adviseClear := min kind.maximum (wordAt p 18)
    alarmClear := min kind.maximum (wordAt p 20), tripClear := min kind.maximum (wordAt p 22)
    confirm := clamp 1 4 (byteAt p 24)
    failSafe := i != mobile && bitOf (byteAt p 26) 0, vote := i != mobile && bitOf (byteAt p 26) 1
    riseLimit := min 1000 (wordAt p 27), binding := binding, alertAt := alertAt, evacuateAt := evacuateAt }

theorem configOf_eq : configOf i p = (gasKindOf (byteAt p 1)).bind fun kind => (bindingOf (byteAt p 29)).bind fun binding =>
    (alertAtOf (byteAt p 30)).bind fun alertAt => (evacuateAtOf (byteAt p 31)).bind fun evacuateAt =>
      (pollOf i p).map (configWith i p kind binding alertAt evacuateAt) := by
  unfold configOf
  cases gasKindOf (byteAt p 1) with
  | none => rfl
  | some kind =>
    cases bindingOf (byteAt p 29) with
    | none => rfl
    | some binding =>
      cases alertAtOf (byteAt p 30) with
      | none => rfl
      | some alertAt =>
        cases evacuateAtOf (byteAt p 31) with
        | none => rfl
        | some evacuateAt =>
          show (match pollOf i p with
            | some poll => some (configWith i p kind binding alertAt evacuateAt poll)
            | none => none) = (pollOf i p).map (configWith i p kind binding alertAt evacuateAt)
          cases pollOf i p <;> rfl

theorem configOf_eq_none : configOf i p = none ↔ gasKindOf (byteAt p 1) = none ∨ 4 < byteAt p 29 ∨ 3 < byteAt p 30
    ∨ 2 < byteAt p 31 ∨ (i ≠ 15 ∧ (byteAt p 2 = 0 ∨ 2 < byteAt p 2 ∨ byteAt p 3 = 0 ∨ 127 < byteAt p 3)) := by
  rw [← bindingOf_eq_none, ← alertAtOf_eq_none, ← evacuateAtOf_eq_none, ← pollOf_eq_none, configOf_eq]
  cases gasKindOf (byteAt p 1) <;> cases bindingOf (byteAt p 29) <;> cases alertAtOf (byteAt p 30)
    <;> cases evacuateAtOf (byteAt p 31) <;> cases pollOf i p <;> simp

theorem configOf_eq_some {f : ChannelConfig} (h : configOf i p = some f) : ∃ kind binding alertAt evacuateAt poll,
    gasKindOf (byteAt p 1) = some kind ∧ bindingOf (byteAt p 29) = some binding ∧ alertAtOf (byteAt p 30) = some alertAt
      ∧ evacuateAtOf (byteAt p 31) = some evacuateAt ∧ pollOf i p = some poll
      ∧ f = configWith i p kind binding alertAt evacuateAt poll := by
  rw [configOf_eq] at h
  simp only [Option.bind_eq_some_iff, Option.map_eq_some_iff] at h
  obtain ⟨kind, hk, binding, hb, alertAt, ha, evacuateAt, he, poll, hp, hf⟩ := h
  exact ⟨kind, binding, alertAt, evacuateAt, poll, hk, hb, ha, he, hp, hf.symm⟩

/-- R59: the poll fields of a bus channel, each in its range. -/
theorem pollOf_some {x : Option PollConfig} (h : pollOf i p = some x) : (i = 15 → x = none)
    ∧ (i ≠ 15 → ∃ c : PollConfig, x = some c ∧ busByte c.bus = p.getD 2 0 ∧ c.addr = byteAt p 3
        ∧ c.zero = min 4095 (wordAt p 4) ∧ c.span = max 1 (wordAt p 6) ∧ c.interval = min 64 (max 1 (byteAt p 9))
        ∧ c.phase = byteAt p 10 % c.interval ∧ c.missLimit = if byteAt p 25 = 0 then 3 else min 8 (byteAt p 25)) := by
  unfold pollOf at h
  split at h
  next hi => exact ⟨fun _ => (Option.some.inj h).symm, fun hn => absurd hi hn⟩
  next hi =>
    refine ⟨fun h15 => absurd h15 hi, fun _ => ?_⟩
    split at h
    next b hb =>
      split at h
      next =>
        have hbyte : busByte b = p.getD 2 0 := BitVec.eq_of_toNat_eq (busOf_some hb).symm
        have hspan := wordAt_lt p 6
        refine ⟨pollConfigOf p b, (Option.some.inj h).symm, hbyte, rfl, ?_, ?_, clamp_eq (by decide) _, rfl, rfl⟩
        · exact (clamp_eq (Nat.zero_le _) _).trans (by rw [Nat.zero_max])
        · exact (clamp_eq (by decide) _).trans (by omega)
      next => cases h
    next => cases h

end

/-- Settles O25: the refusals in their order, the record committed, and the fields of the configuration in their ranges. -/
theorem channelConfigured : Obligations.ChannelConfigured := by
  intro tag p i s hlen hi
  have hdo := doChannelConfigure_eq (tag := tag) (s := s) hlen
  refine ⟨fun f hf hord hkind hcov => ?accepted, fun hf => .of_eq ?_, fun f hf hord => .of_eq ?_, fun f hf h15 hkind => .of_eq ?_,
    fun f hf hord hkind hovr hcov => .of_eq ?_, configOf_eq_none, fun f k hf hk => ?fields⟩
  case accepted =>
    have hcov' : coverageLost s i ((s.channel i).configured f) = false := by
      obtain h | h := hcov
      · simp [coverageLost, h]
      · exact h
    have hgood : ¬((i = 15 ∧ f.kind ≠ .ch4) ∨ ordered f = false) := by
      rintro (⟨h15, hk⟩ | h)
      · exact hk (hkind h15)
      · simp [hord] at h
    have hbody := configureChannel_some (s := s) hi hf
    rw [if_neg hgood, hcov', if_neg Bool.false_ne_true] at hbody
    rw [hbody] at hdo
    dsimp only at hdo
    have hdrop := dropPolls_blocks (.chan i) s
    exact ⟨_, .of_eq hdo, commitChannel_channel i ((s.channel i).configured f) _, fun j hj => (commitChannel_others i _ (dropPolls (.chan i) s) j hj).trans (dropPolls_channel ..),
      fun b => (congrArg BusMaster.list (bus_of_sbm (commitChannel_sbm ..) b)).trans (dropPolls_list (.chan i) s b),
      (StampsOnly.of_tb hdrop.tb_eq).trans (commitChannel_stampsOnly i ((s.channel i).configured f) (dropPolls (.chan i) s)),
      (commitChannel_pending ..).trans hdrop.pending_eq⟩
  · rw [hdo, configureChannel_none hi hf]
  · rw [hdo, configureChannel_some hi hf, if_pos (.inr hord)]
  · rw [hdo, configureChannel_some hi hf, if_pos (.inl ⟨h15, hkind⟩)]
  · rw [hdo, configureChannel_some hi hf, if_neg, if_pos hcov]
    rintro (⟨h15, hk⟩ | h)
    · exact hk (hkind h15)
    · simp [hord] at h
  case fields =>
    obtain ⟨kind, binding, alertAt, evacuateAt, poll, hkind, hbinding, halert, hevac, hpoll, rfl⟩ := configOf_eq_some hf
    subst hk
    obtain ⟨hsome, hnone⟩ := bindingOf_some hbinding
    obtain ⟨hp15, hpbus⟩ := pollOf_some hpoll
    refine ⟨hkind, rfl, rfl, clamp_eq (by decide) _, rfl, rfl, rfl, rfl, rfl, rfl, rfl, hsome, hnone, alertAtOf_code halert,
      evacuateAtOf_code hevac, fun h15 => ⟨hp15 h15, ?_, ?_⟩, fun hn => ⟨?_, ?_, hpbus hn⟩⟩
    all_goals simp [configWith, show mobile = 15 from rfl, *]

end Sys2Proof.Machine
end

section
/-! PROOFS. Enabling, disabling and reading a channel, and its timers (4.2, 4.5, 4.8). -/

namespace Sys2Proof.Machine

-- Declarations are elaborated one after another: in a text of this length the threads of many at once would not fit the memory limit.
set_option Elab.async false

/-! ## CHANNEL_ENABLE, CHANNEL_DISABLE, CHANNEL_READ (R63 to R65) -/

theorem command_sp_sized {n : Nat} {tag : Byte} {params : Bytes} {body : Body} {s : State} (hlen : params.length = n)
    (hn : n ≤ 32 := by decide) :
    command .sp tag params (spOnly .sp) (sized n params body) s = respond .sp tag (body s).2 (body s).1 :=
  command_sized rfl hlen hn

section
variable (tag : Byte) (i : Fin 16) (s : State)

theorem doChannelEnable_index :
    doChannelEnable .sp tag [byteOf i.val] s = respond .sp tag (enableChannel i s).2 (enableChannel i s).1 := by
  rw [doChannelEnable, command_sp_sized (n := 1) rfl]
  simp only [byteAt_byteOf (show i.val < 256 by omega), channelOf_val]

theorem doChannelDisable_index :
    doChannelDisable .sp tag [byteOf i.val] s = respond .sp tag (disableChannel i s).2 (disableChannel i s).1 := by
  rw [doChannelDisable, command_sp_sized (n := 1) rfl]
  simp only [byteAt_byteOf (show i.val < 256 by omega), channelOf_val]

theorem doChannelRead_index (src : Source) : doChannelRead src tag [byteOf i.val] s
    = respond src tag (done (pageOf src 0 (channelBytes i s))) (s.setChannel i { s.channel i with skipped := false }) := by
  rw [doChannelRead, paged_of_length (n := 1) rfl, command_right _ _ [byteOf i.val] _ _ (Nat.le_add_left 1 31)]
  simp only [byteAt_byteOf (show i.val < 256 by omega), channelOf_val, if_true]

end

section
variable {i : Fin 16} {s : State}

theorem enableChannel_unconfigured (h : (s.channel i).cfg = none) : enableChannel i s = (s, refused .wrongState) := by
  simp [enableChannel, h, refuse]

theorem disableChannel_unconfigured (h : (s.channel i).cfg = none) : disableChannel i s = (s, refused .wrongState) := by
  simp [disableChannel, h, refuse]

theorem enableChannel_enabled (hc : (s.channel i).cfg.isSome = true) (he : (s.channel i).enabled = true) :
    enableChannel i s = (s, done []) := by
  simp [enableChannel, Option.isNone_eq_false_iff.mpr hc, he]

theorem disableChannel_disabled (hc : (s.channel i).cfg.isSome = true) (he : (s.channel i).enabled = false) :
    disableChannel i s = (s, done []) := by
  simp [disableChannel, Option.isNone_eq_false_iff.mpr hc, he]

theorem enableChannel_disabled (hc : (s.channel i).cfg.isSome = true) (he : (s.channel i).enabled = false) :
    enableChannel i s = (commitChannel i { s.channel i with
      enabled := true, report := 0, silence := if i = 15 then 0 else (s.channel i).silence } s, done []) := by
  simp only [enableChannel, Option.isNone_eq_false_iff.mpr hc, he, Bool.false_eq_true, if_false]
  rfl

theorem disableChannel_enabled (hc : (s.channel i).cfg.isSome = true) (he : (s.channel i).enabled = true)
    (hovr : s.tu.ovr.state = .none) :
    disableChannel i s = (commitChannel i { s.channel i with enabled := false } (dropPolls (.chan i) s), done []) := by
  have hcov : coverageLost s i { s.channel i with enabled := false } = false := by simp [coverageLost, hovr]
  simp only [disableChannel, Option.isNone_eq_false_iff.mpr hc, he, hcov, Bool.false_eq_true, if_false, Bool.not_true]

end

/-- A record committed once the channel's polls are dropped. -/
theorem commitDropped_frame (i : Fin 16) (c : Channel) (s : State) :
    (commitChannel i c (dropPolls (.chan i) s)).channel i = c ∧ OtherChannels i s (commitChannel i c (dropPolls (.chan i) s))
      ∧ StampsOnly s (commitChannel i c (dropPolls (.chan i) s)) :=
  ⟨commitChannel_channel i c _, fun j hj => (commitChannel_others i c (dropPolls (.chan i) s) j hj).trans (dropPolls_channel ..),
    (StampsOnly.of_tb (dropPolls_blocks (.chan i) s).tb_eq).trans (commitChannel_stampsOnly i c _)⟩

/-- Settles O26: each command by the case its channel is in. -/
theorem channelEnabledAndRead : Obligations.ChannelEnabledAndRead := by
  intro tag i s
  refine ⟨fun hc => ⟨.of_eq ?_, .of_eq ?_⟩, fun hc he => ⟨.of_eq ?_, fun hovr => ?disable⟩, fun hc he => ⟨.of_eq ?_, ?enable⟩,
    fun src => ⟨_, .of_eq (doChannelRead_index tag i s src)⟩⟩
  · rw [doChannelEnable_index, enableChannel_unconfigured hc]
  · rw [doChannelDisable_index, disableChannel_unconfigured hc]
  · rw [doChannelEnable_index, enableChannel_enabled hc he]
  case disable =>
    have hdo := doChannelDisable_index tag i s
    rw [disableChannel_enabled hc he hovr] at hdo
    dsimp only at hdo
    exact ⟨_, .of_eq hdo, commitDropped_frame i _ s⟩
  · rw [doChannelDisable_index, disableChannel_disabled hc he]
  case enable =>
    have hdo := doChannelEnable_index tag i s
    rw [enableChannel_disabled hc he] at hdo
    dsimp only at hdo
    exact ⟨_, .of_eq hdo, commitChannel_channel i _ s, commitChannel_others i _ s, commitChannel_stampsOnly i _ s, commitChannel_sbm i _ s⟩

/-! ## Silence of channel 15 (R74) -/

theorem mobileSilenceTimeout_due {s : State} (hc : (s.channel 15).cfg.isSome = true) (he : (s.channel 15).enabled = true)
    (hok : (s.channel 15).status = .ok) (hage : 99 ≤ (s.channel 15).silence) :
    mobileSilenceTimeout s = commitChannel 15 (s.channel 15).silenced s := by
  have hruns : silenceRuns s = true := by simp [silenceRuns, show mobile = 15 from rfl, hc, he, hok]
  have hdue : silenceDue s = true := by
    simp [silenceDue, hruns, show mobile = 15 from rfl, Config.mobileSilenceLimit]; omega
  rw [mobileSilenceTimeout, if_pos hdue, mobileTick, if_pos hdue]
  rfl

/-! ## Cells for node 0 (R23, R24) -/

section
variable {s : State} {kind : Nat} {payload : Bytes}

/-- R23: what a junction other than node 0 sends to node 0 goes OUTBYE. -/
theorem onwardLine_zero (hrole : s.tb.role = .junction) (haddr : s.tb.address ≠ 0) : onwardLine 0 s = .outbye := by
  simp [onwardLine, State.isHead, hrole, Nat.pos_of_ne_zero haddr]

theorem ownDest_zero (hrole : s.tb.role = .junction) (haddr : s.tb.address ≠ 0) : ownDest 0 s = false := by
  simp [ownDest, State.isHead, hrole, haddr.symm]

theorem sendTo_zero (hrole : s.tb.role = .junction) (haddr : s.tb.address ≠ 0) (hstaging : s.cs.staging = none) :
    sendTo kind 0 payload s = joinLocal .outbye (buildCell kind 0 payload s) s := by
  rw [sendTo_of_not_ownDest (ownDest_zero hrole haddr), onwardLine_zero hrole haddr, placeCell, hstaging]

theorem joinLocal_of_not_reserve {l : Line} {c : Cell} (h : s.cs.supplyMode ≠ .reserve) : joinLocal l c s = joinQueue l c s := by
  simp [joinLocal, reserveRefuses, h]

end

/-! ## Reports that fall due (R79) -/

section
variable {i : Fin 16} {f : ChannelConfig} {s : State}

theorem reportDue_of (hf : (s.channel i).cfg = some f) (he : (s.channel i).enabled = true) (hr : f.report ≠ 0)
    (hdue : f.report ≤ (s.channel i).report + 1) : reportDue s i = true := by
  simp [reportDue, hf, he, hr, hdue]

theorem readingReportDue_due (h : reportDue s i = true) : readingReportDue i s
    = if reportWithheld s i then s.setChannel i { s.channel i with report := 0 }
      else sendTo kReadingReport 0 (readingReportBytes i s) (s.setChannel i { s.channel i with report := 0 }) := by
  rw [readingReportDue, if_pos h, reportTick, if_pos h]

theorem reportWithheld_reserve (hf : (s.channel i).cfg = some f) (hm : s.gcu.supplyMode = .reserve)
    (hk : f.kind = .co2 ∨ f.kind = .airflow) : reportWithheld s i = true := by
  simp [reportWithheld, hf, hm, hk]

theorem reportWithheld_of_not_reserve (hm : s.gcu.supplyMode ≠ .reserve) : reportWithheld s i = false := by
  unfold reportWithheld
  split
  · simp [hm]
  · rfl

end

/-- Settles O27: the silence by the record it commits, the report by the cell it sends. -/
theorem channelTimers : Obligations.ChannelTimers := by
  refine ⟨fun s hc he hok hage => ?silence, fun i f s hf he hr hdue => ?report⟩
  case silence =>
    exact ⟨_, .of_eq (mobileSilenceTimeout_due hc he hok hage), commitChannel_others _ _ s, commitChannel_stampsOnly ..,
      commitChannel_sbm .., commitChannel_channel ..⟩
  case report =>
    have hdo := readingReportDue_due (reportDue_of hf he hr hdue)
    refine ⟨fun hm hk => .of_eq (hdo.trans (if_pos (reportWithheld_reserve hf hm hk))), fun hm hcs hrole haddr hstaging => ?_⟩
    refine ⟨buildCell kReadingReport 0 (readingReportBytes i s) (s.setChannel i { s.channel i with report := 0 }),
      .of_eq (hdo.trans ?_), rfl, rfl, rfl, rfl, rfl, rfl, rfl⟩
    rw [reportWithheld_of_not_reserve hm, if_neg Bool.false_ne_true]
    have hsend (t : State) (htb : t.tb = s.tb) (ht : t.cs = s.cs) : sendTo kReadingReport 0 (readingReportBytes i s) t
        = joinQueue .outbye (buildCell kReadingReport 0 (readingReportBytes i s) t) t :=
      (sendTo_zero (htb ▸ hrole) (htb ▸ haddr) (ht ▸ hstaging)).trans (joinLocal_of_not_reserve (ht ▸ hcs))
    exact hsend _ rfl rfl

end Sys2Proof.Machine
end

section
/-! PROOFS. The commands of the Trip Unit and the Supply Monitor (Chapter 5). -/

namespace Sys2Proof.Machine

-- Declarations are elaborated one after another: in a text of this length the threads of many at once would not fit the memory limit.
set_option Elab.async false

/-! ## TRIP_MANUAL (R85) -/

theorem find_gasVote_some {s : State} {i : Fin 16} (h : allChannels.find? (gasVote s) = some i) :
    gasVote s i = true ∧ ∀ j : Fin 16, j < i → gasVote s j = false := by
  have hall : allChannels = List.finRange 16 := by decide
  rw [hall] at h
  obtain ⟨hi, as, bs, hsplit, has⟩ := List.find?_eq_some_iff_append.mp h
  refine ⟨hi, fun j hj => ?_⟩
  have hsorted : (List.finRange 16).Pairwise (· < ·) := List.pairwise_lt_finRange 16
  rw [hsplit] at hsorted
  have hmem : j ∈ as ++ i :: bs := hsplit ▸ List.mem_finRange j
  obtain hm | hm := List.mem_append.mp hmem
  · simpa using has j hm
  · obtain rfl | hm := List.mem_cons.mp hm
    · exact absurd hj (lt_irrefl _)
    · have := List.rel_of_pairwise_cons (List.pairwise_append.mp hsorted).2.1 hm
      exact absurd hj (lt_asymm this)

theorem find_gasVote_none {s : State} (h : allChannels.find? (gasVote s) = none) (i : Fin 16) : gasVote s i = false := by
  have := List.find?_eq_none.mp h i (by revert i; decide)
  simpa using this

theorem captureTrip_reports (manual rst : Bool) (s : State) : Reports ((s.updTb fun t => { t with tripStamp := some s.now }).updTu
    fun u => { u with
      latch := true
      record := some { capture := { persisting := s.tu.causes, manual := manual, restart := rst }
                       channel := allChannels.find? (gasVote s), later := .empty } }) (captureTrip manual rst s) := by
  rw [captureTrip_eq]
  exact (postBoth_reports ..).trans (sendTripReport_reports ..)

theorem recordOf_some {s : State} {r : TripRecord} (h : s.tu.record = some r) : recordOf s = r := by simp [recordOf, h]

/-- MANUAL alone, as a cause that may join the later causes. -/
abbrev manualCause : TripCauses := { persisting := .empty, manual := true, restart := false }

theorem manualCause_minus (c : TripCauses) : manualCause.minus c = { persisting := .empty, manual := !c.manual, restart := false } := by
  simp [TripCauses.minus, CauseSet.minus, CauseSet.empty]

theorem union_manualCause (c : TripCauses) : c.union manualCause = { c with manual := true } := by
  simp [TripCauses.union, CauseSet.union, CauseSet.empty]

theorem addLater_manual_recorded {s : State} (h : (recordOf s).capture.manual = true ∨ (recordOf s).later.manual = true) :
    addLater manualCause s = s := by
  have hm : ((recordOf s).capture.union (recordOf s).later).manual = true := by simpa [TripCauses.union] using h
  simp [addLater, manualCause_minus, hm, TripCauses.any, CauseSet.any, CauseSet.empty]

theorem addLater_manual_new {s : State} (hc : (recordOf s).capture.manual = false) (hl : (recordOf s).later.manual = false) :
    addLater manualCause s = postTrip (s.updTu fun u => { u with
      record := some { recordOf s with later := { (recordOf s).later with manual := true } } }) := by
  have hm : ((recordOf s).capture.union (recordOf s).later).manual = false := by simp [TripCauses.union, hc, hl]
  have hany : manualCause.any = true := by decide
  simp only [addLater, manualCause_minus, hm, Bool.not_false, hany, if_true, union_manualCause]

theorem tripManual_latched {s : State} (h : s.tu.latch = true) : tripManual s = addLater manualCause s := if_pos h

theorem tripManual_clear {s : State} (h : s.tu.latch = false) : tripManual s = captureTrip true false s :=
  if_neg (by simp [h])

/-- TRIP_MANUAL leaves the latch set. -/
theorem tripManual_latch (s : State) : (tripManual s).tu.latch = true := by
  cases h : s.tu.latch
  · rw [tripManual_clear h, (captureTrip_reports ..).tu]; rfl
  · rw [tripManual_latched h]
    unfold addLater
    simp only
    split
    · exact h
    · exact h

/-- Settles O28: by the latch, and by whether MANUAL is recorded. -/
theorem tripManualCommand : Obligations.TripManual := by
  intro src tag s hsrc
  have hdo : doTripManual src tag [] s = respond src tag
      (done (uFlag (tripManual s).tu.latch ++ tripRecordBytes (tripManual s))) (tripManual s) := by
    rw [doTripManual, command_sized (n := 0) (by simp [spSurface, hsrc]) rfl]
  refine ⟨_, _, .of_eq hdo, by simp [State.tripOut, tripManual_latch], fun h => ?clear, fun r h hr hm => ?recorded, fun r h hr hc hl => ?later⟩
  case clear =>
    rw [tripManual_clear h]
    exact ⟨_, captureTrip_reports true false s, rfl, rfl, fun i hi => find_gasVote_some hi, find_gasVote_none⟩
  case recorded =>
    rw [tripManual_latched h]
    exact addLater_manual_recorded (by rwa [recordOf_some hr])
  case later =>
    have hrec := recordOf_some hr
    rw [tripManual_latched h, addLater_manual_new (by rwa [hrec]) (by rwa [hrec]), hrec]
    exact postBoth_reports ..

/-! ## TRIP_RESET (R86) -/

theorem CauseSet.any_eq_false {c : CauseSet} (h : c = .empty) : c.any = false := by rw [h]; rfl

theorem CauseSet.any_eq_true {c : CauseSet} (h : c ≠ .empty) : c.any = true := by
  rw [← Bool.not_eq_false]
  intro hany
  obtain ⟨g, f, su, sp⟩ := c
  simp only [CauseSet.any, Bool.or_eq_false_iff] at hany
  obtain ⟨⟨⟨rfl, rfl⟩, rfl⟩, rfl⟩ := hany
  exact h rfl

theorem doTripReset_eq (tag : Byte) (s : State) : doTripReset .sp tag [] s =
    if s.tu.latch = false then respond .sp tag (done []) s
    else if s.tu.causes.any then respond .sp tag (refusedWith .stillActive (u8 s.tu.causes.byte)) s
    else respond .sp tag (done []) (tripReset s) := by
  rw [doTripReset, command_sp_sized (n := 0) rfl]
  cases s.tu.latch
  · rfl
  · cases h : s.tu.causes.any <;> simp

/-- The TRIP notice, written with the record and the stamp it carries. -/
theorem postTrip_eq {s : State} {r : TripRecord} {x : Option Stamp} {latch : Bool} (hl : s.tu.latch = latch) (hr : recordOf s = r)
    (hx : s.tb.tripStamp = x) : postTrip s = postBoth .trip
      (u8 (128 * flag latch + r.capture.byte) ++ u8 r.later.byte ++ opt8 (r.channel.map Fin.val) ++ stampBytes x) s := by
  rw [postTrip, hl, hr, hx]

theorem recordOf_of_tu {s t : State} (h : t.tu.record = s.tu.record) : recordOf t = recordOf s := by rw [recordOf, h]; rfl

/-- R86: the latch cleared, before its reports. -/
def unlatched (s : State) : State := s.updTu fun u => { u with latch := false }

/-- R86: the report of a reset, written with the record and the stamp it carries. -/
theorem sendTripReport_unlatched {s : State} (hc : s.tu.causes = .empty) :
    sendTripReport 2 (unlatched s)
      = sendTo 33 0 (u8 6 ++ stampBytes s.tb.tripStamp ++ u8 (recordOf s).capture.byte ++ u8 (recordOf s).later.byte
          ++ opt8 ((recordOf s).channel.map Fin.val) ++ u8 0 ++ u8 s.tu.supply.mode.code)
          { s with tu := { s.tu with latch := false } } := by
  rw [sendTripReport, recordOf_of_tu (s := s) rfl, unlatched, State.updTu_tu, State.updTu_tb, hc]
  rfl

theorem tripReset_eq (s : State) : tripReset s = ((postTrip (sendTripReport 2 (unlatched s))).updTu fun u => { u with
    record := none }).updTb fun t => { t with tripStamp := none } := rfl

/-- R86: the two reports of a reset carry the record and the stamp as they stood. -/
theorem postTrip_unlatched {s : State} (hc : s.tu.causes = .empty) : postTrip (sendTripReport 2 (unlatched s))
    = postBoth .trip (u8 (recordOf s).capture.byte ++ u8 (recordOf s).later.byte ++ opt8 ((recordOf s).channel.map Fin.val)
        ++ stampBytes s.tb.tripStamp)
      (sendTo 33 0 (u8 6 ++ stampBytes s.tb.tripStamp ++ u8 (recordOf s).capture.byte ++ u8 (recordOf s).later.byte
          ++ opt8 ((recordOf s).channel.map Fin.val) ++ u8 0 ++ u8 s.tu.supply.mode.code)
        { s with tu := { s.tu with latch := false } }) := by
  have hrep := sendTripReport_reports 2 (unlatched s)
  have htu : (sendTripReport 2 (unlatched s)).tu = { s.tu with latch := false } := hrep.tu
  have htb : (sendTripReport 2 (unlatched s)).tb = s.tb := hrep.tb
  rw [postTrip_eq (latch := false) (r := recordOf s) (x := s.tb.tripStamp) (by rw [htu]) (recordOf_of_tu (by rw [htu])) (by rw [htb]),
    sendTripReport_unlatched hc]
  simp only [flag, Bool.false_eq_true, if_false, Nat.mul_zero, Nat.zero_add]

theorem tripReset_tripOut (s : State) : (tripReset s).tripOut = true := by
  have hlatch : (sendTripReport 2 (unlatched s)).tu.latch = false := by rw [(sendTripReport_reports 2 (unlatched s)).tu]; rfl
  exact congrArg Bool.not hlatch

/-- Settles O29: the three outcomes of the reset, the last with its reports written out. -/
theorem tripResetCommand : Obligations.TripReset := by
  intro tag s
  have hdo := doTripReset_eq tag s
  refine ⟨fun hl => .of_eq (hdo.trans (if_pos hl)), fun hl hc => .of_eq (hdo.trans ?still), fun hl hc => ?reset, fun src hsrc => ?denied⟩
  case still => rw [if_neg (by simp [hl]), if_pos (CauseSet.any_eq_true hc)]; rfl
  case reset =>
    rw [if_neg (by simp [hl]), if_neg (by simp [CauseSet.any_eq_false hc])] at hdo
    exact ⟨recordOf s, _, tripReset s, rfl, postTrip_unlatched hc, tripReset_eq s, tripReset_tripOut s, .of_eq hdo⟩
  case denied => exact goes_denied (decide_eq_false hsrc) (Nat.zero_le _)

/-! ## OVERRIDE_REQUEST (R92) -/

section
variable {tag : Byte} {p : Bytes} {s : State} {set : BitVec 16}

theorem doOverrideRequest_eq (hlen : p.length = 4) (hset : set = BitVec.ofNat 16 (wordAt p 0)) : doOverrideRequest .sp tag p s =
    if set = 0#16 then respond .sp tag (refused .badParam) s
    else if s.tu.ovr.state ≠ .none then respond .sp tag (refused .busy) s
    else if s.sau.level = .evacuate then respond .sp tag (refused .wrongState) s
    else if requestUncovers set s then respond .sp tag (refused .coverage) s
    else respond .sp tag (accepted []) (requestOverride set (clamp 20 12000 (wordAt p 2)) s) := by
  rw [doOverrideRequest, command_sp_sized hlen, ← hset]
  simp only [refuse, bne_iff_ne]
  split
  · rfl
  · split
    · rfl
    · split
      · rfl
      · split <;> rfl

theorem requestUncovers_eq_true (h : ∀ c : Fin 16, uncoveredVoter set c (s.channel c) = false) : requestUncovers set s = true := by
  simp [requestUncovers, h]

theorem requestUncovers_eq_false {c : Fin 16} (h : uncoveredVoter set c (s.channel c) = true) : requestUncovers set s = false := by
  have hmem (c : Fin 16) : c ∈ allChannels := by revert c; decide
  simp only [requestUncovers, Bool.not_eq_false', List.any_eq_true]
  exact ⟨c, hmem c, h⟩

end

theorem reportOverride_reports (before : OverrideState) (s : State) : Reports s (reportOverride before s) :=
  (postBoth_reports ..).trans (sendTo_reports ..)

/-- Settles O31: the cases of the request in their order. -/
theorem overrideRequested : Obligations.OverrideRequested := by
  intro tag p s set i hlen hset hi
  subst hi
  have hdo := doOverrideRequest_eq (tag := tag) (s := s) hlen hset
  refine ⟨fun h0 => .of_eq (hdo.trans (if_pos h0)), fun h0 hbusy => .of_eq (hdo.trans ?_), fun h0 hnone hevac => .of_eq (hdo.trans ?_),
    fun h0 hnone hevac hcov => .of_eq (hdo.trans ?_), fun c h0 hnone hevac hc => ?pending⟩
  · rw [if_neg h0, if_pos hbusy]
  · rw [if_neg h0, if_neg (not_not.mpr hnone), if_pos hevac]
  · rw [if_neg h0, if_neg (not_not.mpr hnone), if_neg hevac, if_pos (requestUncovers_eq_true hcov)]
  case pending =>
    rw [if_neg h0, if_neg (not_not.mpr hnone), if_neg hevac, requestUncovers_eq_false hc, if_neg Bool.false_ne_true,
      clamp_eq (by decide)] at hdo
    exact ⟨_, .of_eq hdo, reportOverride_reports ..⟩

/-! ## The Supply Monitor (R98 to R100) -/

theorem SupplyMonitor.sample_eq (m : SupplyMonitor) (mains : Bool) (battery : Nat) : m.sample mains battery = { m with
    lastMains := mains, lastBattery := battery
    absentRun := if mains then 0 else min 255 (m.absentRun + 1)
    presentRun := if mains then min 255 (m.presentRun + 1) else 0
    lowRun := if m.mode ≠ .mains ∧ battery < m.enter then min 255 (m.lowRun + 1) else 0
    highRun := if m.mode ≠ .mains ∧ m.leave ≤ battery ∧ mains = false then min 255 (m.highRun + 1) else 0 } := by
  simp only [SupplyMonitor.sample, satSucc_eq_min, Bool.and_eq_true, bne_iff_ne, decide_eq_true_eq, Bool.not_eq_true', and_assoc]

theorem doSupplyConfigure_eq {tag : Byte} {p : Bytes} (s : State) (hlen : p.length = 4) : ∃ d, doSupplyConfigure .sp tag p s
    = respond .sp tag (done d) (s.updTu fun u => { u with supply := u.supply.configure p }) := by
  rw [doSupplyConfigure, command_sp_sized hlen]
  exact ⟨_, rfl⟩

/-- R99: what follows the new mode in the Supply Monitor keeps it: the causes are derived and the mode is told. -/
theorem supplyChange_frame (m : SupplyMode) (s : State) :
    (supplyChange m s).tu.supply = s.tu.supply.enterMode m ∧ ModesAlike (supplyChange m s)
      ∧ (supplyChange m s).tu.causes = computeCauses (supplyChange m s) := by
  rw [supplyChange_eq]
  have hpost (d : Bytes) (t : State) : Effect tripping [] t (tuRecompute (postBoth .supplyChange d t)) :=
    (postBoth_effect ..).mono.trans (tuRecompute_effect _)
  have htold (d : Bytes) (t : State) (ht : t.tu.supply = s.tu.supply.enterMode m) :
      (tuRecompute (postBoth .supplyChange d t)).tu.supply = s.tu.supply.enterMode m := ((hpost d t).same .supply (by decide)).trans ht
  refine ⟨((tellMode_effect m _).same .supply (by decide)).trans (htold _ _ rfl), tellMode_modes ?_, ?_⟩
  · rw [htold _ _ rfl]; rfl
  · exact (tellMode_effect m _).keeps .tripDerived (by simp) (tuRecompute_derived _)

theorem supplyModeChange_some {mains : Bool} {battery : Nat} {m : SupplyMode} {s : State}
    (h : (s.tu.supply.sample mains battery).change = some m) : supplyModeChange mains battery s
      = supplyChange m (s.updTu fun u => { u with supply := u.supply.sample mains battery }) := by
  rw [supplyModeChange, if_pos (by rw [h]; rfl), supplySample]
  simp only [State.updTu_tu, h]

/-- Settles O33: the sample and the table of the modes as they are defined, the change by what it leaves. -/
theorem supplyModeChanges : Obligations.SupplyModeChanges := by
  refine ⟨fun mains battery m s h => ?change, fun m mains battery => m.sample_eq mains battery, fun m => ?table, fun tag p s hlen => ?configure⟩
  case change =>
    obtain ⟨hsupply, ⟨hcs, hgcu, hctu, hsau, hone, htwo⟩, hcauses⟩ :=
      supplyChange_frame m (s.updTu fun u => { u with supply := u.supply.sample mains battery })
    have heff := supplySample_effect mains battery s
    rw [supplySample] at heff
    simp only [State.updTu_tu, h] at heff
    have hmode : (supplyChange m (s.updTu fun u => { u with supply := u.supply.sample mains battery })).tu.supply.mode = m := by
      rw [hsupply]; rfl
    rw [hmode] at hcs hgcu hctu hsau hone htwo
    refine ⟨_, .of_eq (supplyModeChange_some h), hmode, by rw [hsupply]; rfl, by rw [hsupply]; rfl, by rw [hsupply]; rfl,
      by rw [hsupply]; rfl, hcs, hgcu, hctu, hsau, hone, htwo, ?_, heff.stampsOnly, heff.block .vu, heff.pending⟩
    rw [hcauses, computeCauses, hmode]
  case table =>
    refine ⟨fun h => ?_, fun h hp => ?_, fun h hp => ?_, fun h hp => ?_⟩
    · simp only [SupplyMonitor.change, h]
    · unfold SupplyMonitor.change
      split
      next hm => exact absurd hm h
      next => exact if_pos hp
      next => exact if_pos hp
    · simp only [SupplyMonitor.change, h, Nat.not_le.mpr hp, if_false]
    · simp only [SupplyMonitor.change, h, Nat.not_le.mpr hp, if_false]
  case configure =>
    obtain ⟨d, hd⟩ := doSupplyConfigure_eq (tag := tag) s hlen
    refine ⟨d, _, _, .of_eq hd, (clamp_eq (Nat.zero_le _) _).trans (by rw [Nat.zero_max]), clamp_eq ?_ _⟩
    have henter : clamp 0 1013 (wordAt p 0) ≤ 1013 := (clamp_eq (Nat.zero_le _) _).trans_le (Nat.min_le_left _ _)
    omega

end Sys2Proof.Machine
end

section
/-! PROOFS. Supervision, the manual alarm and the all-clear (5.2, 6.1 to 6.4). -/

namespace Sys2Proof.Machine

-- Declarations are elaborated one after another: in a text of this length the threads of many at once would not fit the memory limit.
set_option Elab.async false

/-! ## The latches stay set (R81, R107) -/

/-- Neither latch is cleared from `s` to `t`. -/
structure Latching (s t : State) : Prop where
  trip : s.tu.latch = true → t.tu.latch = true
  alarm : s.sau.latch = true → t.sau.latch = true

theorem Latching.refl (s : State) : Latching s s := ⟨id, id⟩

theorem Latching.trans {s t u : State} (h : Latching s t) (k : Latching t u) : Latching s u :=
  ⟨fun hs => k.trip (h.trip hs), fun hs => k.alarm (h.alarm hs)⟩

theorem Effect.latching {ps : List Part} {lost : List Law} {s t : State} (h : Effect ps lost s t) (ht : Part.trip ∉ ps := by decide)
    (ha : Part.latch ∉ ps := by decide) : Latching s t := by
  have h1 := h.same .trip ht
  simp only [Part.same, Prod.mk.injEq] at h1
  exact ⟨fun hs => h1.2.1.trans hs, fun hs => Eq.trans (h.same .latch ha) hs⟩

theorem addLater_latch (c : TripCauses) (s : State) : (addLater c s).tu.latch = s.tu.latch := by
  unfold addLater
  simp only
  split <;> rfl

theorem tuRecompute_latching (s : State) : Latching s (tuRecompute s) := by
  refine ⟨fun h => ?_, fun h => ((tuRecompute_effect s).same .latch (by decide)).trans h⟩
  unfold tuRecompute
  simp only [h, if_true]
  split
  · exact (addLater_latch ..).trans h
  · exact h

theorem takeCauses_latching (s : State) : Latching s (takeCauses s) :=
  ⟨id, fun h => by show (s.sau.latch || _) = true; rw [h, Bool.true_or]⟩

theorem coverSet_latching (s : State) : Latching s (coverSet s) := by
  have hset (x : BitVec 16) (t : State) : Latching t (t.updSau fun a => { a with covered := x }) := ⟨id, id⟩
  exact (((tuRecompute_latching s).trans (recomputeMethane_effect _).latching).trans (hset _ _)).trans (takeCauses_latching _)

theorem endOverrideWith_latching {derive : State → State} (hd : ∀ s, Latching s (derive s)) (reason : EndReason) (s : State) :
    Latching s (endOverrideWith derive reason s) := by
  have hrep : Latching s (reportOverride s.tu.ovr.state (clearOverride reason s)) :=
    (clearOverride_effect reason s).latching.trans (reportOverride_effect ..).latching
  rw [endOverrideWith_eq]
  split
  · exact (hrep.trans (coverSet_latching _)).trans (hd _)
  · exact hrep

theorem deriveLevel_latching (s : State) : Latching s (deriveLevel s) := (deriveLevel_effect s).latching

theorem evacuationEnd_latching (before : SectionLevel) (s : State) : Latching s (evacuationEnd before s) := by
  unfold evacuationEnd
  split
  · exact endOverrideWith_latching deriveLevel_latching ..
  · exact .refl s

theorem sauDerive_latching (s : State) : Latching s (sauDerive s) := (deriveLevel_latching s).trans (evacuationEnd_latching ..)

theorem sauRecompute_latching (s : State) : Latching s (sauRecompute s) := (takeCauses_latching s).trans (sauDerive_latching _)

/-! ## The terms of the section level (R104, R108) -/

theorem SectionLevel.sup_code (a b : SectionLevel) : (a.sup b).code = max a.code b.code := by cases a <;> cases b <;> rfl

theorem SectionLevel.code_inj {a b : SectionLevel} (h : a.code = b.code) : a = b := by
  cases a <;> cases b <;> first | rfl | simp [SectionLevel.code] at h

theorem SectionLevel.code_le (a : SectionLevel) : a.code ≤ 2 := by cases a <;> decide

theorem levelOf_code (s : State) : (levelOf s).code = max (max (max s.sau.causes.level.code s.cs.remote.outbye.level.code)
    (latchLevel s.sau.latch).code) s.cs.remote.inbye.level.code := by
  simp only [levelOf, levelInbye, SectionLevel.sup_code]

theorem levelOf_of_latch {s : State} (h : s.sau.latch = true) : levelOf s = .evacuate := by
  refine SectionLevel.code_inj ?_
  have h1 := levelOf_code s
  have h2 := SectionLevel.code_le (levelOf s)
  rw [h, show (latchLevel true).code = 2 from rfl] at h1
  show (levelOf s).code = 2
  omega

theorem LocalCauses.level_pos {c : LocalCauses} (h : c.supervision = true ∨ c.manualAlert = true) : 1 ≤ c.level.code := by
  unfold LocalCauses.level
  split
  · decide
  · obtain h | h := h <;> simp [h] <;> decide

theorem levelOf_ne_normal {s : State} (h : s.sau.causes.supervision = true ∨ s.sau.causes.manualAlert = true) : levelOf s ≠ .normal := by
  intro hn
  have h1 := levelOf_code s
  have h2 := LocalCauses.level_pos h
  rw [hn] at h1
  simp only [SectionLevel.code] at h1 h2
  omega

/-! ## Supervision (R87 to R90) -/

/-- R90: what a change of supervision state is reported with. -/
def reportSupervision (before : SupervisionState) (s : State) : State :=
  sendTo kSupervisionLate 0 (supervisionBytes before s) (postBoth .supervisionLate (supervisionBytes before s) s)

theorem reportSupervision_reports (before : SupervisionState) (s : State) : Reports s (reportSupervision before s) :=
  (postBoth_reports ..).trans (sendTo_reports ..)

theorem reportSupervision_effect (before : SupervisionState) (s : State) : Effect telling [] s (reportSupervision before s) :=
  (postBoth_effect ..).trans (sendTo_effect ..)

/-- The supervision machine replaced. -/
def State.setSup (x : Supervision) (s : State) : State := s.updTu fun u => { u with sup := x }

section
variable {before : SupervisionState} {s : State}

theorem supervisionChanged_late (h : s.tu.sup.state = .late) : supervisionChanged before s
    = tuRecompute (sauRecompute ((reportSupervision before s).updSau fun a => { a with supLate := true })) := by
  have hs : (reportSupervision before s).tu.sup.state = .late := by rw [(reportSupervision_reports before s).tu, h]
  unfold supervisionChanged
  rw [← reportSupervision]
  simp only [hs]

theorem supervisionChanged_running (h : s.tu.sup.state = .running) : supervisionChanged before s
    = tuRecompute (sauRecompute ((reportSupervision before s).updSau fun a => { a with supLate := false })) := by
  have hs : (reportSupervision before s).tu.sup.state = .running := by rw [(reportSupervision_reports before s).tu, h]
  unfold supervisionChanged
  rw [← reportSupervision]
  simp only [hs]

theorem supervisionChanged_expired (h : s.tu.sup.state = .expired) :
    supervisionChanged before s = tuRecompute (reportSupervision before s) := by
  have hs : (reportSupervision before s).tu.sup.state = .expired := by rw [(reportSupervision_reports before s).tu, h]
  unfold supervisionChanged
  rw [← reportSupervision]
  simp only [hs]

end

/-- R88, R104: what telling the Section Alarm Unit late or not late leaves, once the causes of both units are derived. -/
theorem tellLate_frame (b : Bool) (s : State) :
    (tuRecompute (sauRecompute (s.updSau fun a => { a with supLate := b }))).sau.causes.supervision = b
      ∧ (tuRecompute (sauRecompute (s.updSau fun a => { a with supLate := b }))).sau.level
          = levelOf (tuRecompute (sauRecompute (s.updSau fun a => { a with supLate := b })))
      ∧ Latching s (tuRecompute (sauRecompute (s.updSau fun a => { a with supLate := b }))) := by
  have hlast := tuRecompute_effect (sauRecompute (s.updSau fun a => { a with supLate := b }))
  have hsup : (sauRecompute (s.updSau fun a => { a with supLate := b })).sau.supLate = b := by
    have h := (sauRecompute_effect (s.updSau fun a => { a with supLate := b })).same .holders (by decide)
    exact (Prod.mk.inj h).2
  have hcauses : (sauRecompute (s.updSau fun a => { a with supLate := b })).sau.causes.supervision = b := by
    rw [sauRecompute_alarmDerived]; exact hsup
  have htell : Latching s (s.updSau fun a => { a with supLate := b }) := ⟨id, id⟩
  refine ⟨?_, hlast.keeps .levelDerived (by simp) (sauDerive_derived _), (htell.trans (sauRecompute_latching _)).trans (tuRecompute_latching _)⟩
  have h := hlast.same .causes (by decide)
  exact (congrArg LocalCauses.supervision h).trans hcauses

section
variable {s : State}

theorem supervisionLapse_due (h : s.tu.sup.state = .running ∨ s.tu.sup.state = .late) (hcount : s.tu.sup.count ≤ 1) :
    supervisionLapse s = lapse s := if_pos (by simp [lapseDue, h, hcount])

theorem lapse_running (h : s.tu.sup.state = .running) : lapse s = supervisionChanged .running
    (s.setSup { s.tu.sup with state := .late, count := s.tu.sup.period.getD 0 }) := by
  simp only [lapse, h]; rfl

theorem lapse_late (h : s.tu.sup.state = .late) : lapse s = supervisionChanged .late
    (s.setSup { s.tu.sup with state := .expired, count := 0 }) := by
  simp only [lapse, h]; rfl

theorem supervisionChanged_sup (before : SupervisionState) (s : State) : (supervisionChanged before s).tu.sup = s.tu.sup :=
  (supervisionChanged_effect before s).same .sup (by decide)

theorem supervisionChanged_derived (before : SupervisionState) (s : State) :
    (supervisionChanged before s).tu.causes = computeCauses (supervisionChanged before s) := tuRecompute_derived _

theorem doSuperviseRefresh_eq (tag : Byte) (s : State) : doSuperviseRefresh .sp tag [] s =
    if s.tu.sup.state = .off then respond .sp tag (refused .wrongState) s
    else respond .sp tag (done [byteOf s.tu.sup.state.code, 1#8]) (refresh s) := by
  rw [doSuperviseRefresh, command_sp_sized (n := 0) rfl]
  split <;> rfl

theorem refresh_running (h : s.tu.sup.state = .running) :
    refresh s = s.updTu fun u => { u with sup := { u.sup with count := u.sup.period.getD 0 } } := by
  unfold refresh
  simp only [h, if_true, State.updTu]

theorem refresh_back (h : s.tu.sup.state ≠ .running) : refresh s = supervisionChanged s.tu.sup.state
    (s.setSup { s.tu.sup with state := .running, count := s.tu.sup.period.getD 0 }) := if_neg h

end

theorem doSuperviseStart_eq {tag : Byte} {p : Bytes} {n : Nat} (s : State) (hlen : p.length = 2) (hn : n = min 400 (max 4 (wordAt p 0))) :
    ∃ d, doSuperviseStart .sp tag p s = respond .sp tag (done d) (s.updTu fun u => { u with
      sup := if u.sup.state = .off then { state := .running, period := some n, count := n } else { u.sup with period := some n } }) := by
  rw [doSuperviseStart, command_sp_sized hlen, clamp_eq (by decide), ← hn]
  exact ⟨_, rfl⟩

/-- Settles O30: each change of supervision by what its report and the two derivations after it leave. -/
theorem supervisionSettled : Obligations.Supervision := by
  refine ⟨fun tag p s n hlen hn => ?start, fun n s hrun hcount hperiod => ?late, fun s hheld hlate hcount => ?expired,
    fun tag s => ⟨fun hoff => ?off, fun hrun => ?running, fun hback => ?back⟩⟩
  case start =>
    obtain ⟨d, hd⟩ := doSuperviseStart_eq (tag := tag) s hlen hn
    exact ⟨d, .of_eq hd⟩
  case late =>
    have hlapse := lapse_running hrun
    have heff := lapse_effect s
    have hdo := (supervisionLapse_due (.inl hrun) hcount).trans hlapse
    rw [hlapse] at heff
    have hsup := supervisionChanged_sup .running (s.setSup { s.tu.sup with state := .late, count := s.tu.sup.period.getD 0 })
    have hframe := tellLate_frame true (reportSupervision .running
      (s.setSup { s.tu.sup with state := .late, count := s.tu.sup.period.getD 0 }))
    rw [← supervisionChanged_late rfl] at hframe
    obtain ⟨hcause, hlevel, -⟩ := hframe
    refine ⟨_, .of_eq hdo, hsup.trans (by rw [State.setSup, State.updTu_tu]; simp [hperiod]), hcause, ?_, heff.stampsOnly, heff.block .sbm, heff.pending⟩
    rw [hlevel]
    exact levelOf_ne_normal (.inl hcause)
  case expired =>
    have hlapse := lapse_late hlate
    have hdo := (supervisionLapse_due (.inr hlate) hcount).trans hlapse
    have hsup := supervisionChanged_sup .late (s.setSup { s.tu.sup with state := .expired, count := 0 })
    have hder := supervisionChanged_derived .late (s.setSup { s.tu.sup with state := .expired, count := 0 })
    have htrip : TripHeld (lapse s) := (lapse_effect s).keeps .tripHeld (by simp) hheld
    rw [hlapse] at htrip
    have hcause : (supervisionChanged .late (s.setSup { s.tu.sup with state := .expired, count := 0 })).tu.causes.supervision = true := by
      rw [hder, computeCauses, hsup]; rfl
    have hany (c : CauseSet) (h : c.supervision = true) : c.any = true := by simp [CauseSet.any, h]
    have hrest : Effect tripping [] (s.setSup { s.tu.sup with state := .expired, count := 0 })
        (supervisionChanged .late (s.setSup { s.tu.sup with state := .expired, count := 0 })) := by
      rw [supervisionChanged_expired rfl]
      exact (reportSupervision_effect ..).mono.trans (tuRecompute_effect _)
    refine ⟨_, .of_eq hdo, hsup, hcause, htrip.causes (hany _ hcause), hrest.block .sau, hrest.block .gcu, ?_⟩
    exact StampsOnly.trans (.of_tb rfl) hrest.stampsOnly
  case off => exact .of_eq ((doSuperviseRefresh_eq tag s).trans (if_pos hoff))
  case running =>
    refine .of_eq ((doSuperviseRefresh_eq tag s).trans ?_)
    rw [if_neg (by simp [hrun]), refresh_running hrun, hrun]; rfl
  case back =>
    have hne : s.tu.sup.state ≠ .off ∧ s.tu.sup.state ≠ .running := by obtain h | h := hback <;> simp [h]
    have heff := refresh_effect s
    have hdo := (doSuperviseRefresh_eq tag s).trans (if_neg hne.1)
    rw [refresh_back hne.2] at hdo heff
    have hsup := supervisionChanged_sup s.tu.sup.state
      (s.setSup { s.tu.sup with state := .running, count := s.tu.sup.period.getD 0 })
    have hder := supervisionChanged_derived s.tu.sup.state
      (s.setSup { s.tu.sup with state := .running, count := s.tu.sup.period.getD 0 })
    have hframe := tellLate_frame false (reportSupervision s.tu.sup.state
      (s.setSup { s.tu.sup with state := .running, count := s.tu.sup.period.getD 0 }))
    rw [← supervisionChanged_running rfl] at hframe
    obtain ⟨hcause, -, hlatch⟩ := hframe
    refine ⟨_, .of_eq hdo, hsup, ?_, hcause, fun h => hlatch.trip ?_, heff.stampsOnly⟩
    · rw [hder, computeCauses, hsup]; rfl
    · rw [(reportSupervision_reports ..).tu]; exact h

/-! ## The manual alarm (R105 to R107) -/

theorem setHolder_port (p : Port) (b : Bool) (s : State) : setHolder (portSource p) b s
    = sauRecompute (s.updSau fun a => { a with holders := a.holders.set p b }) := by
  unfold setHolder
  rw [portSource_port?]

/-- What a recomputation after a change of the manual ALERT holders leaves. -/
theorem holders_frame (hs : PerPort Bool) (s : State) :
    (sauRecompute (s.updSau fun a => { a with holders := hs })).sau.holders = hs
      ∧ (sauRecompute (s.updSau fun a => { a with holders := hs })).sau.causes.manualAlert = (hs.sp || hs.cp)
      ∧ (sauRecompute (s.updSau fun a => { a with holders := hs })).sau.level
          = levelOf (sauRecompute (s.updSau fun a => { a with holders := hs }))
      ∧ Latching s (sauRecompute (s.updSau fun a => { a with holders := hs }))
      ∧ AlarmFrame s (sauRecompute (s.updSau fun a => { a with holders := hs })) := by
  have heff := sauRecompute_effect (s.updSau fun a => { a with holders := hs })
  have hset : Latching s (s.updSau fun a => { a with holders := hs }) := ⟨id, id⟩
  obtain ⟨hstamps, hsbm, hchannels, hpending⟩ := heff.alarmFrame
  have hholders : (sauRecompute (s.updSau fun a => { a with holders := hs })).sau.holders = hs :=
    (Prod.mk.inj (heff.same .holders (by decide))).1
  refine ⟨hholders, ?_, sauDerive_derived _, hset.trans (sauRecompute_latching _), ⟨hstamps, hsbm, hchannels, hpending⟩⟩
  rw [sauRecompute_alarmDerived]
  show (_ || _) = _
  rw [hholders]

theorem strobe_of_level {s : State} (h : s.sau.level ≠ .normal) : s.strobe = true := by simp [State.strobe, h]

/-- R107: what setting the EVACUATE latch leaves. -/
theorem setLatch_frame (s : State) : (setLatch s).sau.latch = true ∧ (setLatch s).sau.level = .evacuate
    ∧ (HandedOver s → (setLatch s).ctu.level = .evacuate ∧ (setLatch s).vu.level = .evacuate) ∧ AlarmFrame s (setLatch s) := by
  have hlatch : (setLatch s).sau.latch = true := (sauDerive_latching _).alarm rfl
  have hlevel : (setLatch s).sau.level = .evacuate := (sauDerive_derived _).trans (levelOf_of_latch hlatch)
  refine ⟨hlatch, hlevel, fun h => ?_, (setLatch_effect s).alarmFrame⟩
  obtain ⟨hctu, hvu⟩ : LevelsAlike (setLatch s) := (setLatch_effect s).keeps .levels (by simp) h.level
  exact ⟨hctu.trans hlevel, hvu.trans hlevel⟩

theorem doAlertClearBoth_eq (p : Port) (tag : Byte) (s : State) :
    ∃ d, doAlertClearBoth (portSource p) tag s = respond (portSource p) tag (done d)
      (sauRecompute (s.updSau fun a => { a with holders := ⟨false, false⟩ })) := by cases p <;> exact ⟨_, rfl⟩

theorem doAlertClearOwn_eq (p : Port) (tag : Byte) (s : State) :
    ∃ d, doAlertClearOwn (portSource p) tag s = respond (portSource p) tag (done d)
      (sauRecompute (s.updSau fun a => { a with holders := a.holders.set p false })) := by
  rw [← setHolder_port]
  cases p <;> exact ⟨_, rfl⟩

theorem doAlarmRaiseAlert_eq (p : Port) (tag : Byte) (s : State) :
    ∃ d, doAlarmRaiseAlert (portSource p) tag s = respond (portSource p) tag (done d)
      (sauRecompute (s.updSau fun a => { a with holders := a.holders.set p true })) := by
  rw [← setHolder_port]
  cases p <;> exact ⟨_, rfl⟩

/-- Settles O34: the manual ALERT by what the recomputation after it derives, the manual EVACUATE by the latch. -/
theorem manualAlarm : Obligations.ManualAlarm := by
  refine ⟨fun p tag s => ⟨?raise, ?own, ?both⟩, fun s hone => ?announcement, fun tag s src i hi => ?evacuate⟩
  case raise =>
    obtain ⟨d, hd⟩ := doAlarmRaiseAlert_eq p tag s
    obtain ⟨hholders, hmanual, hlevel, -, hframe⟩ := holders_frame (s.sau.holders.set p true) s
    have hraised := hmanual.trans (show _ = true by cases p <;> simp [PerPort.set])
    have hne := hlevel.symm ▸ levelOf_ne_normal (.inr hraised)
    exact ⟨_, d, .of_eq hd, hholders, hraised, hlevel, hne, strobe_of_level hne, hframe⟩
  case own =>
    obtain ⟨d, hd⟩ := doAlertClearOwn_eq p tag s
    obtain ⟨hholders, hmanual, hlevel, hlatch, hframe⟩ := holders_frame (s.sau.holders.set p false) s
    exact ⟨_, d, .of_eq hd, hholders, hmanual.trans (by rw [← hholders]; rfl), hlevel, hlatch.alarm, hframe⟩
  case both =>
    obtain ⟨d, hd⟩ := doAlertClearBoth_eq p tag s
    obtain ⟨hholders, hmanual, hlevel, hlatch, hframe⟩ := holders_frame ⟨false, false⟩ s
    exact ⟨_, d, .of_eq hd, hholders, hmanual, hlevel, hlatch.alarm, hframe⟩
  case announcement =>
    refine ⟨_, .of_eq (if_pos (decide_eq_true hone)), rfl, fun hne => ?_⟩
    cases hl : s.sau.level <;> simp_all [State.sounder, AlarmUnit.sounding]
  case evacuate =>
    obtain ⟨hlatch, hlevel, hhanded, hframe⟩ := setLatch_frame s
    have hstrobe : (setLatch s).strobe = true := strobe_of_level (by simp [hlevel])
    obtain ⟨rfl, rfl⟩ | ⟨rfl, rfl⟩ := hi
    · exact ⟨_, _, .of_eq (t := respond .sp tag (raiseAnswer (setLatch s)) (setLatch s)) rfl, hlatch, hlevel, hstrobe, hhanded, hframe⟩
    · exact ⟨_, _, .of_eq (t := respond .surface tag (raiseAnswer (setLatch s)) (setLatch s)) rfl, hlatch, hlevel, hstrobe, hhanded, hframe⟩

/-! ## The all-clear (R40, R111) -/

theorem sauDerive_of_none {s : State} (h : s.tu.ovr.state = .none) : sauDerive s = deriveLevel s := by
  have hovr : (deriveLevel s).tu.ovr = s.tu.ovr := (deriveLevel_effect s).same .ovr (by decide)
  simp [sauDerive, evacuationEnd, hovr, h]

/-- R111: the all-clear before the section level is derived again. -/
def clearedAll (s : State) : State :=
  { s with
    tb := { s.tb with epoch := (s.tb.epoch + 1) % 256 }
    cs := { s.cs with remote := ⟨⟨.normal, 0⟩, ⟨.normal, 0⟩⟩ }
    sau := { s.sau with latch := s.sau.causes.gasEvacuate } }

theorem allClear_of_none {s : State} (h : s.tu.ovr.state = .none) : allClear s = deriveLevel (clearedAll s) :=
  sauDerive_of_none (s := clearedAll s) h

theorem doAllClear_eq (p : Port) (tag : Byte) {s : State} (h : s.tb.role = .head) : doAllClear (portSource p) tag [] s
    = respond (portSource p) tag (done [byteOf (allClear s).tb.epoch, byteOf (flag (allClear s).sau.latch),
        byteOf (allClear s).sau.level.code]) (allClear s) := by
  have hright : (s.isHead && spCp (portSource p)) = true := by cases p <;> simp [State.isHead, h, spCp, portSource]
  rw [doAllClear, command, if_neg (by simp), hright]
  rfl

/-- Settles O36: with no override to end, the all-clear is its three assignments and the derivation of the section level. -/
theorem allClearSettled : Obligations.AllClear := by
  refine ⟨fun p tag s hhead hnone => ?_, fun src tag s hno => ?_⟩
  · have hdo := doAllClear_eq p tag hhead
    rw [allClear_of_none hnone] at hdo
    have heff := deriveLevel_effect (clearedAll s)
    exact ⟨_, .of_eq hdo, heff.block .tb, heff.same .remote (by decide), heff.same .latch (by decide),
      heff.same .causes (by decide), deriveLevel_derived _, heff.block .sbm, heff.block .gcu, heff.block .tu, heff.pending⟩
  · refine .of_eq ?_
    have hright : (s.isHead && spCp src) = false := by
      obtain h | rfl := hno
      · simp [State.isHead, h]
      · simp [spCp]
    rw [doAllClear, command, hright]
    rfl

end Sys2Proof.Machine
end

section
/-! PROOFS. The refuges (6.5) and the override (5.3). -/

namespace Sys2Proof.Machine

-- Declarations are elaborated one after another: in a text of this length the threads of many at once would not fit the memory limit.
set_option Elab.async false

/-! ## One refuge record and its reports (R114 to R119) -/

section
variable (r : Fin 4) (x : Refuge) (s : State)

theorem refuge_of_refuges {s t : State} (h : t.sau.refuges = s.sau.refuges) (k : Fin 4) : t.refuge k = s.refuge k := by
  rw [State.refuge, h]; rfl

theorem setRefuge_others : OtherRefuges r s (s.setRefuge r x) := fun k hk => s.refuge_setRefuge_of_ne r k x hk

theorem Reports.setRefuge {s t : State} (h : Reports s t) : Reports (s.setRefuge r x) (t.setRefuge r x) :=
  ⟨SameBut.of_fields h.tb h.sbm h.gcu h.tu (by simp only [State.setRefuge, State.updSau, h.sau]) h.ctu h.vu h.pending, h.cs, h.pi⟩

variable (reasons : RefugeReasons)

/-- R116: a report moves nothing of its record but the report count. -/
theorem sendRefugeReport_eq : sendRefugeReport r reasons s = (sendTo kRefugeReport 0 (refugeReportBytes r reasons s) s).setRefuge r
    { s.refuge r with report := 0 } := by
  rw [sendRefugeReport, refuge_of_refuges (congrArg AlarmUnit.refuges (sendTo_reports ..).sau) r]

theorem sendRefugeReport_reports : Reports (s.setRefuge r { s.refuge r with report := 0 }) (sendRefugeReport r reasons s) := by
  rw [sendRefugeReport_eq]
  exact (sendTo_reports ..).setRefuge r _

theorem sendRefugeReport_refuge : (sendRefugeReport r reasons s).refuge r = { s.refuge r with report := 0 } := by
  rw [sendRefugeReport_eq, State.refuge_setRefuge]

theorem sendRefugeReport_others : OtherRefuges r s (sendRefugeReport r reasons s) := fun k hk => by
  rw [sendRefugeReport_eq, State.refuge_setRefuge_of_ne _ _ _ _ hk,
    refuge_of_refuges (congrArg AlarmUnit.refuges (sendTo_reports ..).sau)]

theorem postRefuge_refuge (before : RefugeState) (k : Fin 4) : (postRefuge r before s).refuge k = s.refuge k :=
  refuge_of_refuges (congrArg AlarmUnit.refuges (postBoth_reports ..).sau) k

/-- R116: whatever a completion or a command changed in a record, reporting it sets at most the report count to 0. -/
theorem reportRefuge_refuge (old : Refuge) (h : (s.refuge r).report = 0) :
    (reportRefuge r old s).refuge r = s.refuge r ∧ OtherRefuges r s (reportRefuge r old s) := by
  have hsent (y : RefugeReasons) (before : RefugeState) (t : State) (ht : t.sau = s.sau) :
      (sendRefugeReport r y (postRefuge r before t)).refuge r = s.refuge r
        ∧ OtherRefuges r s (sendRefugeReport r y (postRefuge r before t)) := by
    have hk (k : Fin 4) : (postRefuge r before t).refuge k = s.refuge k :=
      (postRefuge_refuge ..).trans (refuge_of_refuges (congrArg AlarmUnit.refuges ht) k)
    refine ⟨?_, fun k hne => (sendRefugeReport_others r _ y k hne).trans (hk k)⟩
    rw [sendRefugeReport_refuge, hk]
    simp [← h]
  unfold reportRefuge
  simp only
  split
  · exact hsent _ _ _ rfl
  split
  · exact hsent _ _ _ rfl
  · exact ⟨rfl, fun _ _ => rfl⟩

/-- R18: an entry to UNUSED makes the refuge stamp absent. -/
theorem reportRefuge_unused (old : Refuge) (hnew : (s.refuge r).state = .unused) (hold : old.state ≠ .unused) :
    (reportRefuge r old s).tb.refugeStamps.get r = none := by
  have hstamp (y : RefugeReasons) : (sendRefugeReport r y (postRefuge r old.state (setRefugeStamp r none s))).tb.refugeStamps.get r = none := by
    rw [(sendRefugeReport_effect ..).block .tb, (postRefuge_effect ..).block .tb]
    exact vset_get_same ..
  unfold reportRefuge
  simp only [hnew]
  rw [if_pos (by simpa using hold.symm)]
  exact hstamp _

end

/-! ## REFUGE_CONFIGURE (R114) -/

/-- R114: the record that REFUGE_CONFIGURE sets. -/
def newRefuge (head : Option (Bus × Nat)) : Refuge :=
  { Refuge.reset with head := head, state := if head.isSome then .noResponse else .unused }

section
variable (r : Fin 4) (head : Option (Bus × Nat)) (s : State)

theorem configureRefuge_eq : configureRefuge r head s
    = sauRecompute (reportRefuge r (s.refuge r) (dropPolls (.refuge r) (s.setRefuge r (newRefuge head)))) := rfl

theorem configureRefuge_refuge :
    (configureRefuge r head s).refuge r = newRefuge head ∧ OtherRefuges r s (configureRefuge r head s) := by
  obtain ⟨hset, hothers⟩ : (dropPolls (.refuge r) (s.setRefuge r (newRefuge head))).refuge r = newRefuge head
      ∧ OtherRefuges r s (dropPolls (.refuge r) (s.setRefuge r (newRefuge head))) :=
    ⟨s.refuge_setRefuge r _, setRefuge_others r _ s⟩
  obtain ⟨hrep, hrest⟩ := reportRefuge_refuge r (dropPolls (.refuge r) (s.setRefuge r (newRefuge head))) (s.refuge r)
    (by rw [hset]; rfl)
  have hlast (k : Fin 4) := refuge_of_refuges ((sauRecompute_effect (reportRefuge r (s.refuge r)
    (dropPolls (.refuge r) (s.setRefuge r (newRefuge head))))).same .refuges (by decide)) k
  rw [configureRefuge_eq]
  exact ⟨(hlast r).trans (hrep.trans hset), fun k hk => (hlast k).trans ((hrest k hk).trans (hothers k hk))⟩

theorem configureRefuge_list (b : Bus) :
    ((configureRefuge r head s).bus b).list = (s.bus b).list.filter fun q => q.target != .refuge r := by
  rw [configureRefuge_eq, bus_of_sbm ((sauRecompute_effect _).block .sbm), bus_of_sbm ((reportRefuge_effect ..).block .sbm), dropPolls_list]
  rfl

theorem configureRefuge_stamp (h : (s.refuge r).state ≠ .unused) : (configureRefuge r none s).tb.refugeStamps.get r = none := by
  have hstamps := (sauRecompute_effect (reportRefuge r (s.refuge r)
    (dropPolls (.refuge r) (s.setRefuge r (newRefuge none))))).same .refugeStamps (by decide)
  rw [configureRefuge_eq]
  simp only [Part.same] at hstamps
  rw [hstamps]
  exact reportRefuge_unused r _ _ (congrArg Refuge.state (s.refuge_setRefuge r (newRefuge none))) h

end

theorem refugeOf_val (r : Fin 4) : refugeOf r.val = some r := dif_pos r.isLt

theorem refugeHeadOf_pair (b : Bus) {a : Nat} (h1 : 1 ≤ a) (h2 : a ≤ 127) :
    refugeHeadOf (busByte b).toNat (a % 256) = some (some (b, a)) := by
  have ha : a % 256 = a := Nat.mod_eq_of_lt (by omega)
  rw [ha]
  cases b <;> simp [refugeHeadOf, busByte, busOf, h1, h2]

theorem doRefugeConfigure_pair (r : Fin 4) (b : Bus) {a : Nat} (tag : Byte) (s : State) (h1 : 1 ≤ a) (h2 : a ≤ 127) :
    ∃ d, doRefugeConfigure .cp tag [byteOf r.val, busByte b, byteOf a] s
      = respond .cp tag (done d) (configureRefuge r (some (b, a)) s) := by
  have hr : byteAt [byteOf r.val, busByte b, byteOf a] 0 = r.val := byteAt_byteOf (by omega) _
  have hhead : refugeHeadOf (byteAt [byteOf r.val, busByte b, byteOf a] 1) (byteAt [byteOf r.val, busByte b, byteOf a] 2) = some (some (b, a)) := by
    rw [← refugeHeadOf_pair b h1 h2]
    simp [byteAt, byteOf]
  rw [doRefugeConfigure, command_cp_sized (n := 3) rfl, hr, hhead, refugeOf_val]
  exact ⟨_, rfl⟩

theorem doRefugeConfigure_absent (r : Fin 4) (tag : Byte) (s : State) :
    ∃ d, doRefugeConfigure .cp tag [byteOf r.val, 255#8, 255#8] s = respond .cp tag (done d) (configureRefuge r none s) := by
  have hr : byteAt [byteOf r.val, 255#8, 255#8] 0 = r.val := byteAt_byteOf (by omega) _
  rw [doRefugeConfigure, command_cp_sized (n := 3) rfl, hr, refugeOf_val]
  exact ⟨_, rfl⟩

/-! ## REFUGE_ACK (R118) -/

section
variable {r : Fin 4} {s : State}

theorem ackRefuge_unused (h : (s.refuge r).state = .unused) : ackRefuge r s = refuse .wrongState s := if_pos h

theorem ackRefuge_uncalled (h : (s.refuge r).state ≠ .unused) (hc : (s.refuge r).called = false) :
    ackRefuge r s = (s, done [0#8]) := by
  unfold ackRefuge
  simp only [h, hc, if_false, Bool.not_false, if_true]
  rfl

/-- R118: a call acknowledged. -/
def ackCall (r : Fin 4) (s : State) : State :=
  sendRefugeReport r { ack := true } (postRefuge r (s.refuge r).state (sauRecompute (s.setRefuge r { s.refuge r with called := false })))

theorem ackRefuge_called (h : (s.refuge r).state ≠ .unused) (hc : (s.refuge r).called = true) :
    ackRefuge r s = (ackCall r s, done []) := by
  unfold ackRefuge
  simp only [h, hc, if_false, Bool.not_true, Bool.false_eq_true]
  rfl

variable (r s)

theorem ackCall_effect : Effect sheltering [] (sauRecompute (s.setRefuge r { s.refuge r with called := false })) (ackCall r s) :=
  (postRefuge_effect ..).mono.trans (sendRefugeReport_effect ..)

theorem ackCall_refuge : (ackCall r s).refuge r = { s.refuge r with called := false, report := 0 } ∧ OtherRefuges r s (ackCall r s) := by
  have hbefore (k : Fin 4) : (postRefuge r (s.refuge r).state (sauRecompute (s.setRefuge r { s.refuge r with called := false }))).refuge k
      = (s.setRefuge r { s.refuge r with called := false }).refuge k :=
    (postRefuge_refuge ..).trans (refuge_of_refuges ((sauRecompute_effect _).same .refuges (by decide)) k)
  refine ⟨?_, fun k hk => ?_⟩
  · rw [ackCall, sendRefugeReport_refuge, hbefore, State.refuge_setRefuge]
  · rw [ackCall, sendRefugeReport_others r _ _ k hk, hbefore]
    exact setRefuge_others r _ s k hk

theorem ackCall_causes : (ackCall r s).sau.causes = localCausesOf (ackCall r s) :=
  (ackCall_effect r s).keeps .alarmDerived (by simp) (sauRecompute_alarmDerived _)

theorem ackCall_level : (ackCall r s).sau.level = levelOf (ackCall r s) :=
  (ackCall_effect r s).keeps .levelDerived (by simp) (sauDerive_derived _)

theorem ackCall_frame : AlarmFrame s (ackCall r s) := by
  have hset : Effect (.called :: .refuges :: alarming) [] s (sauRecompute (s.setRefuge r { s.refuge r with called := false })) :=
    sauRecompute_regains (setRefuge_effect_of_head rfl)
  exact (hset.trans (ackCall_effect r s).mono).alarmFrame

theorem ackCall_refugeCall (h : ∀ k, k ≠ r → (s.refuge k).called = false) : (ackCall r s).sau.causes.refugeCall = false := by
  obtain ⟨hown, hothers⟩ := ackCall_refuge r s
  have hquiet (k : Fin 4) : ((ackCall r s).refuge k).called = false := by
    by_cases hk : k = r
    · rw [hk, hown]
    · rw [hothers k hk]; exact h k hk
  rw [ackCall_causes]
  simp [localCausesOf, hquiet]

end

theorem doRefugeAck_eq (r : Fin 4) {src : Source} (tag : Byte) (s : State) (h : src ≠ .sp) :
    doRefugeAck src tag [byteOf r.val] s = respond src tag (ackRefuge r s).2 (ackRefuge r s).1 := by
  have hright : cpSurface src = true := by cases src <;> first | rfl | exact absurd rfl h
  have hr : byteAt [byteOf r.val] 0 = r.val := byteAt_byteOf (by omega) _
  rw [doRefugeAck, command_sized (n := 1) hright rfl, hr, refugeOf_val]

/-! ## The periodic REFUGE_REPORT (R119) -/

section
variable {r : Fin 4} {s : State}

theorem refugePeriodicReport_due (hlatch : s.sau.latch = true)
    (hstate : (s.refuge r).state = .doorOpen ∨ (s.refuge r).state = .occupied) (hcount : 199 ≤ (s.refuge r).report) :
    refugePeriodicReport r s = sendRefugeReport r { periodic := true } s := by
  have hdue : refugeReportDue s r = true := by
    simp [refugeReportDue, hlatch, hstate, Config.refugeReportLimit]; omega
  rw [refugePeriodicReport, if_pos hdue, refugeReportTick, if_pos hdue]

/-- R182: refuge and state, then the reasons. -/
theorem refugeReportBytes_head (reasons : RefugeReasons) : byteAt (refugeReportBytes r reasons s) 0 = 64 * r.val + (s.refuge r).state.code
    ∧ byteAt (refugeReportBytes r reasons s) 1 = reasons.byte % 256 := by
  have hcode : (s.refuge r).state.code < 64 := by cases (s.refuge r).state <;> decide
  have hr := r.isLt
  refine ⟨?_, ?_⟩
  · show (byteOf (64 * r.val + (s.refuge r).state.code)).toNat = _
    simp only [byteOf, BitVec.toNat_ofNat]
    omega
  · show (byteOf reasons.byte).toNat = _
    simp [byteOf]

theorem joinLocal_signal {l : Line} {c : Cell} (hc : c.classOf = .signal) : joinLocal l c s = joinQueue l c s := by
  simp [joinLocal, reserveRefuses, hc]

/-- R23, R34: at a head a cell of class SIGNAL for node 0 is delivered here. -/
theorem sendTo_zero_head {kind : Nat} {payload : Bytes} (hrole : s.tb.role = .head)
    (hc : (buildCell kind 0 payload s).classOf = .signal) :
    sendTo kind 0 payload s = deliver none (buildCell kind 0 payload s) s :=
  sendTo_of_ownDest (by simp [ownDest, State.isHead, hrole]) (by simp [reserveRefuses, hc])

theorem deliver_queue {b : Bool} {from? : Option Line} {c : Cell} (hb : b = safetyKind c.kind) (h : (deliveryQueue b s).length < 64) :
    deliveryQueue b (deliver from? c s) = deliveryQueue b s ++ [c] := by
  have hset : deliveryQueue b (setDeliveryQueue b (deliveryQueue b s ++ [c]) s) = deliveryQueue b s ++ [c] := by cases b <;> rfl
  rw [deliver_room hb h]
  split
  · exact hset
  · exact hset

end

/-- Settles O37: a record set anew, a call acknowledged, and a record reported again. -/
theorem refugesSettled : Obligations.Refuges := by
  refine ⟨fun r b a tag s h1 h2 => ?configure, fun r tag s => ?absent, fun r src tag s i hsrc hi => ?ack,
    fun r s hlatch hstate hcount => ?periodic⟩
  case configure =>
    obtain ⟨d, hd⟩ := doRefugeConfigure_pair r b tag s h1 h2
    obtain ⟨hown, hothers⟩ := configureRefuge_refuge r (some (b, a)) s
    have heff := configureRefuge_effect r (some (b, a)) s
    exact ⟨_, d, .of_eq hd, hown, hothers, configureRefuge_list r _ s, heff.stampsOnly, heff.channels, heff.pending⟩
  case absent =>
    obtain ⟨d, hd⟩ := doRefugeConfigure_absent r tag s
    obtain ⟨hown, hothers⟩ := configureRefuge_refuge r none s
    have heff := configureRefuge_effect r none s
    exact ⟨_, d, .of_eq hd, hown, hothers, configureRefuge_list r _ s, configureRefuge_stamp r s, heff.stampsOnly, heff.channels, heff.pending⟩
  case ack =>
    subst hi
    have hdo := doRefugeAck_eq r tag s hsrc
    refine ⟨fun h => .of_eq ?_, fun h hc => .of_eq ?_, fun h hc => ⟨ackCall r s, .of_eq ?_, ?_⟩⟩
    · rw [hdo, ackRefuge_unused h]; rfl
    · rw [hdo, ackRefuge_uncalled h hc]
    · rw [hdo, ackRefuge_called h hc]
    · obtain ⟨hown, hothers⟩ := ackCall_refuge r s
      exact ⟨hown, hothers, ackCall_refugeCall r s, ackCall_level r s, ackCall_frame r s⟩
  case periodic =>
    obtain ⟨hhead, hreason⟩ := refugeReportBytes_head (r := r) (s := s) { periodic := true }
    have hsend := sendRefugeReport_eq r s { periodic := true }
    refine ⟨_, buildCell kRefugeReport 0 (refugeReportBytes r { periodic := true } s) s, .of_eq (refugePeriodicReport_due hlatch hstate hcount),
      sendRefugeReport_reports r s _, rfl, rfl, rfl, rfl, rfl, rfl, rfl, hhead, hreason, fun hrole hroom => ?_, fun hrole haddr hstaging hroom => ?_⟩
    · rw [hsend, sendTo_zero_head hrole rfl]
      exact deliver_queue (b := false) rfl hroom
    · rw [hsend, sendTo_zero hrole haddr hstaging, joinLocal_signal rfl, joinQueue_signal_room (l := .outbye) rfl hroom]
      rfl

/-! ## What goes OUTBYE (R23)

While an override is confirmed the Vehicle Unit may grant waiting vehicles, whose cells go INBYE: the OUTBYE queue takes a
TRIP_REPORT at most before the OVERRIDE_ASK. -/

/-- With nothing staged, the OUTBYE queues stay, and nothing is staged. -/
structure OutbyeKept (s t : State) : Prop where
  kept : s.cs.staging = none → t.cs.staging = none ∧ t.cs.queues.outbye = s.cs.queues.outbye

namespace OutbyeKept

theorem of_cs {s t : State} (h : t.cs = s.cs) : OutbyeKept s t := ⟨fun hs => by rw [h]; exact ⟨hs, rfl⟩⟩

theorem refl (s : State) : OutbyeKept s s := .of_cs rfl

theorem trans {s t u : State} (h : OutbyeKept s t) (k : OutbyeKept t u) : OutbyeKept s u :=
  ⟨fun hs => ⟨(k.kept (h.kept hs).1).1, ((k.kept (h.kept hs).1).2).trans (h.kept hs).2⟩⟩

theorem after {s t u : State} (k : OutbyeKept t u) (h : t.cs = s.cs) : OutbyeKept s u := (of_cs h).trans k

theorem forEach {α : Type} {f : α → State → State} (hf : ∀ x t, OutbyeKept t (f x t)) (xs : List α) (s : State) :
    OutbyeKept s (forEach xs f s) := by
  induction xs generalizing s with
  | nil => exact .refl s
  | cons x xs ih => exact (hf x s).trans (ih (f x s))

end OutbyeKept

theorem joinQueue_staging (l : Line) (c : Cell) (s : State) : (joinQueue l c s).cs.staging = s.cs.staging := by
  unfold joinQueue
  cases c.classOf <;> simp only
  case signal => split <;> simp [latchInd_cs, State.updQueues, State.updCs]
  case data =>
    split
    · rfl
    · split <;> simp [latchInd_cs, State.updQueues, State.updCs]

theorem joinQueue_inbye_kept (c : Cell) (s : State) : OutbyeKept s (joinQueue .inbye c s) :=
  ⟨fun hs => ⟨(joinQueue_staging ..).trans hs, joinQueue_other .inbye c s⟩⟩

theorem sendAdjacent_inbye_kept (kind : Nat) (p : Bytes) (s : State) : OutbyeKept s (sendAdjacent .inbye kind p s) := by
  refine ⟨fun hs => ?_⟩
  have hplace (c : Cell) : placeCell .inbye c s = joinLocal .inbye c s := by rw [placeCell, hs]
  rw [sendAdjacent, ite_self, hplace, joinLocal]
  split
  · exact ⟨hs, rfl⟩
  · exact (joinQueue_inbye_kept _ s).kept hs

section
variable (s : State)

theorem modVehicle_cs (i : Fin 16) (f : Vehicle → Vehicle) : (modVehicle i f s).cs = s.cs := by
  unfold modVehicle
  split <;> rfl

theorem deriveOrder_cs (i : Fin 16) : (deriveOrder i s).cs = s.cs := modVehicle_cs s i _

theorem grantOne_kept (w : Wait) (rest : List Wait) : OutbyeKept s (grantOne w rest s) := by
  unfold grantOne
  simp only
  split
  · exact (sendAdjacent_inbye_kept ..).after rfl
  split
  · exact .of_cs ((deriveOrder_cs ..).trans (modVehicle_cs ..))
  · exact .of_cs rfl

theorem grantLoop_kept (n : Nat) : OutbyeKept s (grantLoop n s) := by
  induction n generalizing s with
  | zero => exact .refl s
  | succ n ih =>
    unfold grantLoop
    split
    · exact .refl s
    split
    · exact (grantOne_kept ..).trans (ih _)
    · exact .refl s

theorem reexamine_kept : OutbyeKept s (reexamine s) := grantLoop_kept ..

theorem leaveIfPassed_kept (i : Fin 16) : OutbyeKept s (leaveIfPassed i s) := by
  unfold leaveIfPassed
  split
  · split
    · exact (reexamine_kept _).after (modVehicle_cs ..)
    · exact .refl s
  · exact .refl s

theorem rederiveAll_kept : OutbyeKept s (rederiveAll s) :=
  .forEach (fun i t => (leaveIfPassed_kept t i).trans (.of_cs (deriveOrder_cs ..))) allVehicles s

theorem dropInbyeWaits_kept : OutbyeKept s (dropInbyeWaits s) := by
  unfold dropInbyeWaits
  refine (OutbyeKept.forEach (fun id t => ?_) _ _).after rfl
  split
  · exact .of_cs (modVehicle_cs ..)
  · exact .refl t

theorem vuSectionLevel_kept (l : SectionLevel) : OutbyeKept s (vuSectionLevel l s) := by
  have hset : OutbyeKept s (s.updVu fun u => { u with level := l }) := .of_cs rfl
  unfold vuSectionLevel
  simp only
  split
  · exact (hset.trans (dropInbyeWaits_kept _)).trans ((reexamine_kept _).trans (rederiveAll_kept _))
  split
  · exact hset.trans ((reexamine_kept _).trans (rederiveAll_kept _))
  · exact hset.trans (rederiveAll_kept _)

theorem recomputeMethane_kept : OutbyeKept s (recomputeMethane s) := by
  unfold recomputeMethane
  simp only
  split
  · exact .refl s
  · exact (rederiveAll_kept _).after rfl

theorem levelOf_deriveLevel : levelOf (deriveLevel s) = levelOf s := by
  have heff := deriveLevel_effect s
  have hcauses : (deriveLevel s).sau.causes = s.sau.causes := heff.same .causes (by decide)
  have hlatch : (deriveLevel s).sau.latch = s.sau.latch := heff.same .latch (by decide)
  have hremote : (deriveLevel s).cs.remote = s.cs.remote := heff.same .remote (by decide)
  simp only [levelOf, levelInbye, hcauses, hlatch, hremote]

/-- R140: only EVACUATE clears calls. -/
theorem deriveLevel_kept (h : levelOf s ≠ .evacuate) : OutbyeKept s (deriveLevel s) := by
  have hctu (t : State) : ctuSectionLevel (levelOf s) t = t.updCtu fun c => { c with level := levelOf s } := by
    rw [ctuSectionLevel_eq, if_neg (by simp [h])]
  rw [deriveLevel_eq]
  split
  · exact .of_cs rfl
  · rw [handLevel, hctu]
    exact (vuSectionLevel_kept ..).after rfl

end

/-- R23, R24: a SIGNAL cell for node 0 joins the OUTBYE queue while it has room. -/
theorem sendTo_zero_signal {kind : Nat} {payload : Bytes} {s : State} (hrole : s.tb.role = .junction) (haddr : s.tb.address ≠ 0)
    (hstaging : s.cs.staging = none) (hc : (buildCell kind 0 payload s).classOf = .signal) (hroom : s.cs.queues.outbye.signal.length < 16) :
    (sendTo kind 0 payload s).cs.staging = none
      ∧ (sendTo kind 0 payload s).cs.queues.outbye.signal = s.cs.queues.outbye.signal ++ [buildCell kind 0 payload s] := by
  rw [sendTo_zero hrole haddr hstaging, joinLocal_signal hc, joinQueue_signal_room (l := .outbye) hc hroom]
  exact ⟨hstaging, rfl⟩

theorem sendTripReport_queue {flags : Nat} {s : State} (hrole : s.tb.role = .junction) (haddr : s.tb.address ≠ 0)
    (hstaging : s.cs.staging = none) (hroom : s.cs.queues.outbye.signal.length < 16) :
    (sendTripReport flags s).cs.staging = none
      ∧ ∃ c, (sendTripReport flags s).cs.queues.outbye.signal = s.cs.queues.outbye.signal ++ [c] := by
  have hsend (p : Bytes) := sendTo_zero_signal (kind := kTripReport) (payload := p) hrole haddr hstaging rfl hroom
  exact ⟨(hsend _).1, _, (hsend _).2⟩

theorem captureTrip_queue {manual rst : Bool} {s : State} (hrole : s.tb.role = .junction) (haddr : s.tb.address ≠ 0)
    (hstaging : s.cs.staging = none) (hroom : s.cs.queues.outbye.signal.length < 16) :
    (captureTrip manual rst s).cs.staging = none
      ∧ ∃ c, (captureTrip manual rst s).cs.queues.outbye.signal = s.cs.queues.outbye.signal ++ [c] := by
  rw [captureTrip_eq]
  exact sendTripReport_queue hrole haddr hstaging hroom

/-- R83: a recomputation of the persisting causes queues a TRIP_REPORT at most. -/
theorem tuRecompute_queue {s : State} (hrole : s.tb.role = .junction) (haddr : s.tb.address ≠ 0)
    (hstaging : s.cs.staging = none) (hroom : s.cs.queues.outbye.signal.length < 16) :
    (tuRecompute s).cs.staging = none
      ∧ ∃ pre : List Cell, pre.length ≤ 1 ∧ (tuRecompute s).cs.queues.outbye.signal = s.cs.queues.outbye.signal ++ pre := by
  have hsame (t : State) (h : t.cs = s.cs) : t.cs.staging = none
      ∧ ∃ pre : List Cell, pre.length ≤ 1 ∧ t.cs.queues.outbye.signal = s.cs.queues.outbye.signal ++ pre :=
    ⟨h ▸ hstaging, [], by simp, by simp [h]⟩
  have hlater (c : TripCauses) (t : State) : (addLater c t).cs = t.cs := by
    unfold addLater
    simp only
    split <;> rfl
  unfold tuRecompute
  simp only
  split
  · split
    · exact hsame _ (hlater ..)
    · obtain ⟨hnone, c, hc⟩ := captureTrip_queue (manual := false) (rst := false) (s := s.updTu fun u => { u with causes := computeCauses s })
        hrole haddr hstaging hroom
      exact ⟨hnone, [c], by simp, hc⟩
  · exact hsame _ rfl

theorem Effect.node {ps : List Part} {lost : List Law} {s t : State} (h : Effect ps lost s t) (hn : Part.node ∉ ps := by decide) :
    t.tb.role = s.tb.role ∧ t.tb.address = s.tb.address := by
  have hnode := h.same .node hn
  simp only [Part.same, Prod.mk.injEq] at hnode
  exact ⟨hnode.1, hnode.2.1⟩

/-! ## The override ends and is confirmed (R93 to R97) -/

section
variable (s : State)

theorem coverSet_ovr : (coverSet s).tu.ovr = s.tu.ovr := (coverSet_effect s).same .ovr (by decide)

theorem coverSet_covered : (coverSet s).sau.covered = coveredSet s := by
  have hovr : (recomputeMethane (tuRecompute s)).tu.ovr = s.tu.ovr :=
    ((tuRecompute_effect s).seq (rs := covering) (out := []) (recomputeMethane_effect _)).same .ovr (by decide)
  show coveredSet (recomputeMethane (tuRecompute s)) = _
  simp only [coveredSet, hovr]

/-- R94: where no override is left, a derivation after a change of the covered set ends none. -/
theorem coverDerive_of_none {s : State} (h : s.tu.ovr.state = .none) : (sauDerive (coverSet s)).tu.ovr = s.tu.ovr
    ∧ (sauDerive (coverSet s)).sau.covered = 0#16 := by
  rw [sauDerive_of_none (by rw [coverSet_ovr]; exact h)]
  have heff := deriveLevel_effect (coverSet s)
  have hcov : coveredSet s = 0#16 := by simp [coveredSet, h]
  exact ⟨(heff.same .ovr (by decide)).trans (coverSet_ovr s), (heff.same .covered (by decide)).trans ((coverSet_covered s).trans hcov)⟩

/-- R91: what an end makes of the override. -/
theorem endOverride_ovr (reason : EndReason) : (endOverride reason s).tu.ovr
    = { s.tu.ovr with state := .none, set := 0#16, duration := none, lastEnd := some reason } := by
  have hrep : (reportOverride s.tu.ovr.state (clearOverride reason s)).tu.ovr
      = { s.tu.ovr with state := .none, set := 0#16, duration := none, lastEnd := some reason } := by
    rw [(reportOverride_reports ..).tu]; rfl
  rw [endOverride, endOverrideWith_eq]
  split
  · exact (coverDerive_of_none (congrArg Override.state hrep)).1.trans hrep
  · exact hrep

theorem endOverride_active (reason : EndReason) (h : s.tu.ovr.state = .active) : (endOverride reason s).sau.covered = 0#16 := by
  rw [endOverride, endOverrideWith_eq, if_pos h]
  exact (coverDerive_of_none (by rw [(reportOverride_reports ..).tu]; rfl)).2

theorem endOverride_pending (reason : EndReason) (h : s.tu.ovr.state = .pending) :
    Reports (clearOverride reason s) (endOverride reason s) := by
  rw [endOverride, endOverrideWith_eq, if_neg (by simp [h])]
  exact reportOverride_reports ..

variable {s}

theorem overrideWindowExpiry_due (h : s.tu.ovr.state = .pending) (hcount : s.tu.ovr.window ≤ 1) : overrideWindowExpiry s
    = endOverride .window (s.updTu fun u => { u with ovr := { u.ovr with window := u.ovr.window - 1 } }) := by
  have hdue : windowDue s = true := by simp [windowDue, h, hcount]
  rw [overrideWindowExpiry, if_pos hdue, overrideTick]
  simp only [h, hdue, if_true]

theorem overrideDurationExpiry_due (h : s.tu.ovr.state = .active) (hcount : s.tu.ovr.durCount ≤ 1) : overrideDurationExpiry s
    = endOverride .expired (s.updTu fun u => { u with ovr := { u.ovr with durCount := u.ovr.durCount - 1 } }) := by
  have hdue : durationDue s = true := by simp [durationDue, h, hcount]
  rw [overrideDurationExpiry, if_pos hdue, overrideTick]
  simp only [h, hdue, if_true]

theorem doOverrideCancel_eq {src : Source} {tag : Byte} (hsrc : src ≠ .cp) (h : s.tu.ovr.state ≠ .none) :
    doOverrideCancel src tag [] s
      = respond src tag (done []) (endOverride (if src = .surface then .cancelledSurface else .cancelledSp) s) := by
  have hright : spSurface src = true := by cases src <;> first | rfl | exact absurd rfl hsrc
  rw [doOverrideCancel, command_sized (n := 0) hright rfl, if_neg h]

/-- R93: the override made ACTIVE, before its set is covered. -/
def activated (s : State) : State :=
  s.updTu fun u => { u with ovr := { u.ovr with state := .active, window := 0, durCount := u.ovr.duration.getD 0 } }

/-- R103: a channel counts no longer once it is covered. -/
theorem anyCounting_of_covered {s t : State} {p : ChannelInput → Bool} (hc : s.sau.covered = 0#16) (hi : t.sau.inputs = s.sau.inputs)
    (h : anyCounting s p = false) : anyCounting t p = false := by
  rw [anyCounting, List.any_eq_false] at h ⊢
  intro i hm hin
  refine h i hm ?_
  simp only [inputCounts, hi, Bool.and_eq_true] at hin
  simp only [inputCounts, hc, Bool.and_eq_true]
  exact ⟨⟨hin.1.1, by simp⟩, hin.2⟩

/-- R93, R107, R108: where nothing calls for EVACUATE, nothing does once the set is covered. -/
theorem coverActivated_level (hcov : s.sau.covered = 0#16) (hgas : (localCausesOf s).gasEvacuate = false) (hlatch : s.sau.latch = false)
    (hout : s.cs.remote.outbye.level ≠ .evacuate) (hin : s.cs.remote.inbye.level ≠ .evacuate) :
    levelOf (coverSet (activated s)) ≠ .evacuate := by
  have heff := coverSet_effect (activated s)
  have hinputs : (coverSet (activated s)).sau.inputs = s.sau.inputs := heff.same .inputs (by decide)
  have hremote : (coverSet (activated s)).cs.remote = s.cs.remote := heff.same .remote (by decide)
  have hcauses : (coverSet (activated s)).sau.causes = localCausesOf (coverSet (activated s)) := takeCauses_derived _
  have hgas' : (coverSet (activated s)).sau.causes.gasEvacuate = false := by
    rw [hcauses]; exact anyCounting_of_covered hcov hinputs hgas
  have hlatch' : (coverSet (activated s)).sau.latch = false := by
    have hbefore : (recomputeMethane (tuRecompute (activated s))).sau.latch = false :=
      (((tuRecompute_effect _).seq (rs := .trip :: .tripStamp :: methaning) (out := []) (recomputeMethane_effect _)).same .latch (by decide)).trans hlatch
    have htake (t : State) (h : t.sau.latch = false) (hg : (takeCauses t).sau.causes.gasEvacuate = false) : (takeCauses t).sau.latch = false := by
      have hg' : (localCausesOf t).gasEvacuate = false := hg
      show (t.sau.latch || _) = false
      simp only [h, hg', Bool.false_and, Bool.or_self]
    exact htake _ hbefore hgas'
  have hlevel : (coverSet (activated s)).sau.causes.level.code ≤ 1 := by
    rw [LocalCauses.level, hgas']
    simp only [Bool.false_eq_true, if_false]
    split <;> decide
  have hcode (l : SectionLevel) (h : l ≠ .evacuate) : l.code ≤ 1 := by cases l <;> first | decide | exact absurd rfl h
  intro he
  have hc := levelOf_code (coverSet (activated s))
  have h1 := hcode _ hout
  have h2 := hcode _ hin
  rw [he, hlatch', hremote, show (latchLevel false).code = 0 from rfl, show SectionLevel.evacuate.code = 2 from rfl] at hc
  omega

theorem confirmOverride_eq (h : levelOf (coverSet (activated s)) ≠ .evacuate) :
    confirmOverride s = reportOverride .pending (deriveLevel (coverSet (activated s))) := by
  have hlevel : (reportOverride .pending (deriveLevel (coverSet (activated s)))).sau.level ≠ .evacuate := by
    rw [(reportOverride_reports ..).sau, deriveLevel_derived,
      levelOf_deriveLevel]
    exact h
  show evacuationEnd s.sau.level (reportOverride .pending (deriveLevel (coverSet (activated s)))) = _
  rw [evacuationEnd, if_neg (by simp [hlevel])]

theorem doOverrideConfirm_eq {tag : Byte} {p : Bytes} (hlen : p.length = 4) (h : s.tu.ovr.state = .pending)
    (hset : s.tu.ovr.set = BitVec.ofNat 16 (wordAt p 0)) (hdur : s.tu.ovr.duration = some (wordAt p 2)) :
    doOverrideConfirm .surface tag p s = respond .surface tag (done []) (confirmOverride s) := by
  rw [doOverrideConfirm, command_sized (right := surfaceOnly .surface) rfl hlen]
  simp [h, hset, hdur]

end

theorem coverSet_kept (s : State) : OutbyeKept (tuRecompute s) (coverSet s) := by
  have htake (x : BitVec 16) (t : State) : OutbyeKept t (takeCauses (t.updSau fun a => { a with covered := x })) := .of_cs rfl
  exact (recomputeMethane_kept _).trans (htake _ _)

/-- R97: the OVERRIDE_ASK that reports an ACTIVE override joins the OUTBYE queue. -/
theorem reportOverride_queue {before : OverrideState} {s : State} (hrole : s.tb.role = .junction) (haddr : s.tb.address ≠ 0)
    (hstaging : s.cs.staging = none) (hroom : s.cs.queues.outbye.signal.length < 16) (hactive : s.tu.ovr.state = .active) :
    ∃ d : Cell, (reportOverride before s).cs.queues.outbye.signal = s.cs.queues.outbye.signal ++ [d] ∧ d.kind = 34 ∧ d.dst = 0
      ∧ d.payload = u8 2 ++ u8 before.code ++ u16 s.tu.ovr.set.toNat ++ opt16 s.tu.ovr.duration ++ u16 s.tu.ovr.durCount ++ u8 255
          ++ u8 s.tu.causes.byte := by
  have hsend (k : NoticeKind) (body p : Bytes) : (sendTo kOverrideAsk 0 p (postBoth k body s)).cs.queues.outbye.signal
      = s.cs.queues.outbye.signal ++ [buildCell kOverrideAsk 0 p s] :=
    (sendTo_zero_signal (kind := kOverrideAsk) (s := postBoth k body s) hrole haddr hstaging rfl hroom).2
  unfold reportOverride
  simp only [hactive]
  exact ⟨_, hsend .., rfl, rfl, rfl⟩

/-- R93, R97: before the report of a confirmation, a TRIP_REPORT at most is queued for node 0. -/
theorem confirm_queue {s : State} (hrole : s.tb.role = .junction) (haddr : s.tb.address ≠ 0) (hstaging : s.cs.staging = none)
    (hroom : s.cs.queues.outbye.signal.length < 15) (hlevel : levelOf (coverSet (activated s)) ≠ .evacuate) :
    (deriveLevel (coverSet (activated s))).cs.staging = none
      ∧ ∃ pre : List Cell, pre.length ≤ 1
        ∧ (deriveLevel (coverSet (activated s))).cs.queues.outbye.signal = s.cs.queues.outbye.signal ++ pre := by
  have hact : (activated s).tb = s.tb ∧ (activated s).cs = s.cs := ⟨rfl, rfl⟩
  obtain ⟨htb, hcs⟩ := hact
  generalize activated s = u at *
  rw [← htb] at hrole haddr
  rw [← hcs] at hstaging hroom ⊢
  obtain ⟨hnone, pre, hpre, hq⟩ := tuRecompute_queue hrole haddr hstaging (Nat.lt_succ_of_lt hroom)
  obtain ⟨hstill, hsame⟩ := ((coverSet_kept u).trans (deriveLevel_kept _ hlevel)).kept hnone
  exact ⟨hstill, pre, hpre, (congrArg OutQueues.signal hsame).trans hq⟩

/-- Settles O32: the ends of an override and its confirmation. -/
theorem overrideRuns : Obligations.OverrideRuns := by
  refine ⟨fun s h hcount => ?window, fun s h hcount => ?duration, fun src tag s hsrc h => ?cancel,
    fun tag p s hlen h hset hdur hcov hgas hlatch hout hin => ?confirm⟩
  case window =>
    have hrep := endOverride_pending (s.updTu fun u => { u with ovr := { u.ovr with window := u.ovr.window - 1 } }) .window h
    have hzero : s.tu.ovr.window - 1 = 0 := by omega
    refine ⟨_, .of_eq (overrideWindowExpiry_due h hcount), .of_tb hrep.tb, ?_, ?_, ?_, hrep.sau, hrep.gcu, hrep.sbm⟩
    · rw [hrep.tu]; simp [clearOverride, State.updTu, hzero]
    · rw [hrep.tu]; rfl
    · rw [hrep.tu]; rfl
  case duration =>
    have heff := endOverride_effect .expired (s.updTu fun u => { u with ovr := { u.ovr with durCount := u.ovr.durCount - 1 } })
    have hzero : s.tu.ovr.durCount - 1 = 0 := by omega
    refine ⟨_, .of_eq (overrideDurationExpiry_due h hcount), heff.stampsOnly, ?_, endOverride_active _ _ h, heff.channels, heff.block .sbm⟩
    rw [endOverride_ovr]; simp [State.updTu, hzero]
  case cancel =>
    exact ⟨_, .of_eq (doOverrideCancel_eq hsrc h), (endOverride_effect _ s).stampsOnly, endOverride_ovr s _⟩
  case confirm =>
    have hlevel := coverActivated_level hcov hgas hlatch hout hin
    have hdo := doOverrideConfirm_eq (tag := tag) hlen h hset hdur
    rw [confirmOverride_eq hlevel] at hdo
    have hcover := coverSet_effect (activated s)
    have hderive := deriveLevel_effect (coverSet (activated s))
    have hrep := reportOverride_effect .pending (deriveLevel (coverSet (activated s)))
    have hboth : Effect alarming [.levelDerived] (activated s) (deriveLevel (coverSet (activated s))) := hcover.mono.trans hderive.mono
    have hovr : (deriveLevel (coverSet (activated s))).tu.ovr = (activated s).tu.ovr := (hderive.same .ovr (by decide)).trans (coverSet_ovr _)
    have hcovered : (deriveLevel (coverSet (activated s))).sau.covered = coveredSet (activated s) :=
      (hderive.same .covered (by decide)).trans (coverSet_covered _)
    have hset' : (activated s).tu.ovr = { s.tu.ovr with state := .active, window := 0, durCount := wordAt p 2 } := by
      simp [activated, State.updTu, hdur]
    have hrep := reportOverride_reports .pending (deriveLevel (coverSet (activated s)))
    refine ⟨_, .of_eq hdo, (hboth.trans (reportOverride_effect ..).mono).stampsOnly, ?_, ?_, ?_, fun hrole haddr hstaging hroom => ?_⟩
    · rw [hrep.tu, hovr, hset']
    · rw [hrep.sau, hcovered]; rfl
    · rw [hrep.gcu]; exact hboth.channels
    · obtain ⟨hnone, pre, hpre, hq⟩ := confirm_queue hrole haddr hstaging hroom hlevel
      obtain ⟨hrole', haddr'⟩ := hboth.node
      obtain ⟨d, hd, hkind, hdst, hpayload⟩ := reportOverride_queue (before := .pending) (hrole'.trans hrole) (by rw [haddr']; exact haddr) hnone
        (by rw [hq, List.length_append]; omega) (by rw [hovr]; rfl)
      refine ⟨d, pre, by rw [hd, hq], hkind, hdst, ?_⟩
      rw [hpayload, hrep.tu, hovr, hset']
      simp only [hdur]
      rfl


end Sys2Proof.Machine
end

section
/-! PROOFS. The trunk commands and the trunk limits (1.4 to 1.6, 1.9). -/

namespace Sys2Proof.Machine

-- Declarations are elaborated one after another: in a text of this length the threads of many at once would not fit the memory limit.
set_option Elab.async false

/-! ## What a change of trunk state makes of the calls (R143) -/

theorem haltCall_call (i j : Fin 12) (s : State) : (haltCall i s).call j = if j = i then none else s.call j := by
  unfold haltCall
  split
  · rw [freeCall_call, (postCallState_reports ..).call]
  next hnone =>
    split
    next hji => rw [hji, hnone]
    · rfl

/-- An action that frees its own entry alone, done for each of a list, frees exactly those of the list. -/
theorem forEach_free {f : Fin 12 → State → State} (hf : ∀ i j t, (f i t).call j = if j = i then none else t.call j)
    (xs : List (Fin 12)) (s : State) (j : Fin 12) : (forEach xs f s).call j = if j ∈ xs then none else s.call j := by
  induction xs generalizing s with
  | nil => rfl
  | cons x xs ih =>
    show (forEach xs f (f x s)).call j = _
    rw [ih, hf]
    by_cases hx : j ∈ xs <;> by_cases hj : j = x <;> simp [hx, hj]

section
variable (old : TimeBase) (s : State)

theorem ctuTrunkLost_call (j : Fin 12) : (ctuTrunkLost s).call j = none :=
  (forEach_free (fun i j t => clearOwn_call i j .lineLost t) allCalls s j).trans (if_pos (mem_allCalls j))

theorem ctuHalt_call (j : Fin 12) : (ctuHalt s).call j = none :=
  (forEach_free haltCall_call allCalls s j).trans (if_pos (mem_allCalls j))

/-- R143: entering ISLAND_LEAD or HALTED ends every call. -/
theorem trunkChanged_call {old : TimeBase} {s : State} (hne : s.tb.trunk ≠ old.trunk) (h : s.tb.trunk = .islandLead ∨ s.tb.trunk = .halted)
    (j : Fin 12) : (trunkChanged old s).call j = none := by
  unfold trunkChanged
  simp only [hne, if_false]
  obtain h | h := h <;> simp only [h]
  · exact ctuTrunkLost_call ..
  · exact ctuHalt_call ..

theorem trunkChanged_tb : (trunkChanged old s).tb = s.tb := (trunkChanged_effect old s).block .tb

end

/-! ## The limits (R7, R10, R11) -/

section
variable {s : State} {step : TimeBase → TimeBase}

theorem trunkStep_free (h : s.tb.pendingCmd = none) : trunkStep step s = trunkChanged s.tb (s.updTb step) := by
  simp only [trunkStep, finishTrunk, h]

theorem trunkStep_pending (h : s.tb.pendingCmd ≠ none) : trunkStep step s = trunkCommandApply s := by
  obtain ⟨p, hp⟩ := Option.ne_none_iff_exists'.mp h
  simp [trunkStep, trunkCommandApply, hp]

theorem trunkCommandApply_some {p : PendingTrunk} (h : s.tb.pendingCmd = some p) : trunkCommandApply s
    = postDone p (trunkChanged s.tb (s.updTb fun t => { applyCommand p.cmd t with pendingCmd := none })) := by
  simp [trunkCommandApply, finishTrunk, h]

theorem trunkCommandApply_tb {p : PendingTrunk} (h : s.tb.pendingCmd = some p) :
    (trunkCommandApply s).tb = { applyCommand p.cmd s.tb with pendingCmd := none } := by
  rw [trunkCommandApply_some h, (postDone_effect ..).block .tb, trunkChanged_tb]
  rfl

theorem trunkCommandApply_frame (s : State) : SameBut [.tb, .cs, .ctu, .pi] s (trunkCommandApply s) := (trunkCommandApply_effect s).sameBut

/-- R7, R10: a limit reached with no trunk command pending enters ISLAND_LEAD. -/
theorem island_entered {u : TimeBase} (hp : s.tb.pendingCmd = none) (hstep : step s.tb = enterIsland u) (hold : s.tb.trunk ≠ .islandLead)
    (hu : u.address = s.tb.address ∧ u.epoch = s.tb.epoch ∧ u.running = s.tb.running) (hret : TrunkStep step) :
    (trunkStep step s).tb.trunk = .islandLead ∧ (trunkStep step s).tb.lead = some s.tb.address
      ∧ (trunkStep step s).tb.epoch = s.tb.epoch ∧ (trunkStep step s).tb.running = s.tb.running
      ∧ (trunkStep step s).tb.rejoin.count = 0 ∧ (trunkStep step s).tb.candidate = none
      ∧ (∀ c : Fin 12, (trunkStep step s).call c = none) ∧ SameBut [.tb, .cs, .ctu, .pi] s (trunkStep step s) := by
  have htb : (trunkStep step s).tb = enterIsland u := by rw [trunkStep_free hp, trunkChanged_tb, ← hstep]; rfl
  have hcalls (c : Fin 12) : (trunkStep step s).call c = none := by
    have hnew : (s.updTb step).tb.trunk = .islandLead := congrArg TimeBase.trunk hstep
    rw [trunkStep_free hp]
    exact trunkChanged_call (by rw [hnew]; exact hold.symm) (.inl hnew) c
  obtain ⟨ha, he, hr⟩ := hu
  rw [htb]
  exact ⟨rfl, congrArg some ha, he, hr, rfl, rfl, hcalls, (trunkStep_effect hret s).sameBut⟩

theorem listenTimeout_due (htrunk : s.tb.trunk = .listen ∨ s.tb.trunk = .join)
    (hlimit : s.tb.params.listenTimeout * s.tb.params.noiseFactor ≤ s.tb.listenAge + 1
      ∨ (s.cs.status.outbye.carrier = false ∧ s.cs.status.outbye.lostThisRound = false
          ∧ s.tb.params.listenTimeout ≤ s.tb.quietCnt + 1)) :
    listenTimeout s = trunkStep (fun t => enterIsland (huntCounts (quietNow s) t)) s := by
  have hdue : listenDue s = true := by
    obtain h | ⟨hc, hl, h⟩ := hlimit
    · simp [listenDue, huntOver, huntCounts, htrunk, h]
    · simp [listenDue, huntOver, huntCounts, quietNow, htrunk, hc, hl, h]
  rw [listenTimeout, if_pos hdue]

theorem holdoverLimit_due (htrunk : s.tb.trunk = .holdover) (hlimit : s.tb.params.holdoverLimit ≤ s.tb.holdoverCnt + 1) :
    holdoverLimit s = trunkStep (fun t => enterIsland { t with holdoverCnt := t.holdoverCnt + 1 }) s :=
  if_pos (by simp [holdoverDue, htrunk, hlimit])

end

/-- Settles O8: with no command pending a limit enters ISLAND_LEAD; otherwise the command takes its place. -/
theorem trunkLimits : Obligations.TrunkLimits := by
  refine ⟨fun s c htrunk hc hage => .of_eq (if_pos ?_), fun s htrunk hcount hage => .of_eq (if_pos ?_), fun s i hi => ⟨fun hp => ?free, fun hp => ?pending⟩⟩
  · simp [candidateDue, hc, htrunk, hage]
  · simp [runLapseDue, htrunk, hcount, hage]
  case free =>
    obtain ⟨rfl, htrunk, hlimit⟩ | ⟨rfl, htrunk, hlimit⟩ := hi
    · refine ⟨_, .of_eq (listenTimeout_due htrunk hlimit), island_entered hp rfl ?_ ⟨rfl, rfl, rfl⟩ (trunkStep_of_retimed fun _ => rfl)⟩
      obtain h | h := htrunk <;> simp [h]
    · exact ⟨_, .of_eq (holdoverLimit_due htrunk hlimit),
        island_entered hp rfl (by simp [htrunk]) ⟨rfl, rfl, rfl⟩ (trunkStep_of_retimed fun _ => rfl)⟩
  case pending =>
    obtain ⟨p, hsome⟩ := Option.ne_none_iff_exists'.mp hp
    refine ⟨trunkCommandApply s, ?_, .of_eq rfl, by rw [trunkCommandApply_tb hsome]⟩
    obtain ⟨rfl, htrunk, hlimit⟩ | ⟨rfl, htrunk, hlimit⟩ := hi
    · exact .of_eq ((listenTimeout_due htrunk hlimit).trans (trunkStep_pending hp))
    · exact .of_eq ((holdoverLimit_due htrunk hlimit).trans (trunkStep_pending hp))

/-! ## Trunk commands (R15 to R17) -/

theorem cpSurface_of_ne {src : Source} (h : src ≠ .sp) : cpSurface src = true := by simp [cpSurface, h]

theorem trunkTaken_iff (c : TrunkCommand) (t : TimeBase) : trunkTaken c t = true ↔ TakenIn c t := by
  cases c <;> simp [trunkTaken, TakenIn]

section
variable {src : Source} {tag : Byte} {s : State} {c : TrunkCommand}

theorem doTrunkConfigure_setup {p : Bytes} (hsrc : src ≠ .sp) (hlen : p.length = 7) (hp : s.tb.pendingCmd = none) (h : s.tb.trunk = .setup) :
    doTrunkConfigure src tag p s
      = respond src tag (done (trunkParamBytes (clampTrunk p))) (s.updTb fun t => { t with params := clampTrunk p }) := by
  rw [doTrunkConfigure, command_sized (cpSurface_of_ne hsrc) hlen]
  simp [hp, h]

theorem doTrunkConfigure_refused {p : Bytes} (hsrc : src ≠ .sp) (hlen : p.length = 7) (hp : s.tb.pendingCmd = none) (h : s.tb.trunk ≠ .setup) :
    doTrunkConfigure src tag p s = respond src tag (refused .wrongState) s := by
  rw [doTrunkConfigure, command_sized (cpSurface_of_ne hsrc) hlen]
  simp [hp, h]
  rfl

theorem trunkInstr_exec (c : TrunkCommand) (src : Source) (tag : Byte) (s : State) :
    exec (trunkInstr c src tag) s = .next (trunkCommand c src tag [] s) := by cases c <;> rfl

theorem trunkCommand_eq (hsrc : src ≠ .sp) : trunkCommand c src tag [] s =
    if s.tb.pendingCmd.isSome then respond src tag (refused .busy) s
    else if !trunkTaken c s.tb then respond src tag (refused .wrongState) s
    else respond src tag (accepted []) (s.updTb fun t => { t with pendingCmd := some { cmd := c, src := src, tag := tag } }) := by
  rw [trunkCommand, command_sized (n := 0) (cpSurface_of_ne hsrc) rfl]
  split
  · rfl
  split <;> rfl

end

/-- Settles O9: each command by the first case that refuses it. -/
theorem trunkCommandTaken : Obligations.TrunkCommandTaken := by
  refine ⟨fun src tag p s hsrc hlen hp => ⟨fun h => ⟨clampTrunk p, .of_eq (doTrunkConfigure_setup hsrc hlen hp h), ?_⟩,
    fun h => .of_eq (doTrunkConfigure_refused hsrc hlen hp h)⟩, fun c src tag s hsrc => ?_⟩
  · exact ⟨clamp_eq (by decide) _, clamp_eq (by decide) _, clamp_eq (by decide) _, clamp_eq (by decide) _, clamp_eq (by decide) _⟩
  · have heq := trunkCommand_eq (c := c) (tag := tag) (s := s) hsrc
    refine ⟨fun hp => .of_eq (heq.trans ?_) (trunkInstr_exec ..), fun hp hno => .of_eq (heq.trans ?_) (trunkInstr_exec ..),
      fun hp hyes => .of_eq (heq.trans ?_) (trunkInstr_exec ..)⟩
    · rw [if_pos (Option.isSome_iff_ne_none.mpr hp)]
    · simp [hp, Bool.eq_false_iff.mpr (mt (trunkTaken_iff c s.tb).mp hno)]
    · simp [hp, (trunkTaken_iff c s.tb).mpr hyes, State.updTb]

theorem postDone_port {p : PendingTrunk} {q : Port} (h : p.src = portSource q) (s : State) :
    postDone p s = post q .commandDone [byteOf (TrunkCommandCode p.cmd), p.tag, byteOf s.tb.trunk.code] s := by
  rw [postDone, h, portSource_port?]
  rfl

/-- Settles O10: the command's own case of the Time Base, the calls that HALT ends, and COMMAND_DONE. -/
theorem trunkCommandApplied : Obligations.TrunkCommandApplied := by
  intro c src tag s hp htaken
  have htb := trunkCommandApply_tb hp
  refine ⟨trunkCommandApply s, .of_eq rfl, ?_⟩
  rw [htb]
  refine ⟨rfl, ?running, ?epoch, ?startJunction, ?startHead, ?startCounts, ?halt, ?haltJunction, ?haltHead, ?setup, fun q hq => ?done,
    trunkCommandApply_frame s⟩
  case running => cases c <;> rfl
  case epoch => cases c <;> rfl
  case startJunction => rintro rfl hrole; simp [applyCommand, hrole]
  case startHead => rintro rfl hrole; simp [applyCommand, hrole]
  case startCounts => rintro rfl; exact ⟨rfl, rfl, rfl, rfl, rfl⟩
  case halt =>
    rintro rfl
    refine ⟨rfl, fun i => ?_, rfl, rfl⟩
    obtain ⟨-, hnot⟩ := htaken
    rw [trunkCommandApply_some hp]
    have hdone (u : State) : (postDone { cmd := .halt, src := src, tag := tag } u).call i = u.call i := by
      unfold postDone
      split
      · exact (post_reports ..).call i
      · rfl
    rw [hdone]
    exact trunkChanged_call (fun h => hnot h.symm) (.inr rfl) i
  case haltJunction => rintro rfl hrole; simp [applyCommand, hrole]
  case haltHead => rintro rfl hrole; simp [applyCommand, hrole]
  case setup => rintro rfl; rfl
  case done =>
    refine ⟨trunkChanged s.tb (s.updTb fun t => { applyCommand c t with pendingCmd := none }), ?_⟩
    rw [trunkCommandApply_some hp]
    refine (postDone_port hq _).trans ?_
    rw [trunkChanged_tb]
    rfl

end Sys2Proof.Machine
end

section
/-! PROOFS. What a report may do to the Cell Switch, and UPLINK cells (2.4, 2.6, 2.10). -/

namespace Sys2Proof.Machine

-- Declarations are elaborated one after another: in a text of this length the threads of many at once would not fit the memory limit.
set_option Elab.async false

/-! ## Relations every report keeps (R23, R34)

The operations of Chapters 5 to 8 touch the Cell Switch only by sending cells. A relation that holds across what leaves the
Cell Switch alone and across each sending holds across all of them. -/

/-- A relation of two states that the sending of cells keeps. -/
structure Carried (R : State → State → Prop) : Prop where
  trans : ∀ {s t u}, R s t → R t u → R s u
  of_cs : ∀ {s t : State}, t.cs = s.cs → R s t
  send : ∀ kind dst p s, R s (sendTo kind dst p s)
  adjacent : ∀ l kind p s, R s (sendAdjacent l kind p s)

namespace Carried

variable {R : State → State → Prop} (h : Carried R)
include h

theorem refl (s : State) : R s s := h.of_cs rfl

theorem after {s t u : State} (k : R t u) (hcs : t.cs = s.cs) : R s u := h.trans (h.of_cs hcs) k

theorem before {s t u : State} (k : R s t) (hcs : u.cs = t.cs) : R s u := h.trans k (h.of_cs hcs)

theorem forEach {α : Type} {f : α → State → State} (hf : ∀ x t, R t (f x t)) (xs : List α) (s : State) : R s (forEach xs f s) := by
  induction xs generalizing s with
  | nil => exact h.refl s
  | cons x xs ih => exact h.trans (hf x s) (ih (f x s))

variable (s : State)

/-! ### Calls -/

theorem postCallState (i : Fin 12) (e : Call) (new before : Nat) : R s (postCallState i e new before s) := by
  unfold Machine.postCallState
  split
  · exact h.refl s
  · exact h.of_cs rfl

theorem clearCall (i : Fin 12) (c : CallCause) (addr : Nat) (x : Option Line) : R s (clearCall i c addr x s) := by
  have hline (e : Call) (l : Line) (t : State) : R t (if x = some l then t else sendClear e c addr l t) := by
    split
    · exact h.refl t
    unfold sendClear
    split
    · exact h.adjacent ..
    · exact h.refl t
  unfold Machine.clearCall
  split
  · exact h.before (h.trans (h.trans (hline _ .outbye s) (hline _ .inbye _)) (h.postCallState _ i _ _ _)) rfl
  · exact h.refl s

theorem ctuSectionLevel (l : SectionLevel) : R s (ctuSectionLevel l s) := by
  have hclear (i : Fin 12) (t : State) : R t (clearRoutine i t) := by
    unfold clearRoutine
    split
    · split
      · exact h.clearCall ..
      · exact h.refl t
    · exact h.refl t
  rw [ctuSectionLevel_eq]
  split
  · exact h.after (h.forEach hclear allCalls _) rfl
  · exact h.of_cs rfl

theorem trunkChanged (old : TimeBase) : R s (trunkChanged old s) := by
  have hpost (b : Bool) : R s (if b = true then postTrunk old.trunk s else s) := by
    split
    · exact h.of_cs rfl
    · exact h.refl s
  have hlost (t : State) : R t (ctuTrunkLost t) := h.forEach (fun i u => h.clearCall u i _ _ _) allCalls t
  have hhalt (i : Fin 12) (t : State) : R t (haltCall i t) := by
    unfold haltCall
    split
    · exact h.before (h.postCallState t i _ _ _) rfl
    · exact h.refl t
  unfold Machine.trunkChanged
  simp only
  split
  · exact hpost _
  split
  · exact h.trans (hpost _) (hlost _)
  · exact h.trans (hpost _) (hlost _)
  · exact h.trans (hpost _) (hlost _)
  · exact h.trans (hpost _) (h.forEach hhalt allCalls _)
  · exact hpost _

/-! ### Vehicles -/

theorem modVehicle (i : Fin 16) (f : Vehicle → Vehicle) : R s (modVehicle i f s) := h.of_cs (modVehicle_cs s i f)

theorem deriveOrder (i : Fin 16) : R s (deriveOrder i s) := h.of_cs (deriveOrder_cs s i)

theorem grantOne (w : Wait) (rest : List Wait) : R s (grantOne w rest s) := by
  unfold Machine.grantOne
  simp only
  split
  · exact h.after (h.adjacent ..) rfl
  split
  · exact h.of_cs ((deriveOrder_cs ..).trans (modVehicle_cs ..))
  · exact h.of_cs rfl

theorem reexamine : R s (reexamine s) := by
  have hloop (n : Nat) (t : State) : R t (grantLoop n t) := by
    induction n generalizing t with
    | zero => exact h.refl t
    | succ n ih =>
      unfold grantLoop
      split
      · exact h.refl t
      split
      · exact h.trans (h.grantOne ..) (ih _)
      · exact h.refl t
  exact hloop _ s

theorem leaveIfPassed (i : Fin 16) : R s (leaveIfPassed i s) := by
  unfold Machine.leaveIfPassed
  split
  · split
    · exact h.after (h.reexamine _) (modVehicle_cs ..)
    · exact h.refl s
  · exact h.refl s

theorem rederive (i : Fin 16) : R s (rederive i s) := h.before (h.leaveIfPassed s i) (deriveOrder_cs ..)

theorem rederiveAll : R s (rederiveAll s) := h.forEach (fun i t => h.rederive t i) allVehicles s

theorem vuSectionLevel (l : SectionLevel) : R s (vuSectionLevel l s) := by
  have hset : R s (s.updVu fun u => { u with level := l }) := h.of_cs rfl
  have hdrop (t : State) : R t (dropInbyeWaits t) := by
    unfold dropInbyeWaits
    refine h.after (h.forEach (fun id u => ?_) _ _) rfl
    split
    · exact h.of_cs (modVehicle_cs ..)
    · exact h.refl u
  unfold Machine.vuSectionLevel
  simp only
  split
  · exact h.trans (h.trans hset (hdrop _)) (h.trans (h.reexamine _) (h.rederiveAll _))
  split
  · exact h.trans hset (h.trans (h.reexamine _) (h.rederiveAll _))
  · exact h.trans hset (h.rederiveAll _)

/-! ### Causes, override and section level -/

theorem recomputeMethane : R s (recomputeMethane s) := by
  unfold Machine.recomputeMethane
  simp only
  split
  · exact h.refl s
  · exact h.after (h.rederiveAll _) rfl

theorem tuRecompute : R s (tuRecompute s) := by
  have hcapture (t : State) : R t (captureTrip false false t) := by
    rw [captureTrip_eq, sendTripReport]
    exact h.after (h.send ..) rfl
  have hlater (c : TripCauses) (t : State) : R t (addLater c t) := by
    unfold addLater
    simp only
    split
    · exact h.of_cs rfl
    · exact h.refl t
  unfold Machine.tuRecompute
  simp only
  split
  · split
    · exact h.after (hlater _ _) rfl
    · exact h.after (hcapture _) rfl
  · exact h.of_cs rfl

theorem coverSet : R s (coverSet s) := by
  have htake (x : BitVec 16) (t : State) : R t (takeCauses (t.updSau fun a => { a with covered := x })) := h.of_cs rfl
  exact h.trans (h.trans (h.tuRecompute s) (h.recomputeMethane _)) (htake _ _)

theorem deriveLevel : R s (deriveLevel s) := by
  rw [deriveLevel_eq]
  split
  · exact h.of_cs rfl
  · have hpost (b : SectionLevel) (t : State) : R t (postSectionLevel b t) := h.of_cs (postBoth_cs ..)
    have hset (t : State) : R t (setLevel (levelOf t) t) := h.of_cs rfl
    exact h.trans (h.trans (h.trans (hset s) (hpost _ _)) (h.ctuSectionLevel _ _)) (h.vuSectionLevel _ _)

theorem reportOverride (before : OverrideState) : R s (reportOverride before s) := by
  unfold Machine.reportOverride
  exact h.after (h.send ..) rfl

theorem endOverrideWith {derive : State → State} (hd : ∀ t, R t (derive t)) (reason : EndReason) :
    R s (endOverrideWith derive reason s) := by
  have hrep : R s (Machine.reportOverride s.tu.ovr.state (clearOverride reason s)) := h.after (h.reportOverride ..) rfl
  rw [endOverrideWith_eq]
  split
  · exact h.trans (h.trans hrep (h.coverSet _)) (hd _)
  · exact hrep

theorem sauDerive : R s (sauDerive s) := by
  have hend (b : SectionLevel) (t : State) : R t (evacuationEnd b t) := by
    unfold evacuationEnd
    split
    · exact h.endOverrideWith t h.deriveLevel _
    · exact h.refl t
  exact h.trans (h.deriveLevel s) (hend _ _)

end Carried

/-! ## Latched indications stay (R36) -/

/-- No latched indication is cleared. -/
structure IndsStay (s t : State) : Prop where
  stay : ∀ l i, (s.cs.status.get l).latched i = true → (t.cs.status.get l).latched i = true

theorem LineStatus.latched_setInd_of_latched (st : LineStatus) (i j : Indication) (h : st.latched j = true) : (st.setInd i).latched j = true := by
  cases i <;> cases j <;> first | exact h | rfl

theorem latchInd_indsStay (l : Line) (i : Indication) (s : State) : IndsStay s (latchInd l i s) := by
  refine ⟨fun k j hj => ?_⟩
  rw [latchInd_cs]
  by_cases hk : k = l
  · subst hk
    simpa using LineStatus.latched_setInd_of_latched _ i j hj
  · obtain rfl : k = l.other := by cases k <;> cases l <;> first | rfl | exact absurd rfl hk
    simpa using hj

theorem IndsStay.trans {s t u : State} (h : IndsStay s t) (k : IndsStay t u) : IndsStay s u :=
  ⟨fun l i hi => k.stay l i (h.stay l i hi)⟩

theorem IndsStay.of_status {s t : State} (h : t.cs.status = s.cs.status) : IndsStay s t :=
  ⟨fun l i hi => by rw [h]; exact hi⟩

theorem joinQueue_indsStay (l : Line) (c : Cell) (s : State) : IndsStay s (joinQueue l c s) := by
  unfold joinQueue
  cases c.classOf <;> simp only
  case signal =>
    split
    · exact .of_status rfl
    · exact latchInd_indsStay ..
  case data =>
    split
    · exact .of_status rfl
    split
    · exact .of_status rfl
    · exact latchInd_indsStay ..
  all_goals exact .of_status rfl

theorem placeCell_indsStay (l : Line) (c : Cell) (s : State) : IndsStay s (placeCell l c s) := by
  unfold placeCell
  split
  · exact .of_status rfl
  unfold joinLocal
  split
  · exact .of_status rfl
  · exact joinQueue_indsStay ..

theorem deliver_indsStay (from? : Option Line) (c : Cell) (s : State) : IndsStay s (deliver from? c s) := by
  have hlatch (i : Indication) (t : State) : IndsStay t (latchArrival from? i t) := by
    unfold latchArrival
    split
    · exact latchInd_indsStay ..
    · exact (latchInd_indsStay ..).trans (latchInd_indsStay ..)
  have hset (b : Bool) (q : List Cell) (t : State) : IndsStay t (setDeliveryQueue b q t) := .of_status (by cases b <;> rfl)
  unfold deliver
  simp only
  split
  · split
    · exact (hset ..).trans (.of_status rfl)
    · exact hset ..
  split
  · exact hlatch ..
  · split
    · exact (hset ..).trans (hlatch ..)
    · exact hlatch ..

theorem indsStay_carried : Carried IndsStay where
  trans := IndsStay.trans
  of_cs h := .of_status (by rw [h])
  send kind dst p s := by
    unfold sendTo
    simp only
    split
    · split
      · exact .of_status rfl
      · exact deliver_indsStay ..
    · exact placeCell_indsStay ..
  adjacent l kind p s := placeCell_indsStay ..

/-! ## A taken UPLINK (R26, R33, R39) -/

theorem byteAt_take {p : Bytes} {n i : Nat} (h : i < n) : byteAt (p.take n) i = byteAt p i := by
  simp [byteAt, List.getD_eq_getElem?_getD, List.getElem?_take_of_lt h]

theorem byteAt_drop (p : Bytes) (k i : Nat) : byteAt (p.drop k) i = byteAt p (k + i) := by
  simp [byteAt, List.getD_eq_getElem?_getD, List.getElem?_drop]

/-- R181: a payload byte within the stated length is the byte of the raw cell six further on. -/
theorem decodeCell_payload {raw : Bytes} {i : Nat} (h : i < rawLength raw) (hi : i < 24) :
    byteAt (decodeCell raw).payload i = byteAt raw (6 + i) := by
  rw [decodeCell, byteAt_take h, byteAt_take hi, byteAt_drop]

section
variable {l : Line} {s : State}

theorem takeHold_held (hold : Option Nat) : (takeHold l hold s).cs.held = (match hold with
    | some n => s.cs.held.set l n
    | none => s.cs.held) := by
  unfold takeHold
  split
  · rfl
  · rfl
  · rw [latchInd_cs]; rfl

theorem takeHold_received {n : Nat} (h : n ≠ 0) : ((takeHold l (some n) s).cs.status.get l).holdReceived = true := by
  obtain ⟨k, rfl⟩ := Nat.exists_eq_succ_of_ne_zero h
  show ((latchInd l .holdReceived _).cs.status.get l).latched .holdReceived = true
  rw [latchInd_status_same]
  simp

theorem takeLevel_other {epoch : Nat} {level : SectionLevel} (h : epoch ≠ s.tb.epoch) : takeLevel l epoch level s = s := if_neg h

theorem takeLevel_remote {epoch : Nat} {level : SectionLevel} (h : epoch = s.tb.epoch) :
    (takeLevel l epoch level s).cs.remote = s.cs.remote.set l { level := level, age := 0 } := by
  unfold takeLevel
  rw [if_pos h]
  exact (sauDerive_effect _).same .remote (by decide)

/-- R39: a taken level leaves the lines as they are, and latched indications latched. -/
theorem takeLevel_indsStay (epoch : Nat) (level : SectionLevel) : IndsStay s (takeLevel l epoch level s) := by
  have hderive (t : State) (h : t.cs.status = s.cs.status) : IndsStay s (sauDerive t) :=
    (IndsStay.of_status h).trans (indsStay_carried.sauDerive t)
  unfold takeLevel
  split
  · exact hderive _ rfl
  · exact .of_status rfl

end

/-- R26: what an UPLINK leaves of the line before its level is taken. -/
def uplinkNoted (c : Cell) (s : State) : State :=
  (takeHold .inbye (if bitOf (byteAt c.payload 2) 2 then some (byteAt c.payload 3) else none) s).updStatus .inbye fun st => { st with
    neighbour := some c.src, nbTripOut := some (bitOf (byteAt c.payload 2) 3), nbMode := some (supplyModeOf (byteAt c.payload 4)) }

theorem takeUplink_eq (c : Cell) (s : State) :
    takeUplink c s = takeLevel .inbye (byteAt c.payload 0) (sectionLevelOf (byteAt c.payload 1)) (uplinkNoted c s) := rfl

theorem uplinkNoted_effect (c : Cell) (s : State) : Effect (.flow :: .line :: telling) [] s (uplinkNoted c s) :=
  (takeHold_effect ..).mono.trans (updStatus_effect ..).mono

theorem uplinkNoted_held (c : Cell) (s : State) : (uplinkNoted c s).cs.held
    = if bitOf (byteAt c.payload 2) 2 then { s.cs.held with inbye := byteAt c.payload 3 } else s.cs.held := by
  show (takeHold .inbye _ s).cs.held = _
  rw [takeHold_held]
  split <;> simp_all [PerLine.set]

theorem takeUplink_held (c : Cell) (s : State) : (takeUplink c s).cs.held = (uplinkNoted c s).cs.held := by
  have h := (takeLevel_effect .inbye (byteAt c.payload 0) (sectionLevelOf (byteAt c.payload 1)) (uplinkNoted c s)).same .flow (by decide)
  simp only [Part.same, Prod.mk.injEq] at h
  exact h.2.2

/-- R38: what LINE_STATUS_READ gives of the neighbour. -/
theorem takeUplink_neighbour (c : Cell) (s : State) : (takeUplink c s).cs.status.inbye.neighbour = some c.src
    ∧ (takeUplink c s).cs.status.inbye.nbTripOut = some (bitOf (byteAt c.payload 2) 3)
    ∧ (takeUplink c s).cs.status.inbye.nbMode = some (supplyModeOf (byteAt c.payload 4)) := by
  have h := (takeLevel_effect .inbye (byteAt c.payload 0) (sectionLevelOf (byteAt c.payload 1)) (uplinkNoted c s)).same .line (by decide)
  have hplain : (takeUplink c s).cs.status.inbye.plain = (uplinkNoted c s).cs.status.inbye.plain := (Prod.mk.inj h).2
  exact ⟨congrArg LineStatus.neighbour hplain, congrArg LineStatus.nbTripOut hplain, congrArg LineStatus.nbMode hplain⟩

theorem takeUplink_received {c : Cell} {s : State} (hflag : bitOf (byteAt c.payload 2) 2 = true) (hn : byteAt c.payload 3 ≠ 0) :
    (takeUplink c s).cs.status.inbye.holdReceived = true := by
  have hnoted : ((uplinkNoted c s).cs.status.get .inbye).latched .holdReceived = true := by
    rw [uplinkNoted, if_pos hflag]
    exact takeHold_received (l := .inbye) (s := s) hn
  exact (takeLevel_indsStay _ _).stay .inbye .holdReceived hnoted

theorem uplinkReceived_good {cell : Bytes} {s : State} (hcrc : crcGood cell = true) (hkind : byteAt cell 0 = 2)
    (hlen : byteAt cell 1 % 32 = 5) : cellZeroInbye cell s = takeUplink (decodeCell cell) (markGood .inbye s) := by
  have hkind' : (decodeCell cell).kind = 2 := hkind
  unfold cellZeroInbye
  simp only [hcrc, Bool.not_true, Bool.false_eq_true, if_false, hkind', rawLength, hlen]
  rfl

/-- Settles O12: the neighbour report, the hold request and the level by what takes each. -/
theorem uplinkTaken : Obligations.UplinkTaken := by
  intro cell s hcrc hkind hlen
  have hbyte (i : Nat) (h : i < 5) : byteAt (decodeCell cell).payload i = byteAt cell (6 + i) :=
    decodeCell_payload (by rw [rawLength, hlen]; exact h) (Nat.lt_of_lt_of_le h (by decide))
  have h0 : byteAt (decodeCell cell).payload 0 = byteAt cell 6 := hbyte 0 (by decide)
  have h1 : byteAt (decodeCell cell).payload 1 = byteAt cell 7 := hbyte 1 (by decide)
  have h2 : byteAt (decodeCell cell).payload 2 = byteAt cell 8 := hbyte 2 (by decide)
  have h3 : byteAt (decodeCell cell).payload 3 = byteAt cell 9 := hbyte 3 (by decide)
  have h4 : byteAt (decodeCell cell).payload 4 = byteAt cell 10 := hbyte 4 (by decide)
  obtain ⟨hnb, htrip, hmode⟩ := takeUplink_neighbour (decodeCell cell) (markGood .inbye s)
  have hheld := (takeUplink_held (decodeCell cell) (markGood .inbye s)).trans (uplinkNoted_held ..)
  have hreceived := @takeUplink_received (decodeCell cell) (markGood .inbye s)
  have heff := takeUplink_effect (decodeCell cell) (markGood .inbye s)
  have hnoted := uplinkNoted_effect (decodeCell cell) (markGood .inbye s)
  have hepoch : (uplinkNoted (decodeCell cell) (markGood .inbye s)).tb.epoch = s.tb.epoch := hnoted.same .epoch (by decide)
  have hremote : (uplinkNoted (decodeCell cell) (markGood .inbye s)).cs.remote = s.cs.remote := hnoted.same .remote (by decide)
  have htaken := takeUplink_eq (decodeCell cell) (markGood .inbye s)
  rw [h0, h1] at htaken
  rw [h2, h3] at hheld hreceived
  have hsame (h : byteAt cell 6 = s.tb.epoch) := takeLevel_remote (l := .inbye) (level := sectionLevelOf (byteAt cell 7)) (h.trans hepoch.symm)
  rw [hremote] at hsame
  have hother (h : byteAt cell 6 ≠ s.tb.epoch) := takeLevel_other (l := .inbye) (level := sectionLevelOf (byteAt cell 7))
    (s := uplinkNoted (decodeCell cell) (markGood .inbye s)) (epoch := byteAt cell 6) (by rw [hepoch]; exact h)
  refine ⟨_, .of_eq (uplinkReceived_good hcrc hkind hlen), hnb, ?_, ?_, fun hno => ?_, fun hyes => ⟨?_, hreceived hyes⟩,
    fun h => ⟨?_, ?_⟩, fun h => ⟨?_, ?_⟩, ?_, heff.stampsOnly, heff.block .sbm, heff.pending⟩
  · rw [htrip, h2]
  · rw [hmode, h4]
  · rw [hheld, if_neg (by simp [hno])]; rfl
  · rw [hheld, if_pos hyes]; rfl
  · rw [htaken]; exact congrArg PerLine.inbye (hsame h)
  · rw [htaken]; exact takeLevel_derived (h.trans hepoch.symm)
  · rw [htaken]; exact (congrArg (fun u : State => u.cs.remote) (hother h)).trans hremote
  · rw [htaken]; exact (congrArg State.sau (hother h)).trans (hnoted.block .sau)
  · rw [htaken]
    by_cases h : byteAt cell 6 = s.tb.epoch
    · rw [hsame h]; rfl
    · exact congrArg (fun u : State => u.cs.remote.outbye) (hother h) |>.trans (congrArg PerLine.outbye hremote)

end Sys2Proof.Machine
end

section
/-! PROOFS. The cells of positions 1 to 15 (2.4, 2.5). -/

namespace Sys2Proof.Machine

-- Declarations are elaborated one after another: in a text of this length the threads of many at once would not fit the memory limit.
set_option Elab.async false

/-! ## The acceptance filter (R27, R28) -/

theorem lengthBad_iff (kind len : Nat) : lengthBad kind len = true ↔
    24 < len ∨ ∃ cls lo hi, kindInfo kind = some (cls, lo, hi) ∧ (len < lo ∨ hi < len) := by
  unfold lengthBad
  cases hk : kindInfo kind with
  | none => simp
  | some x => obtain ⟨cls, lo, hi⟩ := x; simp

theorem notFromHead_iff (c : Cell) : notFromHead c = true ↔ c.kind = 64 ∧ c.src ≠ 0 := by simp [notFromHead, kCommand]

theorem kindUnknown_iff (c : Cell) : kindUnknown c = true ↔ kindInfo c.kind = none := by simp [kindUnknown]

theorem roundStale_iff (s : State) (c : Cell) : roundStale s c = true ↔
    c.classOf = .data ∧ s.tb.params.staleLimit < (s.tb.running % 256 + 256 - c.stamp) % 256 := by
  rw [roundStale, Bool.and_eq_true, decide_eq_true_iff]
  exact and_congr_right fun _ => decide_eq_true_iff

/-- R28: the cases of a drop, by the tests of R27. -/
theorem dropped_iff (s : State) (l : Line) (len : Nat) (c : Cell) : dropped s l len c = true ↔
    24 < len
    ∨ (∃ cls lo hi, kindInfo c.kind = some (cls, lo, hi) ∧ (len < lo ∨ hi < len))
    ∨ (c.kind = 64 ∧ c.src ≠ 0)
    ∨ (kindInfo c.kind = none ∧ (c.cls = .alarm ∨ c.cls = .call ∨ (s.cs.dropSet.get l).kindUnknown = true))
    ∨ (62 < c.hop + 1 ∧ (s.cs.dropSet.get l).hopExceeded = true)
    ∨ (c.classOf = .data ∧ s.tb.params.staleLimit < (s.tb.running % 256 + 256 - c.stamp) % 256
        ∧ (s.cs.dropSet.get l).roundStale = true) := by
  simp only [dropped, Bool.or_eq_true, Bool.and_eq_true, lengthBad_iff, notFromHead_iff, kindUnknown_iff, roundStale_iff,
    decide_eq_true_eq, hopExceeded, or_assoc, and_or_left, and_assoc]

/-! ## Disposal (R30) -/

section
variable {l : Line} {raw : Bytes} {s : State}

/-- R26 to R28: what is done with a received cell, once the line is one the node receives. -/
theorem receiveCell_eq (hline : s.tb.role = .head → l = .inbye) : receiveCell l raw s =
    if !crcGood raw then badCell l (decodeCell raw) s
    else if (decodeCell raw).kind = kIdle then markGood l s
    else if (decodeCell raw).kind = kMarker || (decodeCell raw).kind = kUplink || dropped s l (rawLength raw) (decodeCell raw) then
      addFiltered l (markGood l s)
    else dispose l (decodeCell raw) (markGood l s) := by
  have hnot : (s.isHead && decide (l = .outbye)) = false := by
    cases hr : s.tb.role <;> simp [State.isHead, hr]
    rw [hline hr]; simp
  unfold receiveCell
  simp only [hnot, Bool.false_eq_true, if_false]

theorem receiveCell_bad (hline : s.tb.role = .head → l = .inbye) (h : crcGood raw = false) : receiveCell l raw s =
    if (decodeCell raw).kind = 0 then latchInd l .crcErrors s else addFiltered l (latchInd l .crcErrors s) := by
  rw [receiveCell_eq hline, h]; rfl

theorem receiveCell_idle (hline : s.tb.role = .head → l = .inbye) (h : crcGood raw = true) (hk : (decodeCell raw).kind = 0) :
    receiveCell l raw s = markGood l s := by
  rw [receiveCell_eq hline, h, hk]; rfl

theorem receiveCell_filtered (hline : s.tb.role = .head → l = .inbye) (h : crcGood raw = true) (hk : (decodeCell raw).kind ≠ 0)
    (hd : (decodeCell raw).kind = 1 ∨ (decodeCell raw).kind = 2 ∨ dropped s l (rawLength raw) (decodeCell raw) = true) :
    receiveCell l raw s = addFiltered l (markGood l s) := by
  rw [receiveCell_eq hline, h, if_neg (by simp), if_neg (show ¬ _ = kIdle from hk), if_pos]
  obtain h | h | h := hd <;> simp [h, kMarker, kUplink]

theorem receiveCell_accepted (hline : s.tb.role = .head → l = .inbye) (h : crcGood raw = true) (h0 : (decodeCell raw).kind ≠ 0)
    (h1 : (decodeCell raw).kind ≠ 1) (h2 : (decodeCell raw).kind ≠ 2) (hd : dropped s l (rawLength raw) (decodeCell raw) = false) :
    receiveCell l raw s = dispose l (decodeCell raw) (markGood l s) := by
  rw [receiveCell_eq hline, h, if_neg (by simp), if_neg (show ¬ _ = kIdle from h0), if_neg (by simp [h1, h2, hd, kMarker, kUplink])]

end

section
variable {l : Line} {c : Cell} {s : State}

theorem dispose_call (h : c.classOf = .call) :
    dispose l c s = callCell l c.src c.dst (if c.kind = 80 then some c.payload else none) s := by
  have hvoice : voiceOf c = if c.kind = 80 then some c.payload else none := by simp [voiceOf, kVoice]
  rw [dispose, if_pos h, hvoice]

theorem dispose_here (h : c.classOf ≠ .call) (hd : c.dst = s.tb.address ∨ c.dst = 63 ∨ (s.tb.role = .head ∧ c.dst = 0)) :
    dispose l c s = consume l c s := by
  have hown : (ownDest c.dst s || decide (c.dst = 63)) = true := by
    by_cases h63 : c.dst = 63
    · simp [h63]
    · have := (ownDest_iff c.dst s).mpr ⟨h63, by tauto⟩
      simp [this]
  rw [dispose, if_neg h, if_pos hown]

theorem dispose_beyond (h : c.classOf ≠ .call) (h1 : c.dst ≠ s.tb.address) (h2 : c.dst ≠ 63) (h3 : s.tb.role = .head → c.dst ≠ 0) :
    dispose l c s = if s.quiet then s else if onwardLine c.dst s = l then addFiltered l s else relayCell (onwardLine c.dst s) c s := by
  have hown : ownDest c.dst s = false := by
    rw [Bool.eq_false_iff, Ne, ownDest_iff]
    tauto
  rw [dispose, if_neg h, if_neg (by simp [hown, h2])]

theorem consume_delivered (h : c.kind ∉ [16, 17, 18, 19, 20, 48, 49, 50, 64]) : consume l c s = deliver (some l) c s := by
  unfold consume
  split
  case h_10 => rfl
  all_goals next hk => simp [hk] at h

/-- R20: a cell that a block takes is taken as the row of its kind takes it. -/
theorem consume_taken {j : Instr} (h : (c.kind, j) ∈ [(16, .callSetupReceived l c.src c.payload), (17, .callAlertingReceived l c.src c.payload),
    (18, .callConnectReceived l c.src c.payload), (19, .callRefusedReceived l c.src c.payload),
    (20, .callClearReceived l c.src c.payload), (48, .blockRequestReceived l c.payload),
    (49, .blockGrantReceived l c.payload), (50, .blockExitReceived l c.payload), (64, .commandReceived c.payload)]) :
    Goes j s (consume l c s) := by
  simp only [List.mem_cons, Prod.mk.injEq, List.not_mem_nil, or_false] at h
  unfold consume
  obtain ⟨hk, rfl⟩ | ⟨hk, rfl⟩ | ⟨hk, rfl⟩ | ⟨hk, rfl⟩ | ⟨hk, rfl⟩ | ⟨hk, rfl⟩ | ⟨hk, rfl⟩ | ⟨hk, rfl⟩ | ⟨hk, rfl⟩ := h <;> rw [hk] <;> rfl

end

/-- Settles O13: a received cell by the first test it meets. -/
theorem cellsDisposed : Obligations.CellsDisposed := by
  rintro l raw c s i rfl hline rfl
  refine ⟨fun h => .of_eq (receiveCell_bad hline h), fun h hk => .of_eq (receiveCell_idle hline h hk), fun h hk => .of_eq ?_,
    dropped_iff s l (rawLength raw) _, fun h h0 h1 h2 => ⟨fun hd => .of_eq (receiveCell_filtered hline h h0 (.inr (.inr hd))), ?_, ?_⟩⟩
  · exact receiveCell_filtered hline h (by omega) (hk.imp id .inl)
  · intro hd hcall
    exact ⟨_, .of_eq ((receiveCell_accepted hline h h0 h1 h2 hd).trans (dispose_call hcall)), .of_eq rfl⟩
  · intro hd hcall
    have hgo := receiveCell_accepted hline h h0 h1 h2 hd
    refine ⟨fun hdst => ?_, fun hd1 hd2 hd3 => ?_⟩
    · have hhere := hgo.trans (dispose_here hcall hdst)
      exact ⟨fun hk => .of_eq (hhere.trans (consume_delivered hk)), fun j hj => ⟨_, .of_eq hhere, consume_taken hj⟩⟩
    · have hbeyond := hgo.trans (dispose_beyond hcall hd1 hd2 hd3)
      have hquiet : (markGood l s).quiet = s.quiet := rfl
      have honward : onwardLine (decodeCell raw).dst (markGood l s) = onwardLine (decodeCell raw).dst s := rfl
      have hreserve : reserveRefuses (decodeCell raw) (markGood l s) = reserveRefuses (decodeCell raw) s := rfl
      have hother : l.other ≠ l := by cases l <;> decide
      refine ⟨fun hq => .of_eq ?_, fun hq ho => .of_eq ?_, fun hq ho hr => .of_eq ?_, fun hq ho hr => .of_eq ?_⟩ <;>
        rw [hbeyond, hquiet, honward, hq]
      · rfl
      · rw [if_neg (by simp), if_pos ho]
      · rw [if_neg (by simp), ho, if_neg hother, relayCell, hreserve, if_pos hr]
      · rw [if_neg (by simp), ho, if_neg hother, relayCell, hreserve, if_neg (by simp [hr])]

end Sys2Proof.Machine
end

section
/-! PROOFS. The ends of transactions and the failure of a bus (3.1, 3.2, 3.5, 4.4, 6.5). -/

namespace Sys2Proof.Machine

-- Declarations are elaborated one after another: in a text of this length the threads of many at once would not fit the memory limit.
set_option Elab.async false

/-! ## A refuge record that nothing is told about (R116, R120)

An evaluation of a channel may report a refuge, which returns its report count to 0 and touches nothing else of it. -/

/-- A refuge record is as it was but for its report count, which stays at 0 once there, and so are its stamp and the time. -/
structure RefugeKept (r : Fin 4) (s t : State) : Prop where
  record : t.refuge r = { s.refuge r with report := (t.refuge r).report }
  count : (s.refuge r).report = 0 → (t.refuge r).report = 0
  stamp : t.tb.refugeStamps.get r = s.tb.refugeStamps.get r
  now : t.now = s.now

namespace RefugeKept

variable {r : Fin 4} {s t u : State}

theorem of_eq (h : t.refuge r = s.refuge r) (hs : t.tb.refugeStamps.get r = s.tb.refugeStamps.get r) (hn : t.now = s.now) : RefugeKept r s t :=
  ⟨by rw [h], fun h0 => by rw [h, h0], hs, hn⟩

theorem refl (r : Fin 4) (s : State) : RefugeKept r s s := .of_eq rfl rfl rfl

theorem trans (h : RefugeKept r s t) (k : RefugeKept r t u) : RefugeKept r s u :=
  ⟨by rw [k.record, h.record], fun h0 => k.count (h.count h0), k.stamp.trans h.stamp, k.now.trans h.now⟩

theorem state (h : RefugeKept r s t) : (t.refuge r).state = (s.refuge r).state := by rw [h.record]

end RefugeKept

theorem Effect.now {ps : List Part} {lost : List Law} {s t : State} (h : Effect ps lost s t) (hc : Part.clock ∉ ps := by decide) :
    t.now = s.now := by
  have hclock := h.same .clock hc
  simp only [Part.same, Prod.mk.injEq] at hclock
  simp only [State.now, hclock.1, hclock.2.1]

theorem Effect.refugeKept {ps : List Part} {lost : List Law} {s t : State} (h : Effect ps lost s t) (r : Fin 4)
    (hr : Part.refuges ∉ ps := by decide) (hs : Part.refugeStamps ∉ ps := by decide) (hc : Part.clock ∉ ps := by decide) : RefugeKept r s t :=
  .of_eq (refuge_of_refuges (h.same .refuges hr) r) (congrArg (·.get r) (h.same .refugeStamps hs)) (h.now hc)

section
variable (r : Fin 4) (s : State)

theorem airEvent_refugeKept (i : Fin 16) (a b : Option ChannelInput) : RefugeKept r s (airEvent i a b s) := by
  have hsend (q : Fin 4) (x : RefugeReasons) (t : State) : RefugeKept r t (sendRefugeReport q x t) := by
    have heff := sendRefugeReport_effect q x t
    by_cases hq : r = q
    · subst hq
      have hown := sendRefugeReport_refuge r t x
      exact ⟨by rw [hown], fun _ => by rw [hown], congrArg (·.get r) (heff.same .refugeStamps (by decide)), heff.now⟩
    · exact .of_eq (sendRefugeReport_others q t x r hq) (congrArg (·.get r) (heff.same .refugeStamps (by decide))) heff.now
  unfold airEvent
  split
  · split
    · split
      · exact ((postRefuge_effect ..).refugeKept r).trans (hsend ..)
      · exact .refl r s
    · exact .refl r s
  · exact .refl r s

/-- R66, R120: an evaluation of a channel moves nothing of a refuge record but its report count. -/
theorem commitChannel_refugeKept (i : Fin 16) (c : Channel) : RefugeKept r s (commitChannel i c s) := by
  have hset : RefugeKept r s (s.setChannel i c) := .of_eq rfl rfl rfl
  have hmethane (t : State) := (recomputeMethane_effect t).refugeKept r
  have hreport (old : Channel) (t : State) := (reportChannel_effect i old t).refugeKept r
  have htrip (t : State) := (tuRecompute_effect t).refugeKept r
  have halarm (x : Option ChannelInput) (t : State) : RefugeKept r t (sauRecompute (t.updSau fun a => { a with inputs := vset a.inputs i x })) :=
    RefugeKept.trans (t := t.updSau fun a => { a with inputs := vset a.inputs i x }) (.of_eq rfl rfl rfl) ((sauRecompute_effect _).refugeKept r)
  have hair (a b : Option ChannelInput) (t : State) := airEvent_refugeKept r t i a b
  exact ((((hset.trans (hmethane _)).trans (hreport _ _)).trans (htrip _)).trans (halarm _ _)).trans (hair _ _ _)

end

/-! ## A miss handed over (R57, R72, R115) -/

section
variable {i : Fin 16} {f : ChannelConfig} {p : PollConfig} {s : State}

theorem channelMiss_of_poll (hc : (s.channel i).cfg = some f) (hp : f.poll = some p) (he : (s.channel i).enabled = true) (q : MissReason) :
    channelMiss i q s = commitChannel i ((s.channel i).missed p.missLimit q) s := by
  simp only [channelMiss, hc, hp, he, if_true]

/-- R57: what a completion of a channel's poll does: nothing, or its record replaced. -/
theorem handOver_channel (i : Fin 16) (c : Completion) (s : State) :
    handOver (.chan i) c s = s ∨ (∃ x, handOver (.chan i) c s = commitChannel i x s) ∨ ∃ x, handOver (.chan i) c s = s.setChannel i x := by
  cases c with
  | reading raw sat =>
    show channelReading i raw sat s = s ∨ (∃ x, channelReading i raw sat s = _) ∨ ∃ x, channelReading i raw sat s = _
    simp only [channelReading]
    split
    · split
      · split
        · exact .inr (.inl ⟨_, rfl⟩)
        · exact .inl rfl
      · exact .inl rfl
    · exact .inl rfl
  | miss q =>
    show channelMiss i q s = s ∨ (∃ x, channelMiss i q s = _) ∨ ∃ x, channelMiss i q s = _
    simp only [channelMiss]
    split
    · split
      · split
        · exact .inr (.inl ⟨_, rfl⟩)
        · exact .inl rfl
      · exact .inl rfl
    · exact .inl rfl
  | warmup =>
    show channelWarmup i s = s ∨ (∃ x, channelWarmup i s = _) ∨ ∃ x, channelWarmup i s = _
    simp only [channelWarmup]
    split
    · split
      · exact .inr (.inr ⟨_, rfl⟩)
      · exact .inl rfl
    · exact .inl rfl
  | refuge => exact .inl rfl

theorem setChannel_others (i : Fin 16) (c : Channel) (s : State) : OtherChannels i s (s.setChannel i c) :=
  (channel_of_channels (t := s.setChannel i c) rfl).2

theorem handOver_channel_others (i : Fin 16) (c : Completion) (s : State) : OtherChannels i s (handOver (.chan i) c s) := by
  obtain h | ⟨x, h⟩ | ⟨x, h⟩ := handOver_channel i c s <;> rw [h]
  · exact fun _ _ => rfl
  · exact commitChannel_others i x s
  · exact setChannel_others i x s

theorem handOver_channel_refugeKept (r : Fin 4) (i : Fin 16) (c : Completion) (s : State) : RefugeKept r s (handOver (.chan i) c s) := by
  obtain h | ⟨x, h⟩ | ⟨x, h⟩ := handOver_channel i c s <;> rw [h]
  · exact .refl r s
  · exact commitChannel_refugeKept ..
  · exact .of_eq rfl rfl rfl

end

section
variable (r : Fin 4) (s : State)

/-- R116: a report of what changed in a record moves nothing of it but the report count, and no other record. -/
theorem reportRefuge_records (old : Refuge) :
    (reportRefuge r old s).refuge r = { s.refuge r with report := ((reportRefuge r old s).refuge r).report }
      ∧ ((s.refuge r).report = 0 → ((reportRefuge r old s).refuge r).report = 0) ∧ OtherRefuges r s (reportRefuge r old s) := by
  have hsent (y : RefugeReasons) (before : RefugeState) (t : State) (ht : t.sau = s.sau) :
      (sendRefugeReport r y (postRefuge r before t)).refuge r = { s.refuge r with report := 0 }
        ∧ OtherRefuges r s (sendRefugeReport r y (postRefuge r before t)) := by
    have hk (k : Fin 4) : (postRefuge r before t).refuge k = s.refuge k :=
      (postRefuge_refuge ..).trans (refuge_of_refuges (congrArg AlarmUnit.refuges ht) k)
    exact ⟨by rw [sendRefugeReport_refuge, hk], fun k hne => (sendRefugeReport_others r _ y k hne).trans (hk k)⟩
  unfold reportRefuge
  simp only
  split
  · obtain ⟨hown, hothers⟩ := hsent _ _ (setRefugeStamp r _ s) rfl
    exact ⟨by rw [hown], fun _ => by rw [hown], hothers⟩
  split
  · obtain ⟨hown, hothers⟩ := hsent _ _ s rfl
    exact ⟨by rw [hown], fun _ => by rw [hown], hothers⟩
  · exact ⟨rfl, id, fun _ _ => rfl⟩

theorem sendRefugeReport_stamps (x : RefugeReasons) (before : RefugeState) :
    (sendRefugeReport r x (postRefuge r before s)).tb = s.tb :=
  ((sendRefugeReport_effect ..).block .tb).trans ((postRefuge_effect ..).block .tb)

/-- R116, R18: a change of state is stamped and reported; with none the stamps stay. -/
theorem reportRefuge_stamp (old : Refuge) :
    ((s.refuge r).state ≠ old.state → (s.refuge r).state ≠ .unused →
      (reportRefuge r old s).tb.refugeStamps.get r = some s.now ∧ ((reportRefuge r old s).refuge r).report = 0)
    ∧ ((s.refuge r).state = old.state → (reportRefuge r old s).tb = s.tb)
    ∧ ∀ k, k ≠ r → (reportRefuge r old s).tb.refugeStamps.get k = s.tb.refugeStamps.get k := by
  have hother (x : Option Stamp) (k : Fin 4) (hk : k ≠ r) : (setRefugeStamp r x s).tb.refugeStamps.get k = s.tb.refugeStamps.get k :=
    vset_get_of_ne _ _ _ _ hk
  unfold reportRefuge
  simp only
  refine ⟨fun hne hused => ?_, fun heq => ?_, fun k hk => ?_⟩
  · rw [if_pos (by simpa using hne), if_neg hused, sendRefugeReport_stamps, sendRefugeReport_refuge]
    exact ⟨vset_get_same .., rfl⟩
  · rw [if_neg (by simp [heq])]
    split
    · exact sendRefugeReport_stamps ..
    · rfl
  · split
    · rw [sendRefugeReport_stamps]; exact hother _ k hk
    split
    · rw [sendRefugeReport_stamps]
    · rfl

/-- R115: the record of a refuge head after a miss, before it is reported. -/
def Refuge.missed (x : Refuge) : Refuge :=
  { x with miss := min 3 (x.miss + 1), state := if 3 ≤ x.miss + 1 then .noResponse else x.state }

theorem refugeMiss_eq : refugeMiss r s = reportRefuge r (s.refuge r) (s.setRefuge r (s.refuge r).missed) := by
  have hlimit : (min 3 ((s.refuge r).miss + 1) = 3) = (3 ≤ (s.refuge r).miss + 1) :=
    propext ⟨fun h => by omega, fun h => by omega⟩
  simp only [refugeMiss, Refuge.missed, Config.refugeMissLimit, satSucc_eq_min, hlimit]

theorem handOver_refuge_unused {s : State} {r : Fin 4} (h : (s.refuge r).state = .unused) (c : Completion) : handOver (.refuge r) c s = s := by
  cases c <;> simp [handOver, h]

theorem handOver_refuge_miss {s : State} {r : Fin 4} (h : (s.refuge r).state ≠ .unused) (q : MissReason) :
    handOver (.refuge r) (.miss q) s = reportRefuge r (s.refuge r) (s.setRefuge r (s.refuge r).missed) := by
  rw [← refugeMiss_eq]; exact if_neg h

/-- R115, R116: a miss of a refuge record in use. -/
theorem handOver_refuge_missed {s : State} {r : Fin 4} (h : (s.refuge r).state ≠ .unused) (q : MissReason) :
    (handOver (.refuge r) (.miss q) s).refuge r
        = { (s.refuge r).missed with report := ((handOver (.refuge r) (.miss q) s).refuge r).report }
      ∧ ((s.refuge r).missed.state ≠ (s.refuge r).state →
          (handOver (.refuge r) (.miss q) s).tb.refugeStamps.get r = some s.now
            ∧ ((handOver (.refuge r) (.miss q) s).refuge r).report = 0) := by
  have hused : (s.refuge r).missed.state ≠ .unused := by
    simp only [Refuge.missed]
    split
    · decide
    · exact h
  obtain ⟨hrecord, -, -⟩ := reportRefuge_records r (s.setRefuge r (s.refuge r).missed) (s.refuge r)
  obtain ⟨hstamp, -, -⟩ := reportRefuge_stamp r (s.setRefuge r (s.refuge r).missed) (s.refuge r)
  rw [State.refuge_setRefuge] at hrecord hstamp
  rw [handOver_refuge_miss h]
  exact ⟨hrecord, fun hne => hstamp hne hused⟩

/-- R115: a miss of one record leaves the others. -/
theorem handOver_refuge_other {s : State} {r k : Fin 4} (hk : k ≠ r) (q : MissReason) :
    RefugeKept k s (handOver (.refuge r) (.miss q) s) := by
  by_cases h : (s.refuge r).state = .unused
  · rw [handOver_refuge_unused h]; exact .refl k s
  · obtain ⟨-, -, hothers⟩ := reportRefuge_records r (s.setRefuge r (s.refuge r).missed) (s.refuge r)
    obtain ⟨-, -, hstamps⟩ := reportRefuge_stamp r (s.setRefuge r (s.refuge r).missed) (s.refuge r)
    rw [handOver_refuge_miss h]
    exact .of_eq ((hothers k hk).trans (s.refuge_setRefuge_of_ne r k _ hk)) (hstamps k hk) (reportRefuge_effect ..).now

end

/-! ## A bus that fails (R47) -/

/-- What holds at the start and is kept by each action of a list holds at the end. -/
theorem forEach_invariant {α : Type} {P : State → Prop} {f : α → State → State} {xs : List α} {s : State} (h0 : P s)
    (h : ∀ x ∈ xs, ∀ t, P t → P (f x t)) : P (forEach xs f s) := by
  induction xs generalizing s with
  | nil => exact h0
  | cons x xs ih => exact ih (h x List.mem_cons_self s h0) fun y hy => h y (List.mem_cons_of_mem x hy)

theorem failPolls_append (a b : List Poll) (s : State) : failPolls (a ++ b) s = failPolls b (failPolls a s) := List.foldl_append

theorem failPolls_cons (p : Poll) (ps : List Poll) (s : State) :
    failPolls (p :: ps) s = failPolls ps (handOver p.target (.miss .busFailed) s) := rfl

section
variable {ps : List Poll} {s : State}

/-- R47: a channel that has no poll among those that miss is as it was. -/
theorem failPolls_channel_other {i : Fin 16} (h : ∀ p ∈ ps, p.target ≠ .chan i) : (failPolls ps s).channel i = s.channel i := by
  refine forEach_invariant (P := fun t => t.channel i = s.channel i) rfl fun p hp t ht => ?_
  cases htarget : p.target with
  | chan k =>
    have hik : i ≠ k := fun e => h p hp (by rw [htarget, e])
    exact (handOver_channel_others k _ t i hik).trans ht
  | refuge r =>
    have hsame : (handOver (.refuge r) (.miss .busFailed) t).gcu = t.gcu := by
      by_cases hu : (t.refuge r).state = .unused
      · rw [handOver_refuge_unused hu]
      · rw [handOver_refuge_miss hu]
        exact (reportRefuge_effect ..).block .gcu
    exact (congrArg (fun g : GasUnit => g.channels.get i) hsame).trans ht

/-- R47: a refuge record in use that has no poll among those that miss, and one that is UNUSED, keeps all but its report count. -/
theorem failPolls_refugeKept {r : Fin 4} (h : (∀ p ∈ ps, p.target ≠ .refuge r) ∨ (s.refuge r).state = .unused) :
    RefugeKept r s (failPolls ps s) := by
  refine forEach_invariant (P := RefugeKept r s) (.refl r s) fun p hp t ht => ?_
  cases htarget : p.target with
  | chan k => exact ht.trans (handOver_channel_refugeKept ..)
  | refuge k =>
    by_cases hk : r = k
    · subst hk
      have hunused := h.resolve_left fun hno => hno p hp htarget
      rw [handOver_refuge_unused (ht.state.trans hunused)]
      exact ht
    · exact ht.trans (handOver_refuge_other hk _)

theorem failPolls_configured (i : Fin 16) : ((failPolls ps s).channel i).cfg = (s.channel i).cfg
    ∧ ((failPolls ps s).channel i).enabled = (s.channel i).enabled :=
  Prod.mk.inj (congrFun ((failPolls_effect ps s).same .chanCfg (by decide)) i)

/-- R47, R72: a channel polled at least once keeps the reason BUS_FAILED. -/
theorem failPolls_reason {i : Fin 16} {f : ChannelConfig} (hp : ∃ p ∈ ps, p.target = .chan i) (hc : (s.channel i).cfg = some f)
    (hpoll : f.poll.isSome = true) (he : (s.channel i).enabled = true) : ((failPolls ps s).channel i).missReason = some .busFailed := by
  induction ps generalizing s with
  | nil => obtain ⟨p, hmem, -⟩ := hp; exact absurd hmem (List.not_mem_nil)
  | cons p ps ih =>
    have hconf := failPolls_configured (ps := [p]) (s := s) i
    rw [failPolls_cons]
    by_cases hrest : ∃ q ∈ ps, q.target = .chan i
    · exact ih hrest (hconf.1.trans hc) (hconf.2.trans he)
    · obtain ⟨q, hmem, hq⟩ := hp
      have hqp : q = p := (List.mem_cons.mp hmem).resolve_right fun hin => hrest ⟨q, hin, hq⟩
      obtain ⟨w, hw⟩ := Option.isSome_iff_exists.mp hpoll
      have hmiss : handOver (.chan i) (.miss .busFailed) s = commitChannel i ((s.channel i).missed w.missLimit .busFailed) s :=
        channelMiss_of_poll hc hw he .busFailed
      rw [failPolls_channel_other fun x hx hxi => hrest ⟨x, hx, hxi⟩, ← hqp, hq, hmiss, commitChannel_channel]
      rfl

variable {pre post : List Poll} {q : Poll} (hone : ∀ p ∈ pre ++ post, p.target ≠ q.target)
include hone

/-- R47, R72: the record of a channel that has one poll pending is the one its miss leaves. -/
theorem failPolls_missed {i : Fin 16} {f : ChannelConfig} {p : PollConfig} (hq : q.target = .chan i) (hc : (s.channel i).cfg = some f)
    (hp : f.poll = some p) (he : (s.channel i).enabled = true) :
    (failPolls (pre ++ q :: post) s).channel i = (s.channel i).missed p.missLimit .busFailed := by
  rw [hq] at hone
  have hbefore : (failPolls pre s).channel i = s.channel i := failPolls_channel_other fun x hx => hone x (List.mem_append_left _ hx)
  have hmiss : handOver (.chan i) (.miss .busFailed) (failPolls pre s)
      = commitChannel i ((s.channel i).missed p.missLimit .busFailed) (failPolls pre s) := by
    rw [← hbefore]
    exact channelMiss_of_poll (hbefore ▸ hc) hp (hbefore ▸ he) .busFailed
  rw [failPolls_append, failPolls_cons, failPolls_channel_other fun x hx => hone x (List.mem_append_right _ hx), hq, hmiss,
    commitChannel_channel]

/-- R47, R115: the record of a refuge in use that has one poll pending is the one its miss leaves, its report count apart. -/
theorem failPolls_refuge_missed {r : Fin 4} (hq : q.target = .refuge r) (hused : (s.refuge r).state ≠ .unused) :
    (failPolls (pre ++ q :: post) s).refuge r
        = { (s.refuge r).missed with report := ((failPolls (pre ++ q :: post) s).refuge r).report }
      ∧ ((s.refuge r).missed.state ≠ (s.refuge r).state →
          (failPolls (pre ++ q :: post) s).tb.refugeStamps.get r = some s.now
            ∧ ((failPolls (pre ++ q :: post) s).refuge r).report = 0) := by
  rw [hq] at hone
  have hbefore : RefugeKept r s (failPolls pre s) := failPolls_refugeKept (.inl fun x hx => hone x (List.mem_append_left _ hx))
  have hafter : RefugeKept r (handOver (.refuge r) (.miss .busFailed) (failPolls pre s))
      (failPolls post (handOver (.refuge r) (.miss .busFailed) (failPolls pre s))) :=
    failPolls_refugeKept (.inl fun x hx => hone x (List.mem_append_right _ hx))
  obtain ⟨hrecord, hstamp⟩ := handOver_refuge_missed (s := failPolls pre s) (by rw [hbefore.state]; exact hused) .busFailed
  have hmissed : ((failPolls pre s).refuge r).missed = { (s.refuge r).missed with report := ((failPolls pre s).refuge r).report } := by
    rw [hbefore.record]; rfl
  rw [failPolls_append, failPolls_cons, hq]
  refine ⟨?_, fun hne => ?_⟩
  · rw [hafter.record, hrecord, hmissed]
  · obtain ⟨h1, h2⟩ := hstamp (by rw [hmissed, hbefore.state]; exact hne)
    exact ⟨hafter.stamp.trans (h1.trans (by rw [hbefore.now])), hafter.count h2⟩

end

theorem Channel.missed_eq (c : Channel) (limit : Nat) (q : MissReason) : c.missed limit q = { c with
    warmup := false, miss := min 255 (c.miss + 1), missReason := some q
    status := if q = .headFault ∨ limit ≤ min 255 (c.miss + 1) then .fault else c.status } := by
  simp only [Channel.missed, satSucc_eq_min, Bool.or_eq_true, decide_eq_true_eq]

theorem updBus_other {b c : Bus} (h : c ≠ b) (f : BusMaster → BusMaster) (s : State) : (s.updBus b f).bus c = s.bus c := by
  cases b <;> cases c <;> first | rfl | exact absurd rfl h

/-- R47: a master as it enters FAILED. -/
def BusMaster.failed (m : BusMaster) : BusMaster := { m with state := .failed, list := [], linesHigh := false }

/-- Settles O20: the polls that miss in order, each record by those of its own among them. -/
theorem busFails : Obligations.BusFails := by
  refine ⟨fun b s hstate hrelease => ?fails, fun b s hno => .of_eq (if_neg ?_), Channel.missed_eq⟩
  case fails =>
    have hdo : busFailed b s = failPolls (s.bus b).list (s.updBus b BusMaster.failed) :=
      if_pos (by simp [hstate, hrelease])
    have hsbm := (failPolls_effect (s.bus b).list (s.updBus b BusMaster.failed)).block .sbm
    have hbus (c : Bus) := bus_of_sbm hsbm c
    have heff := failPolls_effect (s.bus b).list (s.updBus b BusMaster.failed)
    refine ⟨_, .of_eq hdo, ?_, ?_, heff.stampsOnly, heff.pending, fun c hc => (hbus c).trans (updBus_other hc _ s),
      fun i f hp hc hpoll he => failPolls_reason hp hc hpoll he, fun i h => failPolls_channel_other h, fun pre post q hl hone => ⟨?_, ?_⟩,
      fun r h => (failPolls_refugeKept (s := s.updBus b BusMaster.failed) h).record⟩
    · rw [hbus b, bus_updBus]; rfl
    · rw [hbus b, bus_updBus]; rfl
    · intro i f p hq hc hp he
      rw [hl]
      exact failPolls_missed hone hq hc hp he
    · rintro r x hq rfl hused
      rw [hl]
      obtain ⟨hrecord, hstamp⟩ := failPolls_refuge_missed (s := s.updBus b BusMaster.failed)
        hone hq hused
      refine ⟨hrecord, fun hne => hstamp ?_⟩
      rw [hrecord] at hne
      exact hne
  · obtain h | h := hno
    · simp [h]
    · simp [Nat.not_le.mpr h]

end Sys2Proof.Machine
end

section
/-! PROOFS. The ends of transactions (3.1, 3.5, 6.5). -/

namespace Sys2Proof.Machine

-- Declarations are elaborated one after another: in a text of this length the threads of many at once would not fit the memory limit.
set_option Elab.async false

/-! ## A transaction ends (R42, R43, R45) -/

/-- R43, R45: a master once its transaction has ended. -/
def BusMaster.ended (hold : Nat) (signs : List BusSign) (m : BusMaster) : BusMaster :=
  { m with state := .idle, inFlight := none, holdTotal := min 17 hold, owesStop := m.owesStop || signs.isEmpty, wire := m.wire ++ signs }

/-- R54, R57: the completion of what was in flight reaches its target, unless it is discarded. -/
def handFlight (f : InFlight) (c : Completion) (s : State) : State := if f.discarded then s else handOver f.poll.target c s

section
variable {b : Bus} {f : InFlight} {s : State}

theorem endTransaction_eq (hf : (s.bus b).inFlight = some f) (hold : Nat) (signs : List BusSign) (c : Target → Completion) :
    endTransaction b hold signs c s = handFlight f (c f.poll.target) (s.updBus b (BusMaster.ended hold signs)) := by
  simp only [endTransaction, hf]
  rfl

theorem classify_abandoned {r : BusReply} (h : abandoned r = true) (k : Nat) : classify k r = .miss .holdTimeout := by
  cases r with
  | silent n => exact absurd h Bool.false_ne_true
  | bytes status high low check n => exact if_pos (of_decide_eq_true h)

/-- R43: what a completion puts on the bus: nothing where the master has abandoned the transaction. -/
def endSigns (r : BusReply) : List BusSign := if abandoned r then [] else replySigns r

theorem completeTransaction_eq (hf : (s.bus b).inFlight = some f) (reply : BusReply) : ∃ hold, completeTransaction b reply s
    = handFlight f (classify (targetKind s f.poll.target) (heldReply (s.bus b).holdTotal reply))
        (s.updBus b (BusMaster.ended hold (endSigns (heldReply (s.bus b).holdTotal reply)))) := by
  simp only [completeTransaction, timeoutTransaction, endSigns]
  split
  next habandoned => exact ⟨17, by rw [endTransaction_eq hf, classify_abandoned habandoned]⟩
  · exact ⟨_, endTransaction_eq hf ..⟩

theorem holdClock_past (hf : (s.bus b).inFlight = some f) {n : Nat} (h : 16 < (s.bus b).holdTotal + n) :
    holdClock b n s = handFlight f (.miss .holdTimeout) (s.updBus b (BusMaster.ended 17 [])) := by
  simp only [holdClock, hf, Option.isNone_some, Bool.false_eq_true, if_false, h, if_true, timeoutTransaction, endTransaction_eq hf]

theorem handFlight_effect (f : InFlight) (c : Completion) (s : State) : Effect completing [] s (handFlight f c s) := by
  unfold handFlight
  split
  · exact .refl s
  · exact handOver_effect ..

/-- R57: handing a completion over moves no bus. -/
theorem handFlight_bus (f : InFlight) (c : Completion) (g : BusMaster → BusMaster) (s : State) (b : Bus) :
    (handFlight f c (s.updBus b g)).bus b = g (s.bus b) ∧ ∀ k, k ≠ b → (handFlight f c (s.updBus b g)).bus k = s.bus k := by
  have hsame (k : Bus) := bus_of_sbm ((handFlight_effect f c (s.updBus b g)).block .sbm) k
  exact ⟨(hsame b).trans (bus_updBus ..), fun k hk => (hsame k).trans (updBus_other hk ..)⟩

theorem handFlight_frame (f : InFlight) (c : Completion) (g : BusMaster → BusMaster) (s : State) (b : Bus) :
    StampsOnly s (handFlight f c (s.updBus b g)) ∧ (handFlight f c (s.updBus b g)).pending = s.pending := by
  have heff := handFlight_effect f c (s.updBus b g)
  exact ⟨StampsOnly.trans (t := s.updBus b g) (.of_tb rfl) heff.stampsOnly, heff.pending⟩

end

/-! ## The completion of a channel's poll (R57, R66) -/

section
variable {i : Fin 16} {a : Nat} {f : ChannelConfig} {p : PollConfig} {b : Bus} {g : BusMaster → BusMaster} {s : State}
  (hc : (s.channel i).cfg = some f) (hp : f.poll = some p) (he : (s.channel i).enabled = true)

/-- R66: a warm-up reply of a configured and enabled channel. -/
theorem channelWarmup_of (hc : (s.channel i).cfg = some f) (he : (s.channel i).enabled = true) :
    channelWarmup i s = s.setChannel i { s.channel i with warmup := true } := by
  unfold channelWarmup
  simp only
  split
  · exact if_pos he
  next hnone => exact absurd (hc.symm.trans hnone) (by simp)

/-- A poll of a channel in flight. -/
abbrev chanFlight (i : Fin 16) (a : Nat) : InFlight := { poll := { target := .chan i, addr := a }, discarded := false }

theorem handFlight_chan_others (c : Completion) : OtherChannels i s (handFlight (chanFlight i a) c (s.updBus b g)) :=
  handOver_channel_others i c (s.updBus b g)

include hc hp he

theorem handFlight_chan_reading (raw : Nat) (sat : Bool) : (handFlight (chanFlight i a) (.reading raw sat) (s.updBus b g)).channel i
    = (s.channel i).read f false (calibrate f.kind p.zero p.span raw sat) sat s.now := by
  have hdo : handFlight (chanFlight i a) (.reading raw sat) (s.updBus b g)
      = commitChannel i ((s.channel i).read f false (calibrate f.kind p.zero p.span raw sat) sat s.now) (s.updBus b g) := by
    show channelReading i raw sat (s.updBus b g) = _
    have hc' : ((s.updBus b g).channel i).cfg = some f := hc
    have he' : ((s.updBus b g).channel i).enabled = true := he
    simp only [channelReading, hc', hp, he', if_true]
    rfl
  rw [hdo, commitChannel_channel]

theorem handFlight_chan_miss (q : MissReason) :
    (handFlight (chanFlight i a) (.miss q) (s.updBus b g)).channel i = (s.channel i).missed p.missLimit q := by
  have hdo : handFlight (chanFlight i a) (.miss q) (s.updBus b g) = commitChannel i ((s.channel i).missed p.missLimit q) (s.updBus b g) :=
    channelMiss_of_poll (s := s.updBus b g) hc hp he q
  rw [hdo, commitChannel_channel]

omit hp in
theorem handFlight_chan_warmup :
    (handFlight (chanFlight i a) .warmup (s.updBus b g)).channel i = { s.channel i with warmup := true } := by
  have hdo : handFlight (chanFlight i a) .warmup (s.updBus b g) = (s.updBus b g).setChannel i { s.channel i with warmup := true } := by
    exact channelWarmup_of (s := s.updBus b g) hc he
  rw [hdo]
  exact (channel_of_channels (t := (s.updBus b g).setChannel i _) rfl).1

end

/-! ## What is queued OUTBYE stays queued, in its order (R24) -/

/-- With nothing staged, the OUTBYE SIGNAL queue grows at its tail, and nothing is staged. -/
structure SignalGrows (s t : State) : Prop where
  grows : s.cs.staging = none →
    t.cs.staging = none ∧ ∃ rest, t.cs.queues.outbye.signal = s.cs.queues.outbye.signal ++ rest

theorem SignalGrows.trans {s t u : State} (h : SignalGrows s t) (k : SignalGrows t u) : SignalGrows s u := by
  refine ⟨fun hs => ?_⟩
  obtain ⟨ht, rest, hrest⟩ := h.grows hs
  obtain ⟨hu, more, hmore⟩ := k.grows ht
  exact ⟨hu, rest ++ more, by rw [hmore, hrest, List.append_assoc]⟩

theorem SignalGrows.of_queues {s t : State} (hq : t.cs.queues = s.cs.queues) (hs : t.cs.staging = s.cs.staging) : SignalGrows s t :=
  ⟨fun h => ⟨hs.trans h, [], by rw [hq, List.append_nil]⟩⟩

theorem joinQueue_grows (l : Line) (c : Cell) (s : State) : SignalGrows s (joinQueue l c s) := by
  have hinds (i : Indication) : SignalGrows s (latchInd l i s) := .of_queues (latchInd_queues ..) (by rw [latchInd_cs])
  have hjoin : SignalGrows s (s.updQueues l fun q => { q with signal := q.signal ++ [c] }) :=
    ⟨fun h => ⟨h, by cases l; exacts [⟨[c], rfl⟩, ⟨[], (List.append_nil _).symm⟩]⟩⟩
  have hdata (d : OutQueues → List Cell) : SignalGrows s (s.updQueues l fun q => { q with data := d q }) :=
    ⟨fun h => ⟨h, [], by cases l <;> exact (List.append_nil _).symm⟩⟩
  unfold joinQueue
  cases c.classOf <;> simp only
  case signal =>
    split
    · exact hjoin
    · exact hinds _
  case data =>
    split
    · exact hdata _
    split
    · exact hdata _
    · exact hinds _
  all_goals exact .of_queues rfl rfl

theorem placeCell_grows (l : Line) (c : Cell) (s : State) : SignalGrows s (placeCell l c s) := by
  refine ⟨fun h => ?_⟩
  have hplace : placeCell l c s = joinLocal l c s := by rw [placeCell, h]
  rw [hplace, joinLocal]
  split
  · exact ⟨h, [], (List.append_nil _).symm⟩
  · exact (joinQueue_grows l c s).grows h

theorem deliver_grows (from? : Option Line) (c : Cell) (s : State) : SignalGrows s (deliver from? c s) := by
  have hind (l : Line) (i : Indication) (t : State) : SignalGrows t (latchInd l i t) := .of_queues (latchInd_queues ..) (by rw [latchInd_cs])
  have hlatch (i : Indication) (t : State) : SignalGrows t (latchArrival from? i t) := by
    unfold latchArrival
    split
    · exact hind ..
    · exact (hind ..).trans (hind ..)
  have hset (b : Bool) (q : List Cell) (t : State) : SignalGrows t (setDeliveryQueue b q t) := by cases b <;> exact .of_queues rfl rfl
  unfold deliver
  simp only
  split
  · split
    · exact (hset ..).trans (.of_queues rfl rfl)
    · exact hset ..
  split
  · exact hlatch ..
  · split
    · exact (hset ..).trans (hlatch ..)
    · exact hlatch ..

theorem signalGrows_carried : Carried SignalGrows where
  trans := SignalGrows.trans
  of_cs h := .of_queues (by rw [h]) (by rw [h])
  send kind dst p s := by
    unfold sendTo
    simp only
    split
    · split
      · exact .of_queues rfl rfl
      · exact deliver_grows ..
    · exact placeCell_grows ..
  adjacent l kind p s := placeCell_grows ..

/-! ## The completion of a refuge's poll (R115 to R117) -/

theorem handOver_refuge_effect (r : Fin 4) (c : Completion) (s : State) : Effect attending [] s (handOver (.refuge r) c s) := by
  unfold handOver
  cases c <;> simp only
  case refuge f =>
    split
    · exact .refl s
    · exact (refugeReading_effect ..).mono
  case miss q =>
    split
    · exact .refl s
    · exact (refugeMiss_effect ..).mono
  all_goals exact .refl s

/-- R115: what a completion makes of a record, and whether its call button was pressed. -/
def Refuge.taken (x : Refuge) : Completion → Refuge × Bool
  | .refuge f => ({ x with miss := 0, fields := some f, state := f.state }, f.pressed && !((x.fields.map RefugeFields.pressed).getD false))
  | .miss _ => (x.missed, false)
  | _ => (x, false)

/-- R117: a press follows the report of a completion. -/
def pressIf (b : Bool) (r : Fin 4) (s : State) : State := if b then press r s else s

section
variable {r : Fin 4} {s : State}

theorem Refuge.taken_used {x : Refuge} (h : x.state ≠ .unused) (c : Completion) : (x.taken c).1.state ≠ .unused := by
  cases c with
  | refuge f =>
    show f.state ≠ .unused
    unfold RefugeFields.state
    split
    · decide
    · split <;> decide
  | miss q =>
    show x.missed.state ≠ .unused
    simp only [Refuge.missed]
    split
    · decide
    · exact h
  | reading => exact h
  | warmup => exact h

theorem Refuge.taken_head (x : Refuge) (c : Completion) : (x.taken c).1.head = x.head := by cases c <;> rfl

theorem reportRefuge_same {x : Refuge} (hx : x = s.refuge r) : reportRefuge r x s = s := by
  subst hx
  have hplant : plantChanged (s.refuge r) (s.refuge r) = false := by
    unfold plantChanged
    split
    next a b ha hb => rw [Option.some.inj (ha.symm.trans hb)]; simp
    · rfl
  simp [reportRefuge, hplant]

theorem setRefuge_self : s.setRefuge r (s.refuge r) = s := by
  have hself : vset s.sau.refuges r (s.refuge r) = s.sau.refuges := by
    apply Vector.ext
    intro k hk
    simp only [vset, Vector.getElem_set]
    split
    next h => subst h; rfl
    · rfl
  rw [State.setRefuge, State.updSau]
  simp only [hself]

/-- R115 to R117: a completion of the poll of a record in use: the record, its report, the press. -/
theorem handOver_refuge_eq (h : (s.refuge r).state ≠ .unused) (c : Completion) : handOver (.refuge r) c s
    = pressIf ((s.refuge r).taken c).2 r (reportRefuge r (s.refuge r) (s.setRefuge r ((s.refuge r).taken c).1)) := by
  have hnone : s = reportRefuge r (s.refuge r) (s.setRefuge r (s.refuge r)) := by
    rw [setRefuge_self, reportRefuge_same rfl]
  cases c with
  | refuge f =>
    have hwas : (match (s.refuge r).fields with
        | some o => o.pressed
        | none => false) = ((s.refuge r).fields.map RefugeFields.pressed).getD false := by cases (s.refuge r).fields <;> rfl
    refine (if_neg h).trans ?_
    show (if (f.pressed && !(match (s.refuge r).fields with
        | some o => o.pressed
        | none => false)) = true then _ else _) = _
    rw [hwas]
    rfl
  | miss q => exact handOver_refuge_miss h q
  | reading => exact hnone
  | warmup => exact hnone

theorem press_records (r : Fin 4) (s : State) : (press r s).refuge r = { s.refuge r with called := true } ∧ OtherRefuges r s (press r s)
    ∧ (press r s).tb.refugeStamps = s.tb.refugeStamps ∧ SignalGrows s (press r s) := by
  have hsau := sauRecompute_effect (s.setRefuge r { s.refuge r with called := true })
  have htell (d e : Bytes) (b : RefugeState) (t : State) : Effect telling [] t (sendTo kRefugeCall 0 e (postRefuge r b t)) :=
    (postRefuge_effect ..).trans (sendTo_effect ..)
  have hrecords (k : Fin 4) : (press r s).refuge k = (s.setRefuge r { s.refuge r with called := true }).refuge k :=
    (refuge_of_refuges ((htell [] _ _ _).same .refuges (by decide)) k).trans (refuge_of_refuges (hsau.same .refuges (by decide)) k)
  refine ⟨(hrecords r).trans (State.refuge_setRefuge ..), fun k hk => (hrecords k).trans (setRefuge_others r _ s k hk), ?_, ?_⟩
  · exact ((htell [] _ _ _).same .refugeStamps (by decide)).trans (hsau.same .refugeStamps (by decide))
  · have htake (t : State) : SignalGrows t (sauRecompute t) := signalGrows_carried.after (signalGrows_carried.sauDerive _) rfl
    have hset : SignalGrows s (s.setRefuge r { s.refuge r with called := true }) := .of_queues rfl rfl
    have hpost (b : RefugeState) (t : State) : SignalGrows t (postRefuge r b t) := .of_queues rfl rfl
    exact ((hset.trans (htake _)).trans (hpost _ _)).trans (signalGrows_carried.send ..)

theorem pressIf_records (b : Bool) (r : Fin 4) (s : State) :
    (pressIf b r s).refuge r = { s.refuge r with called := (s.refuge r).called || b } ∧ OtherRefuges r s (pressIf b r s)
      ∧ (pressIf b r s).tb.refugeStamps = s.tb.refugeStamps ∧ SignalGrows s (pressIf b r s) := by
  cases b with
  | false => exact ⟨by simp [pressIf], fun _ _ => rfl, rfl, .of_queues rfl rfl⟩
  | true =>
    obtain ⟨hown, hothers, hstamps, hgrows⟩ := press_records r s
    exact ⟨hown.trans (by simp), hothers, hstamps, hgrows⟩

theorem RefugeReasons.byte_state (plant air : Bool) : bitOf (({ state := true, plant := plant, air := air } : RefugeReasons).byte % 256) 0 = true := by
  cases plant <;> cases air <;> decide

theorem sendRefugeReport_queue {plant air : Bool} (hrole : s.tb.role = .junction) (haddr : s.tb.address ≠ 0)
    (hstaging : s.cs.staging = none) (hroom : s.cs.queues.outbye.signal.length < 16) :
    (sendRefugeReport r { state := true, plant := plant, air := air } s).cs.staging = none
      ∧ ∃ d : Cell, (sendRefugeReport r { state := true, plant := plant, air := air } s).cs.queues.outbye.signal
          = s.cs.queues.outbye.signal ++ [d]
        ∧ d.kind = 37 ∧ d.dst = 0 ∧ byteAt d.payload 0 = 64 * r.val + (s.refuge r).state.code ∧ bitOf (byteAt d.payload 1) 0 = true := by
  have hsend (p : Bytes) := sendTo_zero_signal (kind := kRefugeReport) (payload := p) hrole haddr hstaging rfl hroom
  obtain ⟨h0, h1⟩ := refugeReportBytes_head (r := r) (s := s) { state := true, plant := plant, air := air }
  rw [sendRefugeReport_eq]
  exact ⟨(hsend _).1, _, (hsend _).2, rfl, rfl, h0, (congrArg (fun n => bitOf n 0) h1).trans (RefugeReasons.byte_state ..)⟩

/-- R116, R182: a change of state queues a REFUGE_REPORT with the reason STATE. -/
theorem reportRefuge_queue {old : Refuge} (hne : (s.refuge r).state ≠ old.state) (hrole : s.tb.role = .junction) (haddr : s.tb.address ≠ 0)
    (hstaging : s.cs.staging = none) (hroom : s.cs.queues.outbye.signal.length < 16) :
    (reportRefuge r old s).cs.staging = none ∧ ∃ d : Cell, (reportRefuge r old s).cs.queues.outbye.signal = s.cs.queues.outbye.signal ++ [d]
      ∧ d.kind = 37 ∧ d.dst = 0 ∧ byteAt d.payload 0 = 64 * r.val + (s.refuge r).state.code ∧ bitOf (byteAt d.payload 1) 0 = true := by
  have hrefuge (x : Option Stamp) : (postRefuge r old.state (setRefugeStamp r x s)).refuge r = s.refuge r := postRefuge_refuge ..
  have hqueue (x : Option Stamp) (plant air : Bool) := sendRefugeReport_queue (r := r) (plant := plant) (air := air)
    (s := postRefuge r old.state (setRefugeStamp r x s)) hrole haddr hstaging hroom
  simp only [hrefuge] at hqueue
  unfold reportRefuge
  simp only
  rw [if_pos (by simpa using hne)]
  exact hqueue ..

end

section
variable {r : Fin 4} {s : State}

/-- R115 to R117: what a completion leaves of the record polled. -/
theorem handOver_refuge_record (h : (s.refuge r).state ≠ .unused) (c : Completion) :
    (handOver (.refuge r) c s).refuge r = { ((s.refuge r).taken c).1 with
        called := ((s.refuge r).taken c).1.called || ((s.refuge r).taken c).2
        report := ((handOver (.refuge r) c s).refuge r).report }
      ∧ OtherRefuges r s (handOver (.refuge r) c s) := by
  rw [handOver_refuge_eq h]
  obtain ⟨hrecord, -, hothers⟩ := reportRefuge_records r (s.setRefuge r ((s.refuge r).taken c).1) (s.refuge r)
  obtain ⟨hpress, hrest, -, -⟩ := pressIf_records ((s.refuge r).taken c).2 r
    (reportRefuge r (s.refuge r) (s.setRefuge r ((s.refuge r).taken c).1))
  rw [State.refuge_setRefuge] at hrecord
  exact ⟨by rw [hpress, hrecord], fun k hk => (hrest k hk).trans ((hothers k hk).trans (setRefuge_others r _ s k hk))⟩

/-- R18, R116: a change of state is stamped and reported; with none the stamps stay. -/
theorem handOver_refuge_stamp (h : (s.refuge r).state ≠ .unused) (c : Completion) :
    (((s.refuge r).taken c).1.state ≠ (s.refuge r).state →
      (handOver (.refuge r) c s).tb.refugeStamps.get r = some s.now ∧ ((handOver (.refuge r) c s).refuge r).report = 0)
    ∧ (((s.refuge r).taken c).1.state = (s.refuge r).state → (handOver (.refuge r) c s).tb.refugeStamps = s.tb.refugeStamps) := by
  rw [handOver_refuge_eq h]
  obtain ⟨hchanged, hsame, -⟩ := reportRefuge_stamp r (s.setRefuge r ((s.refuge r).taken c).1) (s.refuge r)
  obtain ⟨hpress, -, hstamps, -⟩ := pressIf_records ((s.refuge r).taken c).2 r
    (reportRefuge r (s.refuge r) (s.setRefuge r ((s.refuge r).taken c).1))
  rw [State.refuge_setRefuge] at hchanged hsame
  rw [hstamps, hpress]
  refine ⟨fun hne => ?_, fun heq => congrArg TimeBase.refugeStamps (hsame heq)⟩
  obtain ⟨hstamp, hreport⟩ := hchanged hne (Refuge.taken_used h c)
  exact ⟨hstamp, hreport⟩

theorem handOver_refuge_queue (h : (s.refuge r).state ≠ .unused) {c : Completion} (hne : ((s.refuge r).taken c).1.state ≠ (s.refuge r).state)
    (hrole : s.tb.role = .junction) (haddr : s.tb.address ≠ 0) (hstaging : s.cs.staging = none)
    (hroom : s.cs.queues.outbye.signal.length < 16) : ∃ (d : Cell) (rest : List Cell),
      (handOver (.refuge r) c s).cs.queues.outbye.signal = s.cs.queues.outbye.signal ++ d :: rest
      ∧ d.kind = 37 ∧ d.dst = 0 ∧ byteAt d.payload 0 = 64 * r.val + ((s.refuge r).taken c).1.state.code
      ∧ bitOf (byteAt d.payload 1) 0 = true := by
  have hstate : ((s.setRefuge r ((s.refuge r).taken c).1).refuge r).state = ((s.refuge r).taken c).1.state := by
    rw [State.refuge_setRefuge]
  obtain ⟨hnone, d, hq, hkind, hdst, h0, h1⟩ := reportRefuge_queue (r := r) (s := s.setRefuge r ((s.refuge r).taken c).1)
    (old := s.refuge r) (by rw [hstate]; exact hne) hrole haddr hstaging hroom
  obtain ⟨-, -, -, hgrows⟩ := pressIf_records ((s.refuge r).taken c).2 r
    (reportRefuge r (s.refuge r) (s.setRefuge r ((s.refuge r).taken c).1))
  obtain ⟨-, rest, hrest⟩ := hgrows.grows hnone
  rw [hstate] at h0
  rw [handOver_refuge_eq h]
  exact ⟨d, rest, by rw [hrest, hq, List.append_assoc]; rfl, hkind, hdst, h0, h1⟩

end

/-- Settles O22: the master ended, and what the completion does to its target. -/
theorem transactionEnds : Obligations.TransactionEnds := by
  refine ⟨fun b reply i a f p s hf hc hp he => ⟨?channel, fun n hn => ?held⟩, fun b f status high low check n s hf => ⟨?silent, fun h => ?whole, fun h => ?past⟩,
    fun b reply r a x c s hf hx hused hcls => ?refuge, fun b reply x s hf => ?discarded⟩
  case channel =>
    obtain ⟨hold, hdo⟩ := completeTransaction_eq hf reply
    have hkind : targetKind s (.chan i) = f.kind.code := by simp [targetKind, Channel.kindCode, hc]
    rw [hkind] at hdo
    obtain ⟨hbus, hother⟩ := handFlight_bus (chanFlight i a) (classify f.kind.code (heldReply (s.bus b).holdTotal reply))
      (BusMaster.ended hold (endSigns (heldReply (s.bus b).holdTotal reply))) s b
    obtain ⟨hstamps, hpending⟩ := handFlight_frame (chanFlight i a) (classify f.kind.code (heldReply (s.bus b).holdTotal reply))
      (BusMaster.ended hold (endSigns (heldReply (s.bus b).holdTotal reply))) s b
    refine ⟨_, .of_eq hdo, by rw [hbus]; rfl, by rw [hbus]; rfl, by rw [hbus]; rfl, hother, handFlight_chan_others _, hstamps, hpending,
      fun raw sat hcls => ?_, fun q hcls => ?_, fun hcls => ?_⟩ <;> rw [hcls]
    · exact handFlight_chan_reading hc hp he raw sat
    · exact handFlight_chan_miss hc hp he q
    · exact handFlight_chan_warmup hc he
  case held =>
    obtain ⟨hbus, -⟩ := handFlight_bus (chanFlight i a) (.miss .holdTimeout) (BusMaster.ended 17 []) s b
    obtain ⟨hstamps, -⟩ := handFlight_frame (chanFlight i a) (.miss .holdTimeout) (BusMaster.ended 17 []) s b
    exact ⟨_, .of_eq (holdClock_past hf hn), by rw [hbus]; rfl, by rw [hbus]; rfl, by rw [hbus]; exact Bool.or_true _, by rw [hbus]; rfl,
      by rw [hbus]; exact List.append_nil _, handFlight_chan_miss hc hp he _, handFlight_chan_others _, hstamps⟩
  case silent =>
    obtain ⟨hold, hdo⟩ := completeTransaction_eq hf (.silent n)
    obtain ⟨hbus, -⟩ := handFlight_bus f (classify (targetKind s f.poll.target) (heldReply (s.bus b).holdTotal (.silent n)))
      (BusMaster.ended hold [.stop]) s b
    exact ⟨_, .of_eq hdo, congrArg BusMaster.wire hbus, (congrArg BusMaster.owesStop hbus).trans (Bool.or_false _)⟩
  case whole =>
    obtain ⟨hold, hdo⟩ := completeTransaction_eq hf (.bytes status high low check n)
    have hsigns : endSigns (heldReply (s.bus b).holdTotal (.bytes status high low check n)) = [.ack, .ack, .ack, .noAck, .stop] := by
      simp [endSigns, heldReply, abandoned, replySigns, Nat.not_lt.mpr h]
    obtain ⟨hbus, -⟩ := handFlight_bus f (classify (targetKind s f.poll.target) (heldReply (s.bus b).holdTotal (.bytes status high low check n)))
      (BusMaster.ended hold [.ack, .ack, .ack, .noAck, .stop]) s b
    rw [hsigns] at hdo
    exact ⟨_, .of_eq hdo, congrArg BusMaster.wire hbus, (congrArg BusMaster.owesStop hbus).trans (Bool.or_false _)⟩
  case past =>
    obtain ⟨hold, hdo⟩ := completeTransaction_eq hf (.bytes status high low check n)
    have hsigns : endSigns (heldReply (s.bus b).holdTotal (.bytes status high low check n)) = [] := by
      simp [endSigns, heldReply, abandoned, h]
    obtain ⟨hbus, -⟩ := handFlight_bus f (classify (targetKind s f.poll.target) (heldReply (s.bus b).holdTotal (.bytes status high low check n)))
      (BusMaster.ended hold []) s b
    rw [hsigns] at hdo
    exact ⟨_, .of_eq hdo, (congrArg BusMaster.wire hbus).trans (List.append_nil _), (congrArg BusMaster.owesStop hbus).trans (Bool.or_true _)⟩
  case refuge =>
    obtain ⟨hold, hdo⟩ := completeTransaction_eq hf reply
    replace hdo : completeTransaction b reply s = handFlight { poll := { target := .refuge r, addr := a }, discarded := false } c
      (s.updBus b (BusMaster.ended hold (endSigns (heldReply (s.bus b).holdTotal reply)))) := by rw [hcls]; exact hdo
    obtain ⟨hbus, -⟩ := handFlight_bus { poll := { target := .refuge r, addr := a }, discarded := false } c
      (BusMaster.ended hold (endSigns (heldReply (s.bus b).holdTotal reply))) s b
    obtain ⟨hstamps, hpending⟩ := handFlight_frame { poll := { target := .refuge r, addr := a }, discarded := false } c
      (BusMaster.ended hold (endSigns (heldReply (s.bus b).holdTotal reply))) s b
    subst hx
    obtain ⟨hrecord, hothers⟩ := handOver_refuge_record (s := s.updBus b (BusMaster.ended hold (endSigns (heldReply (s.bus b).holdTotal reply)))) hused c
    obtain ⟨hstamp, hstay⟩ := handOver_refuge_stamp (s := s.updBus b (BusMaster.ended hold (endSigns (heldReply (s.bus b).holdTotal reply)))) hused c
    have hqueue := handOver_refuge_queue (s := s.updBus b (BusMaster.ended hold (endSigns (heldReply (s.bus b).holdTotal reply)))) hused (c := c)
    have hchannels := (handOver_refuge_effect r c (s.updBus b (BusMaster.ended hold (endSigns (heldReply (s.bus b).holdTotal reply))))).channels
    have hstate := congrArg Refuge.state hrecord
    refine ⟨_, .of_eq hdo, congrArg BusMaster.state hbus, congrArg BusMaster.inFlight hbus, hothers, hstamps, hchannels, hpending,
      (congrArg Refuge.head hrecord).trans (Refuge.taken_head ..), ?_, ?_, ?_, fun hne => ?_, fun heq => hstay (hstate.symm.trans heq)⟩
    · rintro f rfl
      exact ⟨congrArg Refuge.fields hrecord, congrArg Refuge.miss hrecord, hstate, congrArg Refuge.called hrecord⟩
    · rintro q rfl
      exact ⟨(congrArg Refuge.fields hrecord).trans rfl, (congrArg Refuge.called hrecord).trans (Bool.or_false _), congrArg Refuge.miss hrecord, hstate⟩
    · rintro rfl; rfl
    · have hne' := fun heq => hne (hstate.trans heq)
      obtain ⟨h1, h2⟩ := hstamp hne'
      refine ⟨h1, h2, fun hrole haddr hstaging hroom => ?_⟩
      obtain ⟨d, rest, hq, hkind, hdst, h0, hbit⟩ := hqueue hne' hrole haddr hstaging hroom
      exact ⟨d, rest, hq, hkind, hdst, h0.trans (congrArg (fun x : RefugeState => 64 * r.val + x.code) hstate.symm), hbit⟩
  case discarded =>
    obtain ⟨hold, hdo⟩ := completeTransaction_eq hf reply
    obtain ⟨hbus, -⟩ := handFlight_bus { poll := x, discarded := true } (classify (targetKind s x.target) (heldReply (s.bus b).holdTotal reply))
      (BusMaster.ended hold (endSigns (heldReply (s.bus b).holdTotal reply))) s b
    refine ⟨_, .of_eq hdo, congrArg BusMaster.state hbus, congrArg BusMaster.inFlight hbus, fun k hk => ?_⟩
    cases k <;> first | rfl | simp at hk

end Sys2Proof.Machine
end

section
/-! PROOFS. Vehicle orders (8.3). -/

namespace Sys2Proof.Machine

-- Declarations are elaborated one after another: in a text of this length the threads of many at once would not fit the memory limit.
set_option Elab.async false

/-! ## The order table (R152) -/

section
variable {s : State} {v : Vehicle}

theorem orderOf_shutdown (h : v.kind = .diesel ∧ s.vu.methane = .trip) : orderOf s v = .shutdown := by
  have hline : orderLine s v = 1 := by simp [orderLine, h]
  simp only [orderOf, hline]

theorem orderOf_stop (h1 : ¬(v.kind = .diesel ∧ s.vu.methane = .trip)) (h2 : v.manualStop = true) : orderOf s v = .stop := by
  have hline : orderLine s v = 2 := by
    rw [orderLine, if_neg (by simpa using h1), if_pos h2]
  simp only [orderOf, hline]

variable (h1 : ¬(v.kind = .diesel ∧ s.vu.methane = .trip)) (h2 : ¬v.manualStop = true)
include h1 h2

theorem orderOf_evacuate (h3 : s.vu.level = .evacuate) : orderOf s v =
    if (v.heading = .outbye ∨ v.heading = .stopped) ∧ (v.request = .granted ∨ s.vu.cfg.outbyeGoverned = false)
    then .evacuate else .wait := by
  have hline : orderLine s v = 3 := by
    rw [orderLine, if_neg (by simpa using h1), if_neg h2, if_pos h3]
  simp only [orderOf, hline]
  cases hh : v.heading <;> simp

variable (h3 : ¬s.vu.level = .evacuate)
include h3

theorem orderLine_later : orderLine s v =
    if v.kind = .diesel && s.vu.methane = .alarm && v.heading != .outbye then 4
    else if v.heading = .inbye && s.vu.cfg.governs then 5
    else if v.heading = .outbye && s.vu.cfg.outbyeGoverned then 6
    else 7 := by
  rw [orderLine, if_neg (by simpa using h1), if_neg h2, if_neg h3]

theorem orderOf_noEntry (h4 : v.kind = .diesel ∧ s.vu.methane = .alarm ∧ (v.heading = .inbye ∨ v.heading = .stopped)) :
    orderOf s v = .noEntry := by
  obtain ⟨hk, hm, hh⟩ := h4
  have hline : orderLine s v = 4 := by
    rw [orderLine_later h1 h2 h3, if_pos (by obtain hh | hh := hh <;> simp [hk, hm, hh])]
  simp only [orderOf, hline]

variable (h4 : ¬(v.kind = .diesel ∧ s.vu.methane = .alarm ∧ (v.heading = .inbye ∨ v.heading = .stopped)))
include h4

theorem orderLine_last : orderLine s v = if v.heading = .inbye && s.vu.cfg.governs then 5
    else if v.heading = .outbye && s.vu.cfg.outbyeGoverned then 6 else 7 := by
  have hno : ¬(v.kind = .diesel && s.vu.methane = .alarm && v.heading != .outbye) = true := by
    intro h
    simp only [Bool.and_eq_true, decide_eq_true_eq, bne_iff_ne, ne_eq] at h
    refine h4 ⟨h.1.1, h.1.2, ?_⟩
    cases hh : v.heading <;> simp [hh] at h ⊢
  rw [orderLine_later h1 h2 h3, if_neg hno]

theorem orderOf_governed (h5 : v.heading = .inbye ∧ s.vu.cfg.governs = true) :
    orderOf s v = if v.role = .member then .proceed else .wait := by
  have hline : orderLine s v = 5 := by rw [orderLine_last h1 h2 h3 h4, if_pos (by simp [h5])]
  simp only [orderOf, hline]

theorem orderOf_outbye (h6 : v.heading = .outbye ∧ s.vu.cfg.outbyeGoverned = true) :
    orderOf s v = if v.request = .granted then .proceed else .wait := by
  have hline : orderLine s v = 6 := by
    rw [orderLine_last h1 h2 h3 h4, if_neg (by simp [h6]), if_pos (by simp [h6])]
  simp only [orderOf, hline]

theorem orderOf_proceed (h5 : ¬(v.heading = .inbye ∧ s.vu.cfg.governs = true)) (h6 : ¬(v.heading = .outbye ∧ s.vu.cfg.outbyeGoverned = true)) :
    orderOf s v = .proceed := by
  have hline : orderLine s v = 7 := by
    rw [orderLine_last h1 h2 h3 h4, if_neg (by simpa using h5), if_neg (by simpa using h6)]
  simp only [orderOf, hline]

end

/-! ## What granting and derivations leave of an entry (R153, R157, R158) -/

/-- An entry without its block role, its order and the echo of it. -/
def Vehicle.core (v : Vehicle) : Vehicle := { v with role := .none, order := .wait, echoOk := false }

/-- Every entry is as it was but for block role, order and echo. -/
structure CoresKept (s t : State) : Prop where
  core : ∀ i, (t.vehicle i).map Vehicle.core = (s.vehicle i).map Vehicle.core

namespace CoresKept

theorem of_entries {s t : State} (h : t.vu.entries = s.vu.entries) : CoresKept s t :=
  ⟨fun i => by rw [State.vehicle, h]; rfl⟩

theorem refl (s : State) : CoresKept s s := .of_entries rfl

theorem trans {s t u : State} (h : CoresKept s t) (k : CoresKept t u) : CoresKept s u := ⟨fun i => (k.core i).trans (h.core i)⟩

theorem after {s t u : State} (k : CoresKept t u) (h : t.vu.entries = s.vu.entries) : CoresKept s u := (of_entries h).trans k

theorem forEach {α : Type} {f : α → State → State} (hf : ∀ x t, CoresKept t (f x t)) (xs : List α) (s : State) :
    CoresKept s (forEach xs f s) := forEach_invariant (P := CoresKept s) (.refl s) fun x _ _ ht => ht.trans (hf x _)

/-- An entry in use stays so, with its fields. -/
theorem some {s t : State} (h : CoresKept s t) {i : Fin 16} {v : Vehicle} (hv : s.vehicle i = some v) :
    ∃ w, t.vehicle i = some w ∧ w.core = v.core := by
  have hi := h.core i
  rw [hv] at hi
  exact Option.map_eq_some_iff.mp hi

end CoresKept

section
variable (s : State)

theorem modVehicle_cores (i : Fin 16) {f : Vehicle → Vehicle} (hf : ∀ v, (f v).core = v.core := by exact fun _ => rfl) :
    CoresKept s (modVehicle i f s) := by
  refine ⟨fun j => ?_⟩
  by_cases hj : j = i
  · subst hj
    rw [vehicle_modVehicle, Option.map_map]
    exact congrArg (fun g => (s.vehicle j).map g) (funext hf)
  · rw [vehicle_modVehicle_of_ne _ _ hj]

theorem Vehicle.derived_core (t : State) (v : Vehicle) : (v.derived t).core = v.core := by
  unfold Vehicle.derived
  split <;> rfl

theorem deriveOrder_cores (i : Fin 16) : CoresKept s (deriveOrder i s) := modVehicle_cores s i (Vehicle.derived_core s)

theorem grantOne_cores (w : Wait) (rest : List Wait) : CoresKept s (grantOne w rest s) := by
  unfold grantOne
  simp only
  split
  · exact (CoresKept.of_entries (congrArg VehicleUnit.entries (sendAdjacent_reports ..).vu)).after rfl
  split
  · exact ((modVehicle_cores _ _).trans (deriveOrder_cores ..)).after rfl
  · exact .of_entries rfl

theorem reexamine_cores : CoresKept s (reexamine s) := by
  have hloop (n : Nat) (t : State) : CoresKept t (grantLoop n t) := by
    induction n generalizing t with
    | zero => exact .refl t
    | succ n ih =>
      unfold grantLoop
      split
      · exact .refl t
      split
      · exact (grantOne_cores ..).trans (ih _)
      · exact .refl t
  exact hloop _ s

theorem leaveIfPassed_cores (i : Fin 16) : CoresKept s (leaveIfPassed i s) := by
  unfold leaveIfPassed
  split
  · split
    · exact ((modVehicle_cores _ _).trans (reexamine_cores _)).after rfl
    · exact .refl s
  · exact .refl s

theorem rederive_cores (i : Fin 16) : CoresKept s (rederive i s) := (leaveIfPassed_cores s i).trans (deriveOrder_cores ..)

end

/-- The order of an entry depends on what it is, where it heads, and its role, request and manual stop. -/
theorem orderOf_congr {s t : State} {v w : Vehicle} (hs : t.vu.methane = s.vu.methane) (hl : t.vu.level = s.vu.level) (hc : t.vu.cfg = s.vu.cfg)
    (hr : w.role = v.role) (hv : w.core = v.core) : orderOf t w = orderOf s v := by
  have hk : w.kind = v.kind := (congrArg Vehicle.kind hv :)
  have hh : w.heading = v.heading := (congrArg Vehicle.heading hv :)
  have hm : w.manualStop = v.manualStop := (congrArg Vehicle.manualStop hv :)
  have hq : w.request = v.request := (congrArg Vehicle.request hv :)
  simp only [orderOf, orderLine, hs, hl, hc, hr, hk, hh, hm, hq]

theorem Vehicle.derived_role (s : State) (v : Vehicle) : (v.derived s).role = v.role := by
  unfold Vehicle.derived
  split <;> rfl

/-- R153: after a re-derivation an entry in use has the order the table gives it. -/
theorem rederive_some {i : Fin 16} {v : Vehicle} {s : State} (hv : s.vehicle i = some v) :
    ∃ w, (rederive i s).vehicle i = some w ∧ w.core = v.core ∧ w.order = orderOf (rederive i s) w := by
  obtain ⟨u, hu, hcore⟩ := (leaveIfPassed_cores s i).some hv
  have hw : (rederive i s).vehicle i = some (u.derived (leaveIfPassed i s)) := by
    rw [rederive, deriveOrder_eq, vehicle_modVehicle, hu]; rfl
  have heff := deriveOrder_effect i (leaveIfPassed i s)
  refine ⟨_, hw, (Vehicle.derived_core ..).trans hcore, (Vehicle.derived_order ..).trans ?_⟩
  exact (orderOf_congr (heff.same .vuMethane (by decide)) (heff.same .vuLevel (by decide)) (heff.same .roadCfg (by decide))
    (Vehicle.derived_role ..) (Vehicle.derived_core ..)).symm

/-! ## VEHICLE_ORDER (R154) -/

theorem findVehicle_some {id : Nat} {s : State} {i : Fin 16} {v : Vehicle} (h : findVehicle id s = some i) (hv : s.vehicle i = some v) :
    v.id = id := by
  have hi := List.find?_some h
  simpa [hv] using hi

theorem findVehicle_none {id : Nat} {s : State} (h : ∀ i v, s.vehicle i = some v → v.id ≠ id) : findVehicle id s = none := by
  rw [findVehicle, List.find?_eq_none]
  intro i _
  cases hv : s.vehicle i with
  | none => simp
  | some v => simpa using h i v hv

section
variable {src : Source} {tag : Byte} {id : Nat} {stop : Bool} {s : State}

/-- The two commands of R154 are one, with the action it names. -/
theorem vehicleOrder_exec (src : Source) (tag : Byte) (id : Nat) (stop : Bool) (s : State) :
    exec (if stop then .vehicleOrderStop src tag id else .vehicleOrderRelease src tag id) s
      = .next (command src tag [] (cpSurface src) (orderVehicle id stop) s) := by cases stop <;> rfl

theorem vehicleOrder_denied (h : src = .sp) : command src tag [] (cpSurface src) (orderVehicle id stop) s
    = respond src tag (refused .denied) s := by subst h; rfl

theorem vehicleOrder_right (h : src ≠ .sp) : command src tag [] (cpSurface src) (orderVehicle id stop) s
    = respond src tag (orderVehicle id stop s).2 (orderVehicle id stop s).1 := by
  rw [cpSurface_of_ne h, command_right _ _ _ _ _ (Nat.zero_le _)]

theorem orderVehicle_badParam (h : id = 0 ∨ 4095 < id) : orderVehicle id stop s = refuse .badParam s := if_pos (by simpa using h)

theorem orderVehicle_noEntry (h1 : 1 ≤ id) (h2 : id ≤ 4095) (h : findVehicle id s = none) : orderVehicle id stop s = refuse .noEntry s := by
  rw [orderVehicle, if_neg (by simp; omega), h]

theorem modVehicle_stop {i : Fin 16} {v : Vehicle} (hv : s.vehicle i = some v) :
    modVehicle i (fun v => { v with manualStop := stop }) s = s.setVehicle i (some { v with manualStop := stop }) := modVehicle_of_some hv

theorem orderVehicle_found {i : Fin 16} {v w : Vehicle} (h1 : 1 ≤ id) (h2 : id ≤ 4095) (h : findVehicle id s = some i)
    (hv : s.vehicle i = some v) (hw : (rederive i (s.setVehicle i (some { v with manualStop := stop }))).vehicle i = some w)
    (hid : w.id = id) (hstop : w.manualStop = stop) : orderVehicle id stop s
      = (rederive i (s.setVehicle i (some { v with manualStop := stop })), done (u16 id ++ [byteOf (flag stop), byteOf w.order.code])) := by
  rw [orderVehicle, if_neg (by simp; omega), h]
  simp only [modVehicle_stop hv, hw]
  rw [hid, hstop]
  rfl

end

theorem setVehicle_self {i : Fin 16} {v : Vehicle} {s : State} (hv : s.vehicle i = some v) : s.setVehicle i (some v) = s := by
  have hself : vset s.vu.entries i (some v) = s.vu.entries := by
    apply Vector.ext
    intro k hk
    simp only [vset, Vector.getElem_set]
    split
    next h => subst h; exact hv.symm
    · rfl
  rw [State.setVehicle, State.updVu]
  simp only [hself]

/-- R154, R166: a raw VEHICLE_ORDER with another action. -/
theorem runRecord_vehicleOrder {src : Source} {r : Bytes} {s : State} (hgood : frameGood r = true) (hcode : byteAt r 0 = 56)
    (hlen : byteAt r 2 = 3) (haction : 1 < byteAt r 5) (hsrc : src ≠ .sp) :
    runRecord src r s = respond src (r.getD 1 0) (refused .badParam) s := by
  have hbyte : byteAt (recordParams r) 2 = byteAt r 5 := by
    rw [recordParams, hlen, byteAt_take (by decide), byteAt_drop]
  have hrun : runVehicleOrder src (recordTag r) (recordParams r) s = badForm src (recordTag r) (cpSurface src) s :=
    if_pos (by simp [hbyte, haction])
  rw [runRecord, hgood, if_neg (by simp), hcode, if_neg (by decide)]
  show runVehicleOrder src (recordTag r) (recordParams r) s = _
  rw [hrun, badForm, cpSurface_of_ne hsrc]
  rfl

/-- Settles O44: the lines of the table in order, and the command by the first case that applies. -/
theorem vehicleOrdered : Obligations.VehicleOrdered := by
  refine ⟨?table, fun src tag id stop s k hk => ?order⟩
  case table =>
    rintro s v trip stop evac alarm gov out rfl rfl rfl rfl rfl rfl
    exact ⟨orderOf_shutdown, orderOf_stop, orderOf_evacuate, orderOf_noEntry, orderOf_governed, orderOf_outbye, orderOf_proceed⟩
  case order =>
    have hexec : exec k s = .next (command src tag [] (cpSurface src) (orderVehicle id stop) s) := by rw [hk]; exact vehicleOrder_exec ..
    refine ⟨fun h => .of_eq (vehicleOrder_denied h) hexec, fun h hid => .of_eq ?_ hexec, fun h h1 h2 hno => .of_eq ?_ hexec,
      fun i v h h1 h2 hfind hv => ?_, fun r hgood hcode hlen haction hsrc => .of_eq (runRecord_vehicleOrder hgood hcode hlen haction hsrc)⟩
    · rw [vehicleOrder_right h, orderVehicle_badParam hid]; rfl
    · rw [vehicleOrder_right h, orderVehicle_noEntry h1 h2 (findVehicle_none hno)]; rfl
    · obtain ⟨w, hw, hcore, horder⟩ := rederive_some (i := i) (s := s.setVehicle i (some { v with manualStop := stop }))
        (State.vehicle_setVehicle ..)
      have hid : w.id = id := (congrArg Vehicle.id hcore :).trans (show v.id = id from findVehicle_some hfind hv)
      have hstop : w.manualStop = stop := (congrArg Vehicle.manualStop hcore :)
      have hsame : SameBut [.cs, .vu, .pi] s (rederive i (s.setVehicle i (some { v with manualStop := stop }))) := by
        have heff := (rederive_effect i (s.setVehicle i (some { v with manualStop := stop }))).sameBut (may := [.cs, .vu, .pi])
        intro b hb
        have hset : Same s (s.setVehicle i (some { v with manualStop := stop })) b := by cases b <;> first | rfl | simp at hb
        cases b <;> exact (heff _ hb).trans hset
      refine ⟨_, w, .of_eq ?_ hexec, rfl, hw, hstop, horder, hid, hsame, fun heq => ?_⟩
      · rw [vehicleOrder_right h, orderVehicle_found h1 h2 hfind hv hw hid hstop]
      · have hself : ({ v with manualStop := stop } : Vehicle) = v := by rw [← heq]
        rw [hself, setVehicle_self hv]

end Sys2Proof.Machine
end

section
/-! PROOFS. Raw records, commands from the surface and REMOTE (9.1, 9.2). -/

namespace Sys2Proof.Machine

-- Declarations are elaborated one after another: in a text of this length the threads of many at once would not fit the memory limit.
set_option Elab.async false

/-! ## Frames and codes (R166, R184) -/

section
variable {src : Source} {tag : Byte} {r p : Bytes} {s : State}

theorem frameGood_bad (h : 32 < byteAt r 2 ∨ r.length ≠ byteAt r 2 + 4 ∨ byteSum r ≠ 0) : frameGood r = false := by
  rw [Bool.eq_false_iff]
  intro hgood
  simp only [frameGood, Bool.and_eq_true, decide_eq_true_eq, beq_iff_eq] at hgood
  obtain ⟨⟨h1, h2⟩, h3⟩ := hgood
  omega

theorem runRecord_bad (h : frameGood r = false) : runRecord src r s = respond src (r.getD 1 0) (refused .badFrame) s := by
  simp only [runRecord, h, Bool.not_false, if_true, recordTag]

theorem runSurface_bad (h : frameGood r = false) : runSurface r s = respond .surface (r.getD 1 0) (refused .badFrame) s := by
  simp only [runSurface, h, Bool.not_false, if_true, recordTag]

theorem runRecord_good (h : frameGood r = true) (hcode : byteAt r 0 ≠ 70) :
    runRecord src r s = runCode src (r.getD 1 0) (byteAt r 0) (recordParams r) s := by
  simp only [runRecord, h, Bool.not_true, Bool.false_eq_true, if_false, remoteCode, hcode, recordTag]

theorem runSurface_good (h : frameGood r = true) (hcode : byteAt r 0 ≠ 70) :
    runSurface r s = runCode .surface (r.getD 1 0) (byteAt r 0) (recordParams r) s := by
  simp only [runSurface, h, Bool.not_true, Bool.false_eq_true, if_false, remoteCode, hcode, recordTag]

theorem runSurface_remote (h : frameGood r = true) (hcode : byteAt r 0 = 70) :
    runSurface r s = respond .surface (r.getD 1 0) (refused .denied) s := by
  simp only [runSurface, h, Bool.not_true, Bool.false_eq_true, if_false, remoteCode, hcode, if_true, recordTag]

/-- R184: the codes no command has. -/
def NoCommand (n : Nat) : Prop :=
  n = 0 ∨ (4 < n ∧ n < 8) ∨ (12 < n ∧ n < 16) ∨ (16 < n ∧ n < 20) ∨ (23 < n ∧ n < 28) ∨ (35 < n ∧ n < 40) ∨ n = 47
    ∨ (60 < n ∧ n < 64) ∨ 70 < n

theorem runCode_unknown {n : Nat} (h : NoCommand n) : runCode src tag n p s = respond src tag (refused .unknownCommand) s := by
  unfold NoCommand at h
  unfold runCode
  split
  case h_49 => rfl
  all_goals omega

/-- R177: the clear option is not for the surface. -/
theorem runStatusRead_clear (hoption : byteAt p 0 = 1) :
    runStatusRead .surface tag p s = respond .surface tag (refused .denied) s := by
  unfold runStatusRead
  simp only [hoption]
  rw [if_neg (by decide)]
  split
  · rfl
  · rfl

end

/-! ## REMOTE (R169) -/

section
variable {q : Port} {tag : Byte} {r : Bytes} {s : State} {target : Nat}

theorem doRemote_head (hhead : s.tb.role = .head) (hlen : byteAt r 2 ≤ 20) (hr : r.length = byteAt r 2 + 4) (b : Byte) :
    doRemote (portSource q) tag (b :: r) s
      = respond (portSource q) tag (remoteBody (b :: r) s).2 (remoteBody (b :: r) s).1 := by
  have hright : (s.isHead && spCp (portSource q)) = true := by cases q <;> simp [State.isHead, hhead, spCp, portSource]
  rw [doRemote, hright, command_right _ _ _ _ _ (by rw [List.length_cons]; omega)]

theorem remoteBody_eq (ht : target ≤ 63) (hlen : byteAt r 2 ≤ 20) (hr : r.length = byteAt r 2 + 4) : remoteBody (byteOf target :: r) s
    = if 16 ≤ s.cs.queues.inbye.signal.length then refuse .noCells s
      else (sendCommand target r s, accepted [r.getD 1 0]) := by
  have hwrap : wrapOk r = true := by simp [wrapOk, hlen, hr]
  have htarget : byteAt (byteOf target :: r) 0 = target := byteAt_byteOf (by omega) r
  unfold remoteBody
  simp only [htarget, List.drop_one, List.tail_cons, hwrap]
  rw [if_neg (by simp; omega)]
  rfl

theorem sendCommand_other (haddr : target ≠ s.tb.address ∨ target = 63) (h0 : target ≠ 0) :
    sendCommand target r s = sendTo 64 target r s := by
  have hown : ownDest target s = false := by
    rw [Bool.eq_false_iff, Ne, ownDest_iff]
    rintro ⟨h63, ha | ⟨-, hz⟩⟩
    · exact haddr.elim (fun h => h ha) fun h => h63 h
    · exact h0 hz
  rw [sendCommand, if_neg h0, if_neg (by simp [hown])]
  rfl

end

/-- Settles O52: a record by its frame, its code and its source, and REMOTE by its target. -/
theorem recordsChecked : Obligations.RecordsChecked := by
  refine ⟨fun src r s => ⟨fun h => ⟨.of_eq (runRecord_bad (frameGood_bad h)), .of_eq (runSurface_bad (frameGood_bad h))⟩, fun hgood h => ?unknown⟩,
    fun r s tag p hgood htag hp => ?surface, fun q tag r s hhead hlen hr hroom => ?here, fun q tag target r s hhead ht haddr h0 hlen hr => ?queued⟩
  case unknown =>
    have hcode : byteAt r 0 ≠ 70 := by omega
    exact ⟨.of_eq ((runRecord_good hgood hcode).trans (runCode_unknown h)), .of_eq ((runSurface_good hgood hcode).trans (runCode_unknown h))⟩
  case surface =>
    subst htag hp
    have hrun {n : Nat} (hn : byteAt r 0 = n) (h70 : n ≠ 70) :
        runSurface r s = runCode .surface (r.getD 1 0) n ((r.drop 3).take (byteAt r 2)) s := by
      rw [runSurface_good hgood (hn ▸ h70), hn]; rfl
    refine ⟨fun h => ⟨_, .of_eq (hrun h (by decide)), .of_eq rfl⟩, fun h => ⟨_, .of_eq (hrun h (by decide)), .of_eq rfl⟩,
      fun h => ⟨_, .of_eq (hrun h (by decide)), .of_eq rfl⟩, fun h => ⟨_, .of_eq (hrun h (by decide)), .of_eq rfl⟩,
      fun h => ⟨_, .of_eq (hrun h (by decide)), .of_eq rfl⟩, fun h => .of_eq ?_⟩
    obtain h | ⟨h, hlen, hoption⟩ := h
    · exact runSurface_remote hgood h
    · have hbyte : byteAt ((r.drop 3).take (byteAt r 2)) 0 = 1 := by rw [byteAt_take hlen, byteAt_drop]; exact hoption
      exact (hrun h (by decide)).trans (runStatusRead_clear hbyte)
  case here =>
    have hbody := remoteBody_eq (target := 0) (s := s) (by decide) hlen hr
    rw [if_neg (Nat.not_le.mpr hroom)] at hbody
    have hdo := doRemote_head (q := q) (tag := tag) hhead hlen hr (byteOf 0)
    rw [hbody] at hdo
    exact ⟨runSurface r s, .of_eq rfl, .of_eq hdo⟩
  case queued =>
    have hbody := remoteBody_eq (s := s) ht hlen hr
    have hdo := doRemote_head (q := q) (tag := tag) hhead hlen hr (byteOf target)
    rw [hbody, sendCommand_other haddr h0] at hdo
    refine ⟨fun hroom => .of_eq ?_, fun hfull => .of_eq ?_⟩
    · rw [hdo, if_neg (Nat.not_le.mpr hroom)]
    · rw [hdo, if_pos hfull]; rfl

end Sys2Proof.Machine
end

section
/-! PROOFS. The timers of the Vehicle Unit and the roadway block (8.2, 8.5, 8.6). -/

namespace Sys2Proof.Machine

-- Declarations are elaborated one after another: in a text of this length the threads of many at once would not fit the memory limit.
set_option Elab.async false

/-! ## Departure, resend and overdue (R150, R159, R162) -/

section
variable {i : Fin 16} {v : Vehicle} {s : State}

theorem departureDue_of (hv : s.vehicle i = some v) (h : s.vu.cfg.presence ≤ v.unheard + 1) : departureDue s i = true := by
  simp [departureDue, hv, h]

theorem isSome_of_cores {s t : State} (h : CoresKept s t) (hs : (s.vehicle i).isSome = true) : (t.vehicle i).isSome = true := by
  obtain ⟨v, hv⟩ := Option.isSome_iff_exists.mp hs
  obtain ⟨w, hw, -⟩ := h.some hv
  rw [hw]; rfl

theorem modVehicle_isSome {f : Vehicle → Vehicle} {j : Fin 16} (hs : (s.vehicle j).isSome = true) : ((modVehicle i f s).vehicle j).isSome = true := by
  by_cases hj : j = i
  · subst hj; rw [vehicle_modVehicle]; simpa using hs
  · rw [vehicle_modVehicle_of_ne _ _ hj]; exact hs

/-- R150: an entry in use that departs is free, and the table is full no longer. -/
theorem depart_leaves (hs : (s.vehicle i).isSome = true) : (depart i s).vehicle i = none ∧ (depart i s).vu.tableFull = false := by
  obtain ⟨v, hv⟩ := Option.isSome_iff_exists.mp hs
  have hwait : ((if v.role = .waiting then
      reexamine (modVehicle i (fun v => { v with role := .none }) (dropLocalWait v.id s)) else s).vehicle i).isSome = true := by
    split
    · exact isSome_of_cores (reexamine_cores _) (modVehicle_isSome hs)
    · exact hs
  have hrelease (t : State) (ht : (t.vehicle i).isSome = true) :
      ((if v.request = .requested then releaseRequest i t else t).vehicle i).isSome = true := by
    split
    · unfold releaseRequest
      split
      next w _ =>
        have hvu : (sendRelease w.id t).vu = t.vu := (sendAdjacent_reports ..).vu
        refine modVehicle_isSome ?_
        rwa [State.vehicle, hvu]
      · exact ht
    · exact ht
  have hboth := hrelease _ hwait
  unfold depart
  simp only [hv]
  split
  · exact ⟨State.vehicle_setVehicle .., rfl⟩
  next hnone => rw [hnone] at hboth; exact absurd hboth (by simp)

theorem vehicleDeparture_due (hv : s.vehicle i = some v) (h : s.vu.cfg.presence ≤ v.unheard + 1) : vehicleDeparture i s
    = depart i (s.setVehicle i (some { v with unheard := v.unheard + 1 })) := by
  have hdue := departureDue_of hv h
  rw [vehicleDeparture, if_pos hdue, unheardTick, if_pos hdue, modVehicle_of_some hv]

theorem blockRequestResend_due (hv : s.vehicle i = some v) (hq : v.request = .requested) (h : 99 ≤ v.resend) : blockRequestResend i s
    = sendRequest v (s.setVehicle i (some { v with resend := 0 })) := by
  have hcount : Config.blockResendLimit ≤ v.resend + 1 := Nat.succ_le_succ h
  have hdue : resendDue s i = true := by simp [resendDue, hv, hq, hcount]
  rw [blockRequestResend, if_pos hdue, resendTick]
  simp only [hv]
  rw [if_pos hq, if_pos hcount, modVehicle_of_some hv]

/-- R23: the line on which the adjacent node lies. -/
theorem adjacentLine (l : Line) (h : s.tb.role = .head → l = .inbye) : (if s.isHead then .inbye else l) = l := by
  split
  next hhead => exact (h (by simpa [State.isHead] using hhead)).symm
  next => rfl

/-- R23, R24: a SIGNAL cell for the adjacent node joins the queue of its line while that has room. -/
theorem sendAdjacent_signal {l : Line} {kind : Nat} {payload : Bytes} (hrole : s.tb.role = .head → l = .inbye) (hstaging : s.cs.staging = none)
    (hc : (buildCell kind 63 payload s).classOf = .signal) (hroom : (s.cs.queues.get l).signal.length < 16) :
    sendAdjacent l kind payload s = s.updQueues l fun q => { q with signal := q.signal ++ [buildCell kind 63 payload s] } := by
  have hplace : placeCell l (buildCell kind 63 payload s) s = joinLocal l (buildCell kind 63 payload s) s := by rw [placeCell, hstaging]
  rw [sendAdjacent, adjacentLine l hrole, hplace, joinLocal_signal hc, joinQueue_signal_room hc hroom]

end

theorem memberOverdue_due {pre post : List Member} {m : Member} {s : State} (hm : s.vu.members = pre ++ m :: post)
    (hpre : ∀ x ∈ pre, x.id ≠ m.id) (ho : m.overdue = false) (hage : s.vu.cfg.transit ≤ m.age + 1) : memberOverdue m.id s
      = reportOverdue { m with age := m.age + 1, overdue := true }
          (s.updVu fun u => { u with members := pre ++ { m with age := m.age + 1, overdue := true } :: post }) := by
  have hdue : overdueDue s m = true := by simp [overdueDue, ho, hage]
  have hany : (s.vu.members.any fun x => x.id == m.id && overdueDue s x) = true := by
    rw [List.any_eq_true]; exact ⟨m, by simp [hm], by simp [hdue]⟩
  have hfind : (s.vu.members.find? fun x => x.id == m.id) = some m := by
    have hnone : (pre.find? fun x => x.id == m.id) = none := List.find?_eq_none.mpr fun x hx => by simpa using hpre x hx
    simp [hm, List.find?_append, hnone]
  have hreplace (x : Member) : replaceFirst (fun y => y.id == m.id) x s.vu.members = pre ++ x :: post := by
    rw [hm]; exact replaceFirst_append x (fun y hy => by simpa using hpre y hy) (by simp)
  rw [memberOverdue, if_pos hany, memberTick]
  simp only [hfind, ho, Bool.false_eq_true, if_false, hdue, if_true]
  simp only [State.updVu, hreplace]

theorem reportOverdue_reports (m : Member) (s : State) : Reports s (reportOverdue m s) :=
  ((postBoth_reports ..).trans (postBoth_reports ..)).trans (sendTo_reports ..)

/-- Settles O43: each row by what it does at its brink. -/
theorem vehicleTimers : Obligations.VehicleTimers := by
  refine ⟨fun i v s hv h => ?depart, fun i v s hv hq h => ?resend, fun pre post m s hm hpre ho hage =>
    ⟨_, .of_eq (memberOverdue_due hm hpre ho hage), reportOverdue_reports ..⟩⟩
  case depart =>
    obtain ⟨hfree, hfull⟩ := depart_leaves (i := i) (s := s.setVehicle i (some { v with unheard := v.unheard + 1 }))
      (by rw [State.vehicle_setVehicle]; rfl)
    have hset : SameBut [.cs, .vu, .pi] s (s.setVehicle i (some { v with unheard := v.unheard + 1 })) := by
      intro b hb
      cases b <;> first | rfl | simp at hb
    exact ⟨_, .of_eq (vehicleDeparture_due hv h), hfree, hfull, hset.trans (depart_effect ..).sameBut⟩
  case resend =>
    refine ⟨_, .of_eq (blockRequestResend_due hv hq h), sendAdjacent_reports .., fun hrole hstaging hroom => ?_⟩
    have hsend := sendAdjacent_signal (l := .outbye) (kind := kBlockRequest) (payload := u16 v.id ++ u8 v.kind.code)
      (s := s.setVehicle i (some { v with resend := 0 })) (by simp [hrole]) hstaging rfl hroom
    exact ⟨_, by rw [sendRequest, hsend]; rfl, rfl, rfl, rfl⟩

/-! ## The roadway block (R156 to R162) -/

theorem reexamine_of_nil {s : State} (h : s.vu.waits = []) : reexamine s = s := by
  rw [reexamine, h]; rfl

section
variable {tag : Byte} {p : Bytes} {s : State} {c : BlockConfig}

theorem blockConfigOf_eq {head : Bool} (h0 : byteAt p 0 ≤ 1) (h1 : byteAt p 1 ≤ 1) (hhead : head = true → byteAt p 1 = 0) :
    blockConfigOf head p = some { governs := byteAt p 0 == 1, outbyeGoverned := byteAt p 1 == 1, convoy := min 4 (max 1 (byteAt p 2))
                                  transit := min 12000 (max 200 (wordAt p 3)), presence := min 1000 (max 20 (wordAt p 5)) } := by
  have hno : (decide (1 < byteAt p 0) || decide (1 < byteAt p 1) || (head && decide (byteAt p 1 = 1))) = false := by
    cases head
    · simp [h0, h1]
    · simp [h0, hhead rfl]
  have hconvoy := clamp_eq (lo := 1) (hi := 4) (by omega) (byteAt p 2)
  have htransit := clamp_eq (lo := 200) (hi := 12000) (by omega) (wordAt p 3)
  have hpresence := clamp_eq (lo := 20) (hi := 1000) (by omega) (wordAt p 5)
  unfold blockConfigOf
  simp only [hno, Bool.false_eq_true, if_false, hconvoy, htransit, hpresence]

theorem doBlockConfigure_eq (hlen : p.length = 7) (hc : blockConfigOf s.isHead p = some c) : doBlockConfigure .cp tag p s =
    if s.vu.cfg.governs && !c.governs && !s.vu.members.isEmpty then respond .cp tag (refused .wrongState) s
    else respond .cp tag (done (blockConfigBytes c)) (configureBlock c s) := by
  rw [doBlockConfigure, command_cp_sized hlen]
  simp only [hc]
  by_cases h : (s.vu.cfg.governs && !c.governs && !s.vu.members.isEmpty) = true
  · simp only [h, if_true, refuse]
  · simp only [h, Bool.false_eq_true, if_false]

/-- R156: what follows the taking of the five values moves none of them. -/
theorem configureBlock_frame (c : BlockConfig) (s : State) :
    (configureBlock c s).vu.cfg = c ∧ SameBut [.cs, .vu, .pi] s (configureBlock c s) := by
  have hgovern (b : Bool) (t : State) : Effect driving [] t (if b then endGoverning t else t) := by
    split
    · exact endGoverning_effect t
    · exact .refl t
  have houtbye (b : Bool) (t : State) : Effect driving [] t (if b then endOutbye t else t) := by
    split
    · exact endOutbye_effect t
    · exact .refl t
  have hgrant (t : State) : Effect driving [] t (if s.vu.cfg.convoy = c.convoy then t else reexamine t) := by
    split
    · exact .refl t
    · exact reexamine_effect t
  have heff : Effect driving [] (s.updVu fun u => { u with cfg := c }) (configureBlock c s) :=
    (((hgovern _ _).trans (houtbye _ _)).trans (hgrant _)).trans (rederiveAll_effect _)
  have hset : SameBut [.cs, .vu, .pi] s (s.updVu fun u => { u with cfg := c }) := by
    intro b hb
    cases b <;> first | rfl | simp at hb
  exact ⟨heff.same .roadCfg (by decide), hset.trans heff.sameBut⟩

end

section
variable {p : Bytes} {s : State}

theorem blockIdOk_of {id : Nat} (h1 : 1 ≤ id) (h2 : id ≤ 4095) : blockIdOk id = true := by simp [blockIdOk, h1, h2]

theorem blockRequest_asking (h1 : 1 ≤ wordAt p 0) (h2 : wordAt p 0 ≤ 4095) (h : s.vu.cfg.governs = false) :
    blockRequest .inbye p s = sendAdjacent .inbye 49 (u16 (wordAt p 0)) s := by
  simp only [blockRequest, blockIdOk_of h1 h2, h]
  rfl

/-- R157, R160: with the roadway free and nobody waiting a request is granted at once. -/
theorem blockRequest_free (h1 : 1 ≤ wordAt p 0) (h2 : wordAt p 0 ≤ 4095) (h : s.vu.cfg.governs = true) (hm : s.vu.members = [])
    (hw : s.vu.waits = []) (hd : s.vu.dir = .free) (hc : 0 < convoyInForce s) : blockRequest .inbye p s
      = sendAdjacent .inbye kBlockGrant (u16 (wordAt p 0)) (s.updVu fun u => { u with
          waits := [], dir := .outbyeBound, members := [{ id := wordAt p 0, round := s.tb.running, age := 0, overdue := false }] }) := by
  have hnew : blockRequest .inbye p s = requestNew (wordAt p 0) s := by
    simp [blockRequest, blockIdOk_of h1 h2, h, hm]
  have hgrant : grantable (s.updVu fun u => { u with waits := [{ id := wordAt p 0, remote := true }] }) { id := wordAt p 0, remote := true } = true := by
    have hc' : 0 < convoyInForce (s.updVu fun u => { u with waits := [{ id := wordAt p 0, remote := true }] }) := hc
    simp [grantable, State.updVu_vu, hd, hm, hc']
  rw [hnew, requestNew, hw, if_neg (by simp), if_neg (by decide)]
  have hwaits : (s.updVu fun u => { u with waits := u.waits ++ [{ id := wordAt p 0, remote := true }] })
      = s.updVu fun u => { u with waits := [{ id := wordAt p 0, remote := true }] } := by
    simp only [State.updVu, hw, List.nil_append]
  rw [hwaits]
  show grantLoop 1 _ = _
  rw [grantLoop]
  simp only [State.updVu_vu]
  rw [if_pos hgrant, grantLoop, grantOne]
  simp only [if_true, State.updVu, hm, List.filter_nil, List.nil_append]
  rfl

theorem blockGrant_requested {i : Fin 16} {v : Vehicle} (h1 : 1 ≤ wordAt p 0) (h2 : wordAt p 0 ≤ 4095)
    (hfind : findVehicle (wordAt p 0) s = some i) (hv : s.vehicle i = some v) (hq : v.request = .requested) :
    blockGrant .outbye p s = rederive i (s.setVehicle i (some { v with request := .granted })) := by
  have hok := blockIdOk_of h1 h2
  rw [← modVehicle_of_some (f := fun v => { v with request := .granted }) hv]
  simp [blockGrant, hok, hfind, hv, hq]

/-- The Vehicle Unit alone is touched where nothing is sent. -/
theorem modVehicle_blocks (i : Fin 16) (f : Vehicle → Vehicle) (s : State) : SameBut [.vu] s (modVehicle i f s) := by
  intro b hb
  unfold modVehicle
  split <;> cases b <;> first | rfl | simp at hb

theorem modVehicle_road (i : Fin 16) (f : Vehicle → Vehicle) (s : State) : (modVehicle i f s).vu.members = s.vu.members
    ∧ (modVehicle i f s).vu.dir = s.vu.dir ∧ (modVehicle i f s).vu.waits = s.vu.waits := by
  unfold modVehicle
  split <;> exact ⟨rfl, rfl, rfl⟩

/-- R161: the members that hold an id leave; the direction becomes FREE with the last. -/
theorem dropMember_frame (id : Nat) (s : State) : (dropMember id s).vu.members = s.vu.members.filter (fun m => m.id != id)
    ∧ (dropMember id s).vu.dir = (if (s.vu.members.filter fun m => m.id != id).isEmpty then .free else s.vu.dir)
    ∧ (dropMember id s).vu.waits = s.vu.waits ∧ SameBut [.vu] s (dropMember id s) := by
  have hset (g : VehicleUnit → VehicleUnit) : SameBut [.vu] s (s.updVu g) := by
    intro b hb
    cases b <;> first | rfl | simp at hb
  unfold dropMember
  simp only
  split
  next i _ =>
    have hroad (f : Vehicle → Vehicle) (t : State) : (deriveOrder i (modVehicle i f t)).vu.members = t.vu.members
        ∧ (deriveOrder i (modVehicle i f t)).vu.dir = t.vu.dir ∧ (deriveOrder i (modVehicle i f t)).vu.waits = t.vu.waits := by
      obtain ⟨h1, h2, h3⟩ := modVehicle_road i f t
      obtain ⟨k1, k2, k3⟩ := modVehicle_road i (Vehicle.derived (modVehicle i f t)) (modVehicle i f t)
      exact ⟨k1.trans h1, k2.trans h2, k3.trans h3⟩
    refine ⟨(hroad _ _).1, (hroad _ _).2.1, (hroad _ _).2.2, ((hset _).trans (modVehicle_blocks _ _ _)).trans (modVehicle_blocks _ _ _)⟩
  · exact ⟨rfl, rfl, rfl, hset _⟩

theorem blockExit_member (h1 : 1 ≤ wordAt p 1) (h2 : wordAt p 1 ≤ 4095) (h0 : byteAt p 0 ≤ 1) (hw : s.vu.waits = [])
    (hm : ∃ m ∈ s.vu.members, m.id = wordAt p 1) : blockExit .inbye p s = dropMember (wordAt p 1) s := by
  have hexit : blockExit .inbye p s = vehicleExit (wordAt p 1) s := by
    have hok := blockIdOk_of h1 h2
    simp [blockExit, hok, Nat.not_lt.mpr h0]
  have hany : (s.vu.members.any fun m => m.id == wordAt p 1) = true := by simpa using hm
  obtain ⟨-, -, hwaits, -⟩ := dropMember_frame (wordAt p 1) s
  have hnone : (dropMember (wordAt p 1) s).updVu (fun u => { u with waits := u.waits.filter fun w => !(w.remote && w.id == wordAt p 1) })
      = dropMember (wordAt p 1) s := by
    rw [State.updVu, hwaits, hw, List.filter_nil, ← hw, ← hwaits]
  rw [hexit, vehicleExit]
  simp only [hany, Bool.true_or, if_true]
  rw [hnone, reexamine_of_nil (hwaits.trans hw)]

end

/-! ## Forced clearing (R162) -/

/-- R162: the entry of a member takes block role none and is derived again. -/
def clearRole (i : Fin 16) (s : State) : State :=
  match (s.vehicle i).map Vehicle.role with
  | some .member => deriveOrder i (modVehicle i (fun v => { v with role := .none }) s)
  | _ => s

theorem forceClear_eq (s : State) : forceClear s = reexamine (forEach allVehicles clearRole (s.updVu fun u => { u with members := [], dir := .free })) := by
  unfold forceClear clearRole
  rfl

/-- No vehicle of an entry is a member. -/
def NoMember (i : Fin 16) (s : State) : Prop := ∀ v, s.vehicle i = some v → v.role ≠ .member

theorem clearRole_noMember (i : Fin 16) (s : State) : NoMember i (clearRole i s) := by
  intro v hv
  unfold clearRole at hv
  split at hv
  next hrole =>
    obtain ⟨w, hw, -⟩ := Option.map_eq_some_iff.mp hrole
    rw [deriveOrder_eq, vehicle_modVehicle, vehicle_modVehicle, hw] at hv
    obtain rfl := Option.some.inj hv
    rw [Vehicle.derived_role]
    simp
  next hother => exact fun h => hother (by rw [hv, Option.map_some, h])

theorem clearRole_other {i j : Fin 16} (hj : j ≠ i) (s : State) : (clearRole i s).vehicle j = s.vehicle j := by
  unfold clearRole
  split
  · rw [deriveOrder_eq, vehicle_modVehicle_of_ne _ _ hj, vehicle_modVehicle_of_ne _ _ hj]
  · rfl

theorem forEach_clearRole_noMember {xs : List (Fin 16)} {i : Fin 16} (hi : i ∈ xs) (s : State) : NoMember i (forEach xs clearRole s) := by
  induction xs generalizing s with
  | nil => exact absurd hi List.not_mem_nil
  | cons x xs ih =>
    by_cases h : i ∈ xs
    · exact ih h (clearRole x s)
    · obtain rfl : i = x := (List.mem_cons.mp hi).resolve_right h
      show NoMember i (forEach xs clearRole (clearRole i s))
      refine forEach_invariant (P := NoMember i) (clearRole_noMember i s) fun y hy t ht v hv => ht v ?_
      rwa [clearRole_other (by rintro rfl; exact h hy)] at hv

theorem clearRole_frame (i : Fin 16) (s : State) : SameBut [.vu] s (clearRole i s) ∧ (clearRole i s).vu.members = s.vu.members
    ∧ (clearRole i s).vu.dir = s.vu.dir ∧ (clearRole i s).vu.waits = s.vu.waits := by
  unfold clearRole
  split
  · obtain ⟨h1, h2, h3⟩ := modVehicle_road i (fun v => { v with role := .none }) s
    obtain ⟨k1, k2, k3⟩ := modVehicle_road i (Vehicle.derived (modVehicle i (fun v => { v with role := .none }) s))
      (modVehicle i (fun v => { v with role := .none }) s)
    exact ⟨(modVehicle_blocks _ _ _).trans (modVehicle_blocks _ _ _), k1.trans h1, k2.trans h2, k3.trans h3⟩
  · exact ⟨.refl _ s, rfl, rfl, rfl⟩

theorem forceClear_frame {s : State} (hw : s.vu.waits = []) : (forceClear s).vu.members = [] ∧ (forceClear s).vu.dir = .free
    ∧ (∀ i, NoMember i (forceClear s)) ∧ SameBut [.vu] s (forceClear s) := by
  have hset : SameBut [.vu] s (s.updVu fun u => { u with members := [], dir := .free }) := by
    intro b hb
    cases b <;> first | rfl | simp at hb
  obtain ⟨hsame, hm, hd, hwaits⟩ := forEach_invariant (P := fun t => SameBut [.vu] s t ∧ t.vu.members = [] ∧ t.vu.dir = .free ∧ t.vu.waits = [])
    (f := clearRole) (xs := allVehicles) (s := s.updVu fun u => { u with members := [], dir := .free }) ⟨hset, rfl, rfl, hw⟩
    fun i _ t ⟨h1, h2, h3, h4⟩ => by
      obtain ⟨k1, k2, k3, k4⟩ := clearRole_frame i t
      exact ⟨h1.trans k1, k2.trans h2, k3.trans h3, k4.trans h4⟩
  rw [forceClear_eq, reexamine_of_nil hwaits]
  exact ⟨hm, hd, fun i => forEach_clearRole_noMember (mem_allVehicles i) _, hsame⟩

theorem doBlockForceClear_eq {src : Source} {tag : Byte} {s : State} (h : src ≠ .sp) : doBlockForceClear src tag [] s
    = respond src tag (done [byteOf s.vu.members.length]) (forceClear s) := by
  rw [doBlockForceClear, command_sized (n := 0) (cpSurface_of_ne h) rfl]
  simp only [u8, byteOf]

/-- Settles O45: each event of the roadway block. -/
theorem roadwayBlock : Obligations.RoadwayBlock := by
  refine ⟨fun tag p s c hlen h0 h1 hhead hc => ?configure, fun p s h1 h2 => ⟨fun h => .of_eq (blockRequest_asking h1 h2 h), fun h hm hw hd hcv => ?granted⟩,
    fun p s i v h1 h2 hfind hv hq => ?grant, fun p s h1 h2 h0 hw hm => ?exit, fun src tag s h hw => ?clear⟩
  case configure =>
    have hof : blockConfigOf s.isHead p = some c := by
      rw [hc]
      exact blockConfigOf_eq h0 h1 fun hh => hhead (by simpa [State.isHead] using hh)
    have hdo := doBlockConfigure_eq (tag := tag) hlen hof
    obtain ⟨hcfg, hsame⟩ := configureBlock_frame c s
    clear hc hof
    refine ⟨fun hg hn hmem => ?_, fun hok => ?_⟩
    · rw [if_pos (by simp [hg, hn, hmem])] at hdo
      exact .of_eq hdo
    · rw [if_neg (by simpa using hok)] at hdo
      exact ⟨_, .of_eq hdo, hcfg, hsame⟩
  case granted =>
    have hdo := blockRequest_free h1 h2 h hm hw hd hcv
    have hset (g : VehicleUnit → VehicleUnit) : SameBut [.cs, .vu, .pi] s (s.updVu g) := by
      intro b hb
      cases b <;> first | rfl | simp at hb
    have hrep := sendAdjacent_reports .inbye kBlockGrant (u16 (wordAt p 0)) (s.updVu fun u => { u with
      waits := [], dir := .outbyeBound, members := [{ id := wordAt p 0, round := s.tb.running, age := 0, overdue := false }] })
    refine ⟨_, .of_eq hdo, (hset _).trans hrep.blocks.mono, ?_⟩
    rw [hrep.vu, State.updVu_vu, ← hw]
  case grant =>
    obtain ⟨w, hw, hcore, horder⟩ := rederive_some (i := i) (s := s.setVehicle i (some { v with request := .granted })) (State.vehicle_setVehicle ..)
    have hset : SameBut [.cs, .vu, .pi] s (s.setVehicle i (some { v with request := .granted })) := by
      intro b hb
      cases b <;> first | rfl | simp at hb
    exact ⟨_, w, .of_eq (blockGrant_requested h1 h2 hfind hv hq), hw, (congrArg Vehicle.id hcore :), (congrArg Vehicle.request hcore :), horder,
      hset.trans (rederive_effect ..).sameBut⟩
  case exit =>
    obtain ⟨hmem, hdir, -, hsame⟩ := dropMember_frame (wordAt p 1) s
    refine ⟨_, .of_eq (blockExit_member h1 h2 h0 hw hm), hmem, fun hnil => ?_, fun hne => ?_, hsame⟩
    · rw [hdir, if_pos (by rw [← hmem, hnil]; rfl)]
    · rw [hdir, if_neg (by rw [← hmem]; simpa using hne)]
  case clear =>
    obtain ⟨hm, hd, hno, hsame⟩ := forceClear_frame hw
    exact ⟨_, .of_eq (doBlockForceClear_eq h), hm, hd, fun i v hv => hno i v hv, hsame⟩

end Sys2Proof.Machine
end

section
/-! PROOFS. Voice carriage (7.6). -/

namespace Sys2Proof.Machine

-- Declarations are elaborated one after another: in a text of this length the threads of many at once would not fit the memory limit.
set_option Elab.async false

/-- R137: a CALL cell that matches a CONNECTED entry acts on that entry alone. -/
theorem callCell_matched {i : Fin 12} {e : Call} {l : Line} {src : Nat} {s : State} (voice : Option Bytes) (hq : s.quiet = false)
    (he : s.call i = some e) (hc : e.state = .connected) (hm : sideMatches e.up l src = true ∨ sideMatches e.far l src = true) :
    callCell l src i.val voice s = s.setCall i (some (takeCallCell e l voice)) := by
  have hmatch : (decide (e.state = .connected) && (sideMatches e.up l src || sideMatches e.far l src)) = true := by simpa [hc] using hm
  rw [callCell, if_neg (by simp [hq]), dif_pos i.isLt]
  show (match s.call i with
    | some e => _
    | none => s) = _
  rw [he]
  exact if_pos hmatch

/-- What an overrun adds to its count. -/
theorem overrun_eq {α : Type} (o : Option α) (n : Nat) :
    (if o.isSome then satSucc 65535 n else n) = if o = none then n else min 65535 (n + 1) := by
  cases o <;> simp [satSucc_eq_min]

theorem takeCallCell_endpoint {e : Call} {l : Line} {v : Bytes} (h : e.role ≠ .transit) : takeCallCell e l (some v)
    = { e with silence := e.silence.set l 0, rx := some v, overrun := if e.rx = none then e.overrun else min 65535 (e.overrun + 1) } := by
  have hend : Call.endpoint { e with silence := e.silence.set l 0 } = true := by simpa [Call.endpoint] using h
  rw [takeCallCell, ← overrun_eq]
  exact if_pos hend

theorem takeCallCell_transit {e : Call} {l : Line} {v : Bytes} (h : e.role = .transit) : takeCallCell e l (some v)
    = { e with silence := e.silence.set l 0, relay := e.relay.set l.other (some (.voice v))
               overrun := if e.relay.get l.other = none then e.overrun else min 65535 (e.overrun + 1) } := by
  have hend : ¬ Call.endpoint { e with silence := e.silence.set l 0 } = true := by simp [Call.endpoint, h]
  rw [takeCallCell, ← overrun_eq]
  exact if_neg hend

theorem voiceEntry_of {i : Fin 12} {e : Call} {s : State} (he : s.call i = some e) (hc : e.state = .connected) (hr : e.role ≠ .transit) :
    voiceEntry s i = some e := by
  simp [voiceEntry, he, hc, Call.endpoint, hr]

section
variable {i : Fin 12} {e : Call} {tag : Byte} {s : State}

theorem callByte (i : Fin 12) (rest : Bytes) : callOf (byteAt (byteOf i.val :: rest) 0) = some i := by
  rw [byteAt_byteOf (by omega), callOf_val]

theorem doVoicePut_eq {v : Bytes} (he : voiceEntry s i = some e) (hlen : v.length = 24) : doVoicePut .cp tag (byteOf i.val :: v) s
    = respond .cp tag (done (u16 e.underrun)) (s.setCall i (some { e with tx := some v })) := by
  rw [doVoicePut, command_cp_sized (by simp [hlen]), callByte]
  simp only [he]
  rfl

theorem doVoiceTake_eq (he : voiceEntry s i = some e) : doVoiceTake .cp tag [byteOf i.val] s
    = respond .cp tag (done (e.rx.getD [] ++ u16 e.overrun)) (s.setCall i (some { e with rx := none })) := by
  rw [doVoiceTake, command_cp_sized (n := 1) rfl, callByte]
  simp only [he]

end

/-- Settles O41: a matched VOICE cell by the role of its entry, and the two commands of the CP. -/
theorem voiceCarried : Obligations.VoiceCarried := by
  refine ⟨fun i e l src v s hq he hc hm => ⟨fun hr => .of_eq ?endpoint, fun hr => .of_eq ?transit⟩,
    fun i e tag v s he hc hr hlen => ⟨.of_eq (doVoicePut_eq (voiceEntry_of he hc hr) hlen), .of_eq (doVoiceTake_eq (voiceEntry_of he hc hr))⟩⟩
  case endpoint => rw [callCell_matched _ hq he hc hm, takeCallCell_endpoint hr]
  case transit => rw [callCell_matched _ hq he hc hm, takeCallCell_transit hr]

end Sys2Proof.Machine
end

section
/-! PROOFS. The radio port and the taking of a beacon (8.1, 8.2). -/

namespace Sys2Proof.Machine

-- Declarations are elaborated one after another: in a text of this length the threads of many at once would not fit the memory limit.
set_option Elab.async false

/-! ## What a level or a cause that changes leaves of the vehicle entries (R149, R153) -/

theorem Effect.cores {ps : List Part} {out : List Law} {s t : State} (h : Effect ps out s t)
    (hp : Part.vehicles ∉ ps := by decide) : CoresKept s t := .of_entries (h.same .vehicles hp)

section
variable (s : State)

theorem rederiveAll_cores : CoresKept s (rederiveAll s) := .forEach (fun i t => rederive_cores t i) allVehicles s

theorem dropInbyeWaits_cores : CoresKept s (dropInbyeWaits s) := by
  unfold dropInbyeWaits
  refine (CoresKept.forEach (fun id t => ?_) _ _).after rfl
  split
  · exact modVehicle_cores t _ fun v => by split <;> rfl
  · exact .refl t

theorem vuSectionLevel_cores (l : SectionLevel) : CoresKept s (vuSectionLevel l s) := by
  have hset : CoresKept s (s.updVu fun u => { u with level := l }) := .of_entries rfl
  unfold vuSectionLevel
  simp only
  split
  · exact (hset.trans (dropInbyeWaits_cores _)).trans ((reexamine_cores _).trans (rederiveAll_cores _))
  split
  · exact hset.trans ((reexamine_cores _).trans (rederiveAll_cores _))
  · exact hset.trans (rederiveAll_cores _)

theorem recomputeMethane_cores : CoresKept s (recomputeMethane s) := by
  unfold recomputeMethane
  simp only
  split
  · exact .refl s
  · exact (rederiveAll_cores _).after rfl

theorem coverSet_cores : CoresKept s (coverSet s) := by
  have htake (x : BitVec 16) (t : State) : CoresKept t (takeCauses (t.updSau fun a => { a with covered := x })) := .of_entries rfl
  exact ((tuRecompute_effect s).cores.trans (recomputeMethane_cores _)).trans (htake _ _)

theorem deriveLevel_cores : CoresKept s (deriveLevel s) := by
  rw [deriveLevel_eq]
  split
  · exact .of_entries rfl
  · have hset (l : SectionLevel) : CoresKept s (setLevel l s) := .of_entries rfl
    exact (((hset _).trans (postSectionLevel_effect ..).cores).trans (ctuSectionLevel_effect ..).cores).trans (vuSectionLevel_cores _ _)

theorem evacuationEnd_cores (before : SectionLevel) : CoresKept s (evacuationEnd before s) := by
  have hreport : CoresKept s (reportOverride s.tu.ovr.state (clearOverride .evacuation s)) := (reportOverride_effect ..).cores.after rfl
  unfold evacuationEnd
  split
  · rw [endOverrideWith_eq]
    split
    · exact (hreport.trans (coverSet_cores _)).trans (deriveLevel_cores _)
    · exact hreport
  · exact .refl s

theorem sauDerive_cores : CoresKept s (sauDerive s) := (deriveLevel_cores s).trans (evacuationEnd_cores _ _)

theorem handToAlarm_cores (i : Fin 16) : CoresKept s (handToAlarm i s) := by
  have hset (x : Option ChannelInput) : CoresKept s (sauRecompute (s.updSau fun a => { a with inputs := vset a.inputs i x })) :=
    (sauDerive_cores _).after rfl
  exact (hset _).trans (airEvent_effect ..).cores

theorem commitChannel_cores (i : Fin 16) (c : Channel) : CoresKept s (commitChannel i c s) := by
  have hset : CoresKept s (s.setChannel i c) := .of_entries rfl
  have hreport (old : Channel) (t : State) := (reportChannel_effect i old t).cores
  exact ((hset.trans (recomputeMethane_cores _)).trans (hreport _ _)).trans ((tuRecompute_effect _).cores.trans (handToAlarm_cores _ _))

theorem handMethane_cores (m : Option Nat) : CoresKept s (handMethane m s) := by
  unfold handMethane mobileReading
  split
  · simp only
    split
    · split
      · exact commitChannel_cores ..
      · exact .refl s
    · exact .refl s
  · exact .refl s

end

/-! ## What a vehicle's own derivation leaves of the entries (R149, R159) -/

/-- A vehicle entry but for what its orders and requests come to. -/
def Vehicle.ident (v : Vehicle) : Vehicle := { v.core with request := .none, resend := 0 }

/-- Every entry is as it was but for its role, its request, its order and its echo. -/
structure IdentsKept (s t : State) : Prop where
  ident : ∀ i, (t.vehicle i).map Vehicle.ident = (s.vehicle i).map Vehicle.ident

namespace IdentsKept

theorem of_cores {s t : State} (h : CoresKept s t) : IdentsKept s t := by
  refine ⟨fun i => ?_⟩
  have hi := congrArg (Option.map fun c : Vehicle => { c with request := .none, resend := 0 }) (h.core i)
  rw [Option.map_map, Option.map_map] at hi
  exact hi

theorem of_entries {s t : State} (h : t.vu.entries = s.vu.entries) : IdentsKept s t := .of_cores (.of_entries h)

theorem refl (s : State) : IdentsKept s s := .of_entries rfl

theorem trans {s t u : State} (h : IdentsKept s t) (k : IdentsKept t u) : IdentsKept s u := ⟨fun i => (k.ident i).trans (h.ident i)⟩

theorem after {s t u : State} (k : IdentsKept t u) (h : t.vu.entries = s.vu.entries) : IdentsKept s u := (of_entries h).trans k

theorem some {s t : State} (h : IdentsKept s t) {i : Fin 16} {v : Vehicle} (hv : s.vehicle i = some v) :
    ∃ w, t.vehicle i = some w ∧ w.ident = v.ident := by
  have hi := h.ident i
  rw [hv] at hi
  exact Option.map_eq_some_iff.mp hi

end IdentsKept

section
variable (i : Fin 16) (s : State)

theorem modVehicle_idents {f : Vehicle → Vehicle} (hf : ∀ v, (f v).ident = v.ident := by exact fun _ => rfl) :
    IdentsKept s (modVehicle i f s) := by
  refine ⟨fun j => ?_⟩
  by_cases hj : j = i
  · subst hj
    rw [vehicle_modVehicle, Option.map_map]
    exact congrArg (fun g => (s.vehicle j).map g) (funext hf)
  · rw [vehicle_modVehicle_of_ne _ _ hj]

theorem sendAdjacent_entries (l : Line) (kind : Nat) (p : Bytes) : (sendAdjacent l kind p s).vu.entries = s.vu.entries := by
  rw [(sendAdjacent_reports ..).vu]

theorem dropMember_idents (id : Nat) : IdentsKept s (dropMember id s) := by
  unfold dropMember
  simp only
  split
  · exact ((modVehicle_idents _ _ fun v => by split <;> rfl).trans (.of_cores (deriveOrder_cores ..))).after rfl
  · exact .of_entries rfl

theorem vehicleExit_idents (id : Nat) : IdentsKept s (vehicleExit id s) := by
  have hwaits (f : List Wait → List Wait) (t : State) : IdentsKept t (reexamine (t.updVu fun u => { u with waits := f u.waits })) :=
    (IdentsKept.of_cores (reexamine_cores _)).after rfl
  unfold vehicleExit
  simp only
  split
  · refine IdentsKept.trans ?_ (hwaits _ _)
    split
    · exact dropMember_idents s id
    · exact .refl s
  · exact .refl s

theorem appearance_idents (id : Nat) (l : Line) : IdentsKept s (appearance id l s) := by
  unfold appearance
  split
  · split
    · exact .refl s
    · exact .of_entries (sendAdjacent_entries ..)
  · split
    · exact vehicleExit_idents s id
    · exact .refl s

theorem releaseRequest_idents : IdentsKept s (releaseRequest i s) := by
  unfold releaseRequest
  split
  · exact (modVehicle_idents _ _).after (sendAdjacent_entries ..)
  · exact .refl s

theorem releaseInbye_idents : IdentsKept s (releaseInbye i s) := by
  unfold releaseInbye
  split
  · split
    · exact releaseRequest_idents i s
    · exact .refl s
  · exact .refl s

theorem startRequest_idents : IdentsKept s (startRequest i s) := by
  unfold startRequest
  split
  · split
    · exact (modVehicle_idents i s).trans (.of_entries (sendAdjacent_entries ..))
    · exact .refl s
  · exact .refl s

theorem offer_idents : IdentsKept s (offer i s) := by
  have hwait (w : List Wait) (t : State) : IdentsKept t (reexamine (t.updVu fun u => { u with waits := w })) :=
    (IdentsKept.of_cores (reexamine_cores _)).after rfl
  unfold offer
  split
  · split
    · exact (modVehicle_idents i s).trans (hwait _ _)
    · exact .refl s
  · exact .refl s

theorem deriveOwn_idents : IdentsKept s (deriveOwn i s) :=
  ((((IdentsKept.of_cores (leaveIfPassed_cores s i))).trans (offer_idents i _)).trans (startRequest_idents i _)).trans
    (.of_cores (deriveOrder_cores ..))

end

/-- R149: after its own derivation an entry in use has the order the table gives it. -/
theorem deriveOwn_some {i : Fin 16} {v : Vehicle} {s : State} (hv : s.vehicle i = some v) :
    ∃ w, (deriveOwn i s).vehicle i = some w ∧ w.ident = v.ident ∧ w.order = orderOf (deriveOwn i s) w := by
  obtain ⟨w, hw, hident⟩ := (deriveOwn_idents i s).some hv
  refine ⟨w, hw, hident, ?_⟩
  have hall (t : State) (hd : (deriveOrder i t).vehicle i = some w) : w.order = orderOf (deriveOrder i t) w := by
    have heff := deriveOrder_effect i t
    rw [deriveOrder_eq, vehicle_modVehicle] at hd
    obtain ⟨u, -, rfl⟩ := Option.map_eq_some_iff.mp hd
    exact (Vehicle.derived_order ..).trans (orderOf_congr (heff.same .vuMethane (by decide)) (heff.same .vuLevel (by decide))
      (heff.same .roadCfg (by decide)) (Vehicle.derived_role ..) (Vehicle.derived_core ..)).symm
  exact hall _ hw

/-- R147: the first heading an entry has after a beacon. -/
def Vehicle.firstAt (v : Vehicle) : Option Line := v.first.or (headingLine v.heading)

/-- R147: the first heading is set by the first beacon with a direction. -/
theorem firstHeading_some {i : Fin 16} {v : Vehicle} {s : State} (hv : s.vehicle i = some v) :
    ∃ w, (firstHeading i s).vehicle i = some w ∧ w.ident = { v with first := v.firstAt }.ident := by
  unfold firstHeading
  simp only [hv]
  split
  next l hnone hl =>
    have hset : (modVehicle i (fun v => { v with first := some l }) s).vehicle i = some { v with first := some l } := by
      rw [vehicle_modVehicle, hv]; rfl
    obtain ⟨w, hw, hident⟩ := (appearance_idents _ v.id l).some hset
    exact ⟨w, hw, by rw [hident, Vehicle.firstAt, hnone, hl]; rfl⟩
  next hother =>
    refine ⟨v, hv, ?_⟩
    have hsame : v.firstAt = v.first := by
      cases hf : v.first with
      | some l => rw [Vehicle.firstAt, hf]; rfl
      | none =>
        cases hl : headingLine v.heading with
        | some l => exact (hother l hf hl).elim
        | none => rw [Vehicle.firstAt, hf, hl]; rfl
    rw [hsame]

/-! ## The conclusion of a beacon (R149) -/

/-- What a beacon leaves an entry with: what it was made of, the order that the table gives it, and its answer. -/
structure Concluded (i : Fin 16) (b : Beacon) (like w : Vehicle) (radio : Radio) (t : State) : Prop where
  entry : t.vehicle i = some w
  ident : w.ident = like.ident
  order : w.order = orderOf t w
  echo : w.echoOk = decide (b.echo = w.order.code)
  radio : t.vu.radio = { radio with orders := radio.orders ++ [orderFrame b.id w.order] }

theorem concludeBeacon_some {i : Fin 16} {b : Beacon} {v : Vehicle} {s : State} (hv : s.vehicle i = some v) :
    ∃ w, Concluded i b v w s.vu.radio (concludeBeacon i b s) := by
  obtain ⟨u, hu, hident, horder⟩ := deriveOwn_some hv
  have heff := deriveOwn_effect i s
  obtain ⟨t, ht⟩ : ∃ t, t = deriveOwn i s := ⟨_, rfl⟩
  rw [← ht] at hu horder heff
  have hset : (modVehicle i (fun v => { v with echoOk := b.echo == v.order.code }) t).vehicle i
      = some { u with echoOk := b.echo == u.order.code } := by rw [vehicle_modVehicle, hu]; rfl
  have hmod := modVehicle_of_some (f := fun v => { v with echoOk := b.echo == v.order.code }) hu
  have hconclude : concludeBeacon i b s = answerBeacon b.id u.order (t.setVehicle i (some { u with echoOk := b.echo == u.order.code })) := by
    unfold concludeBeacon
    simp only [← ht, hset]
    rw [hmod]
  have hradio : t.vu.radio = s.vu.radio := heff.same .radio (by decide)
  rw [hconclude]
  refine ⟨{ u with echoOk := b.echo == u.order.code }, State.vehicle_setVehicle .., hident, horder.trans ?_, ?_, ?_⟩
  · exact (orderOf_congr rfl rfl rfl rfl rfl)
  · simp [beq_eq_decide]
  · rw [← hradio]; rfl

/-- R149: the steps between the fields of the beacon and the derivation. -/
theorem toConclusion_some {i : Fin 16} {v : Vehicle} {s : State} (m : Option Nat) (hv : s.vehicle i = some v) :
    ∃ w, (handMethane m (releaseInbye i (firstHeading i s))).vehicle i = some w ∧ w.ident = { v with first := v.firstAt }.ident := by
  obtain ⟨u, hu, hident⟩ := firstHeading_some hv
  obtain ⟨w, hw, hsame⟩ := ((releaseInbye_idents i _).trans (.of_cores (handMethane_cores _ m))).some hu
  exact ⟨w, hw, hsame.trans hident⟩

/-- The entry of a vehicle known as the fields of its beacon leave it. -/
def Vehicle.heard (b : Beacon) (round : Nat) (v : Vehicle) : Vehicle :=
  { v with kind := b.kind, heading := b.heading, lastHeard := round, unheard := 0, methane := storedMethane b.methane }

theorem knownBeacon_some {i : Fin 16} {b : Beacon} {v : Vehicle} {s : State} (hv : s.vehicle i = some v) :
    ∃ w, Concluded i b { v.heard b s.tb.running with first := (v.heard b s.tb.running).firstAt } w s.vu.radio (knownBeacon i b s) := by
  have hset : (s.setVehicle i (some (v.heard b s.tb.running))).vehicle i = some (v.heard b s.tb.running) := State.vehicle_setVehicle ..
  obtain ⟨u, hu, hident⟩ := toConclusion_some b.methane hset
  obtain ⟨w, hw, hwident, horder, hecho, hradio⟩ := concludeBeacon_some (b := b) hu
  have heff : Effect gauging [] (s.setVehicle i (some (v.heard b s.tb.running)))
      (handMethane b.methane (releaseInbye i (firstHeading i (s.setVehicle i (some (v.heard b s.tb.running)))))) :=
    ((firstHeading_effect ..).mono.trans (releaseInbye_effect ..).mono).trans (handMethane_effect ..)
  have hsame : (handMethane b.methane (releaseInbye i (firstHeading i (s.setVehicle i (some (v.heard b s.tb.running)))))).vu.radio
      = s.vu.radio := heff.same .radio (by decide)
  have hknown : knownBeacon i b s
      = concludeBeacon i b (handMethane b.methane (releaseInbye i (firstHeading i (s.setVehicle i (some (v.heard b s.tb.running)))))) := by
    unfold knownBeacon
    rw [modVehicle_of_some hv]
    rfl
  rw [hknown]
  exact ⟨w, hw, hwident.trans hident, horder, hecho, hradio.trans (by rw [hsame])⟩

theorem reportVehicle_reports (reason : Nat) (v : Vehicle) (s : State) : Reports s (reportVehicle reason v s) :=
  (postBoth_reports ..).trans (sendTo_reports ..)

theorem arrival_some (i : Fin 16) (b : Beacon) (s : State) :
    ∃ w, Concluded i b { newVehicle b s with first := (newVehicle b s).firstAt } w s.vu.radio (arrival i b s) := by
  have hset : (s.setVehicle i (some (newVehicle b s))).vehicle i = some (newVehicle b s) := State.vehicle_setVehicle ..
  obtain ⟨u, hu, hident⟩ := firstHeading_some hset
  obtain ⟨x, hx, hxident⟩ := (IdentsKept.of_cores (handMethane_cores (firstHeading i (s.setVehicle i (some (newVehicle b s)))) b.methane)).some hu
  obtain ⟨w, hw, hwident, horder, hecho, hradio⟩ := concludeBeacon_some (b := b) hx
  have heff : Effect gauging [] (s.setVehicle i (some (newVehicle b s)))
      (handMethane b.methane (firstHeading i (s.setVehicle i (some (newVehicle b s))))) :=
    (firstHeading_effect ..).mono.trans (handMethane_effect ..)
  have hsame : (handMethane b.methane (firstHeading i (s.setVehicle i (some (newVehicle b s))))).vu.radio = s.vu.radio :=
    heff.same .radio (by decide)
  obtain ⟨t, ht⟩ : ∃ t, t = concludeBeacon i b (handMethane b.methane (firstHeading i (s.setVehicle i (some (newVehicle b s))))) := ⟨_, rfl⟩
  rw [← ht] at hw horder hradio
  have harrival : arrival i b s = reportVehicle 0 w t := by
    unfold arrival
    simp only [← ht, hw]
  have hvu := (reportVehicle_reports 0 w t).vu
  rw [harrival]
  refine ⟨w, by rw [State.vehicle, hvu]; exact hw, hwident.trans (hxident.trans hident), horder.trans ?_, hecho, ?_⟩
  · exact orderOf_congr (congrArg VehicleUnit.methane hvu.symm) (congrArg VehicleUnit.level hvu.symm) (congrArg VehicleUnit.cfg hvu.symm) rfl rfl
  · rw [hvu, hradio, hsame]

/-- The first hit of a search through all indices in ascending order. -/
theorem find?_first {n : Nat} {xs : List (Fin n)} {q : Fin n → Bool} {i : Fin n} (hlen : xs.length = n)
    (hget : ∀ j : Fin n, xs[j.val]? = some j) (hi : q i = true) (hlow : ∀ j, j < i → q j = false) : xs.find? q = some i := by
  have hat (j : Fin n) : xs[j.val]'(hlen.symm ▸ j.isLt) = j := List.getElem_eq_iff _ |>.mpr (hget j)
  rw [List.find?_eq_some_iff_getElem]
  refine ⟨hi, i.val, hlen.symm ▸ i.isLt, hat i, fun j hj => ?_⟩
  have hj' : j < n := Nat.lt_trans hj i.isLt
  rw [hat ⟨j, hj'⟩, hlow ⟨j, hj'⟩ hj]; rfl

/-! ## The beacon of a vehicle known, new, and too many (R144, R148, R149) -/

/-- R144: a good frame is counted and the receiver returns to HUNT. -/
def counted (s : State) : State := s.updRadio fun r => { r with inFrame := false, frameAge := 0, beacons := satSucc 65535 r.beacons }

theorem radioFrame_good {f : Bytes} {b : Beacon} (s : State) (h : judgeFrame f = .inr b) : radioFrame f s = takeBeacon b s := by
  rw [radioFrame, h]

section
variable {b : Beacon} {i : Fin 16} {s : State}

theorem takeBeacon_known (h : findVehicle b.id s = some i) : takeBeacon b s = knownBeacon i b (counted s) := by
  have hfind (f : Radio → Radio) : findVehicle b.id (s.updRadio f) = some i := h
  simp only [takeBeacon, hfind, counted]

theorem freeVehicle_some (hfree : s.vehicle i = none) (h : ∀ j : Fin 16, j < i → (s.vehicle j).isSome = true) : freeVehicle s = some i :=
  find?_first (xs := allVehicles) rfl (by decide) (congrArg Option.isNone hfree) fun j hj => by
    rw [← Option.not_isSome, h j hj]; rfl

theorem freeVehicle_none (h : ∀ i, (s.vehicle i).isSome = true) : freeVehicle s = none := by
  rw [freeVehicle, List.find?_eq_none]
  intro i _
  simp [Option.isSome_iff_ne_none.mp (h i)]

theorem takeBeacon_new (h : findVehicle b.id s = none) (hfree : freeVehicle s = some i) : takeBeacon b s = arrival i b (counted s) := by
  have hfind (f : Radio → Radio) : findVehicle b.id (s.updRadio f) = none := h
  have hplace (f : Radio → Radio) : freeVehicle (s.updRadio f) = some i := hfree
  simp only [takeBeacon, hfind, hplace, counted]

theorem takeBeacon_full (h : findVehicle b.id s = none) (hfull : freeVehicle s = none) : takeBeacon b s = tableFullBeacon b (counted s) := by
  have hfind (f : Radio → Radio) : findVehicle b.id (s.updRadio f) = none := h
  have hplace (f : Radio → Radio) : freeVehicle (s.updRadio f) = none := hfull
  simp only [takeBeacon, hfind, hplace, counted]

theorem tableFullBeacon_frame (h : b.methane = none) : (tableFullBeacon b s).vu = { (answerBeacon b.id .wait s).vu with tableFull := true }
    ∧ SameBut [.vu, .pi] s (tableFullBeacon b s) := by
  have hset (g : VehicleUnit → VehicleUnit) (t : State) : SameBut [.vu, .pi] t (t.updVu g) := by
    intro b hb
    cases b <;> first | rfl | simp at hb
  have hpost (k : NoticeKind) (d : Bytes) (t : State) : SameBut [.vu, .pi] t (postBoth k d t) := by
    intro b hb
    cases b <;> first | rfl | simp at hb
  have hnone : handMethane b.methane (answerBeacon b.id .wait s) = answerBeacon b.id .wait s := by rw [h]; rfl
  unfold tableFullBeacon
  simp only [hnone]
  split
  next hfull => exact ⟨by rw [← hfull], hset _ s⟩
  next => exact ⟨rfl, (hset _ s).trans ((hset _ _).trans (hpost _ _ _))⟩

end

theorem takeBeacon_frame (b : Beacon) (s : State) :
    StampsOnly s (takeBeacon b s) ∧ (takeBeacon b s).sbm = s.sbm ∧ (takeBeacon b s).pending = s.pending := by
  have heff := takeBeacon_effect b s
  exact ⟨heff.stampsOnly, heff.block .sbm, heff.pending⟩

/-- Settles O42: the frames by their judgement, a beacon by its id and the room of the table. -/
theorem radioFrames : Obligations.RadioFrames := by
  refine ⟨fun s => ⟨fun h => .of_eq (if_pos h), fun h => .of_eq (if_neg (ne_true_of_eq_false h))⟩, fun f r s h => .of_eq ?discard,
    fun s hin hage => .of_eq ?timeout, fun f rest s h => .of_eq ?send, fun f b i v s hf h hv => ?known, fun f b i s hf h hfree hlow => ?new,
    fun f b s hf hall hm => ?full⟩
  case discard =>
    rw [radioFrame, h]
    simp only [discardFrame, State.updRadio, Radio.discard, satSucc_eq_min]
  case timeout =>
    have hdue : radioDue s = true := by
      have hticks : Config.radioTimeoutTicks ≤ s.vu.radio.frameAge + 1 := Nat.succ_le_succ hage
      simp [radioDue, hin, hticks]
    rw [if_pos hdue, discardFrame]
    simp only [State.updRadio, Radio.discard, satSucc_eq_min]
  case send =>
    rw [sendOrder, h]
    rfl
  case known =>
    obtain ⟨hstamps, hsbm, hpending⟩ := takeBeacon_frame b s
    rw [takeBeacon_known h] at hstamps hsbm hpending
    obtain ⟨w, hw, hident, horder, hecho, hradio⟩ := knownBeacon_some (b := b) (s := counted s) hv
    refine ⟨_, w, .of_eq ((radioFrame_good s hf).trans (takeBeacon_known h)), hw, (congrArg Vehicle.id hident :),
      (congrArg Vehicle.kind hident :), (congrArg Vehicle.heading hident :), (congrArg Vehicle.firstStamp hident :),
      (congrArg Vehicle.lastHeard hident :), (congrArg Vehicle.unheard hident :), (congrArg Vehicle.manualStop hident :),
      (congrArg Vehicle.methane hident :), fun hf => ?_, fun hf => ?_, horder, hecho, ?_, hstamps, hsbm, hpending⟩
    · obtain ⟨l, hl⟩ := Option.ne_none_iff_exists'.mp hf
      have hfirst : w.first = v.first.or (headingLine b.heading) := (congrArg Vehicle.first hident :)
      rw [hfirst, hl]; rfl
    · have hfirst : w.first = v.first.or (headingLine b.heading) := (congrArg Vehicle.first hident :)
      rw [hfirst, hf]; rfl
    · rw [hradio, ← satSucc_eq_min]; rfl
  case new =>
    obtain ⟨hstamps, hsbm, hpending⟩ := takeBeacon_frame b s
    have htake := takeBeacon_new h (freeVehicle_some hfree hlow)
    rw [htake] at hstamps hsbm hpending
    obtain ⟨w, hw, hident, horder, hecho, hradio⟩ := arrival_some i b (counted s)
    refine ⟨_, w, .of_eq ((radioFrame_good s hf).trans htake), hw, (congrArg Vehicle.id hident :),
      (congrArg Vehicle.kind hident :), (congrArg Vehicle.heading hident :), (congrArg Vehicle.firstStamp hident :),
      (congrArg Vehicle.lastHeard hident :), (congrArg Vehicle.unheard hident :), (congrArg Vehicle.manualStop hident :),
      horder, hecho, ?_, hstamps, hsbm, hpending⟩
    rw [hradio, ← satSucc_eq_min]; rfl
  case full =>
    have hnone : findVehicle b.id s = none := findVehicle_none fun i v hv => by
      obtain ⟨w, hw, hid⟩ := hall i
      rw [hw] at hv
      exact Option.some.inj hv ▸ hid
    have hfull : freeVehicle s = none := freeVehicle_none fun i => by
      obtain ⟨w, hw, -⟩ := hall i
      rw [hw]; rfl
    obtain ⟨hvu, hsame⟩ := tableFullBeacon_frame (b := b) (s := counted s) hm
    have hcount : SameBut [.vu, .pi] s (counted s) := by
      intro b hb
      cases b <;> first | rfl | simp at hb
    refine ⟨_, .of_eq ((radioFrame_good s hf).trans (takeBeacon_full hnone hfull)), ?_, ?_, ?_, hcount.trans hsame⟩ <;> rw [hvu] <;> rfl

end Sys2Proof.Machine
end

section
/-! PROOFS. Calls answered, rejected, cleared, timed out and refused (7.2, 7.4, 7.5). -/

namespace Sys2Proof.Machine

-- Declarations are elaborated one after another: in a text of this length the threads of many at once would not fit the memory limit.
set_option Elab.async false

/-! ## An entry that is gone (R122, R132) -/

theorem SameBut.freeCall {may : List Block} {s t : State} (h : SameBut may s t) (hm : Block.ctu ∈ may) (i : Fin 12) :
    SameBut may s (freeCall i t) := by
  intro b hb
  have hs := h b hb
  cases b <;> first | exact hs | exact (hb hm).elim

/-- R132: an entry freed after reports. -/
theorem freeCall_gone {i : Fin 12} {s t : State} (h : Reports s t) : CallGone i s (freeCall i t) where
  free := by rw [freeCall_call, if_pos rfl]
  others := fun j hj => by rw [freeCall_call, if_neg hj, h.call]
  recency := by rw [freeCall_recency]; simp
  blocks := SameBut.freeCall h.blocks.mono (by decide) i

theorem clearCall_gone {i : Fin 12} {e : Call} {c : CallCause} {addr : Nat} {x : Option Line} {s : State} (he : s.call i = some e) :
    CallGone i s (clearCall i c addr x s) := by
  obtain ⟨hn, -⟩ | ⟨t, -, hr, heq⟩ := clearCall_cases i c addr x s
  · exact absurd (he.symm.trans hn) (by simp)
  · rw [heq]
    exact freeCall_gone hr

theorem clearOwn_gone {i : Fin 12} {e : Call} {c : CallCause} {s : State} (he : s.call i = some e) : CallGone i s (clearOwn i c s) :=
  clearCall_gone he

/-! ## What a report of a call leaves (R130, R141) -/

section
variable {i : Fin 12} {e : Call} {s : State}

theorem sendUpstream_reports (kind : Nat) (i : Fin 12) (s : State) : Reports s (sendUpstream kind i s) := by
  unfold sendUpstream
  split
  · exact sendAdjacent_reports ..
  · exact .refl s

theorem modCall_call (f : Call → Call) (j : Fin 12) : (modCall i f s).call j = if j = i then (s.call i).map f else s.call j := by
  cases h : s.call i with
  | none =>
    rw [modCall_of_none h]
    split
    next hj => rw [hj, h]; rfl
    next => rfl
  | some e =>
    rw [modCall_of_some h]
    split
    next hj => rw [hj, State.call_setCall]; rfl
    next hj => rw [State.call_setCall_of_ne _ _ _ _ hj]

theorem modCall_ctu (f : Call → Call) : (modCall i f s).ctu.recency = s.ctu.recency ∧ SameBut [.ctu] s (modCall i f s) := by
  unfold modCall
  split
  · refine ⟨rfl, fun b hb => ?_⟩
    cases b <;> first | rfl | simp at hb
  · exact ⟨rfl, .refl _ s⟩

/-- R131: the entry is CONNECTED with the stamp in force and newest on the recency list. -/
theorem connectCall_connects (he : s.call i = some e) :
    (connectCall i s).call i = some { e with state := .connected, timer := 0, silence := ⟨0, 0⟩, connected := some s.now }
      ∧ OtherCalls i s (connectCall i s) ∧ (connectCall i s).ctu.recency = s.ctu.recency.filter (fun j => j != i) ++ [i]
      ∧ SameBut [.ctu] s (connectCall i s) := by
  have hcall (t : State) (j : Fin 12) : (touchRecency i t).call j = t.call j := rfl
  have htouch (t : State) : SameBut [.ctu] t (touchRecency i t) := by
    intro b hb
    cases b <;> first | rfl | simp at hb
  unfold connectCall
  refine ⟨?_, fun j hj => ?_, ?_, ?_⟩
  · rw [hcall, modCall_call, if_pos rfl, he]; rfl
  · rw [hcall, modCall_call, if_neg hj]
  · rw [← (modCall_ctu (i := i) (s := s) _).1]; rfl
  · exact (modCall_ctu (i := i) (s := s) _).2.trans (htouch _)

theorem answerCall_reports : Reports (connectCall i s) (answerCall i s) := by
  have hup := sendUpstream_reports kCallConnect i (connectCall i s)
  unfold answerCall
  simp only
  split
  · exact hup.trans (postCallState_reports ..)
  · exact hup

end

/-! ## The commands of the CP (R130, R134) -/

section
variable {i : Fin 12} {e : Call} {tag : Byte} {s : State}

theorem ringing_of (hr : e.role = .destination) (hs : e.state = .ringing) : ringing (some e) = true := by simp [ringing, hr, hs]

theorem doCallAnswer_eq (h : ringing (s.call i) = true) : doCallAnswer .cp tag [byteOf i.val] s
    = respond .cp tag (done []) (answerCall i s) := by
  rw [doCallAnswer, command_cp_sized (n := 1) rfl, callByte]
  simp only [h, if_true]

theorem doCallReject_eq (h : ringing (s.call i) = true) : doCallReject .cp tag [byteOf i.val] s
    = respond .cp tag (done []) (clearOwn i .rejected s) := by
  rw [doCallReject, command_cp_sized (n := 1) rfl, callByte]
  simp only [h, if_true]

theorem doCallClear_eq (he : s.call i = some e) : doCallClear .cp tag [byteOf i.val] s
    = if e.role = .transit then respond .cp tag (refused .denied) s else respond .cp tag (done []) (clearOwn i .cleared s) := by
  rw [doCallClear, command_cp_sized (n := 1) rfl, callByte]
  simp only [he]
  split
  · rfl
  · rfl

end

/-! ## Timers and the cells of a neighbour (R133, R135) -/

section
variable {i : Fin 12} {e : Call} {s : State}

theorem callStateTimeout_due {n : Nat} {c : CallCause} (he : s.call i = some e) (hl : timerLimit e = some (n, c)) (h : n ≤ e.timer + 1) :
    callStateTimeout i s = clearOwn i c s := by
  have hdue : stateTimeoutDue s i = some c := by simp [stateTimeoutDue, he, hl, h]
  simp [callStateTimeout, stateTimerTick, hdue]

theorem callLossTimeout_due {l : Line} (he : s.call i = some e) (hs : e.state = .connected) (hu : e.uses l = true) (h : 39 ≤ e.silence.get l) :
    callLossTimeout i s = clearOwn i .lineLost s := by
  have hcount : Config.callSilenceLimit ≤ e.silence.get l + 1 := Nat.succ_le_succ h
  have hdue : lossDue s i = true := by
    cases l
    · have hline : Config.callSilenceLimit ≤ e.silence.outbye + 1 := hcount
      simp [lossDue, he, hs, hu, hline]
    · have hline : Config.callSilenceLimit ≤ e.silence.inbye + 1 := hcount
      simp [lossDue, he, hs, hu, hline]
  rw [callLossTimeout, if_pos hdue, silenceTick, if_pos hdue]

variable {l : Line} {src : Nat} {p : Bytes}

theorem refOk_of (h0 : byteAt p 0 ≤ 62) (h1 : byteAt p 1 ≤ 11) : refOk p = true := by simp [refOk, h0, h1]

theorem matchFar_of (hf : findRef (byteAt p 0) (byteAt p 1) s = some i) (he : s.call i = some e) (hm : sideMatches e.far l src = true) :
    matchFar l src p s = some i := by
  simp only [matchFar, hf, he, hm, if_true]

theorem matchAny_of (hf : findRef (byteAt p 0) (byteAt p 1) s = some i) (he : s.call i = some e)
    (hm : sideMatches e.up l src = true ∨ sideMatches e.far l src = true) : matchAny l src p s = some i := by
  have hor : (sideMatches e.up l src || sideMatches e.far l src) = true := by simpa using hm
  simp only [matchAny, hf, he, hor, if_true]

/-- R133: a matched CALL_REFUSED frees its entry, whatever its role. -/
theorem callRefused_gone (hq : s.quiet = false) (h : refOk p = true) (hm : matchFar l src p s = some i) (he : s.call i = some e) :
    CallGone i s (callRefused l src p s) := by
  unfold callRefused
  rw [if_neg (by simp [hq, h])]
  simp only [hm, he]
  split
  · exact freeCall_gone (sendAdjacent_reports ..)
  · exact clearCall_gone he

theorem callCleared_gone (hq : s.quiet = false) (h : refOk p = true) (hm : matchAny l src p s = some i) (he : s.call i = some e) :
    CallGone i s (callCleared l src p s) := by
  unfold callCleared
  rw [if_neg (by simp [hq, h])]
  simp only [hm]
  exact clearCall_gone he

end

/-! ## The budget (R124) -/

theorem shed_fewer (c : CallCause) (s : State) : CallsFewer s (shed c s) :=
  CallsFewer.trans (shedLine_fewer c .outbye 12 s) (shedLine_fewer c .inbye 12 _)

theorem doCallBudgetSet_frame {n : Nat} {tag : Byte} {s : State} (hn : n < 256) (hs : CallsKept s) :
    ∃ t d, doCallBudgetSet .cp tag [byteOf n] s = respond .cp tag (done d) t ∧ t.ctu.budgetSet = min 10 n
      ∧ (∀ l : Line, reservations t l ≤ budgetInForce t) ∧ (∀ i, t.call i = s.call i ∨ t.call i = none)
      ∧ SameBut [.cs, .ctu, .pi] s t := by
  have hshed := shed_effect .budget (s.updCtu fun c => { c with budgetSet := min 10 n })
  have hkept : CallsKept (shed .budget (s.updCtu fun c => { c with budgetSet := min 10 n })) :=
    shed_kept (s := s.updCtu fun c => { c with budgetSet := min 10 n }) ⟨hs.recency, hs.once⟩ hs.routine .budget
  have hset : SameBut [.cs, .ctu, .pi] s (s.updCtu fun c => { c with budgetSet := min 10 n }) := by
    intro b hb
    cases b <;> first | rfl | simp at hb
  have hdo : ∃ d, doCallBudgetSet .cp tag [byteOf n] s
      = respond .cp tag (done d) (shed .budget (s.updCtu fun c => { c with budgetSet := min 10 n })) := by
    rw [doCallBudgetSet, command_cp_sized (n := 1) rfl, byteAt_byteOf hn]
    exact ⟨_, rfl⟩
  obtain ⟨d, hd⟩ := hdo
  exact ⟨_, d, hd, hshed.same .budget (by decide), hkept.budget, fun i => (shed_fewer .budget _ i).symm, hset.trans hshed.sameBut⟩

/-- Settles O40: each end of an entry by `CallGone`, the answer by `connectCall_connects`, the budget by `shed_kept`. -/
theorem callsAnsweredAndEnded : Obligations.CallsAnsweredAndEnded := by
  refine ⟨fun i e tag s he => ⟨fun hr hs => ⟨?answer, ?reject⟩, fun hr => ⟨_, .of_eq ((doCallClear_eq he).trans (if_neg hr)), clearOwn_gone he⟩,
    fun hr => .of_eq ((doCallClear_eq he).trans (if_pos hr)), fun n c hl h => ⟨_, .of_eq (callStateTimeout_due he hl h), clearOwn_gone he⟩,
    fun l hs hu h => ⟨_, .of_eq (callLossTimeout_due he hs hu h), clearOwn_gone he⟩, fun l src p hq h0 h1 hf => ⟨fun hm => ?refused, fun hm => ?cleared⟩⟩,
    fun n tag s hn hs => ?budget⟩
  case answer =>
    have hring : ringing (s.call i) = true := by rw [he]; exact ringing_of hr hs
    obtain ⟨hcall, hothers, hrecency, hblocks⟩ := connectCall_connects he
    have hrep := answerCall_reports (i := i) (s := s)
    exact ⟨_, .of_eq (doCallAnswer_eq hring), fun j hj => (hrep.call j).trans (hothers j hj), (hrep.call i).trans hcall,
      by rw [hrep.ctu, hrecency], hblocks.mono.trans hrep.blocks.mono⟩
  case reject =>
    have hring : ringing (s.call i) = true := by rw [he]; exact ringing_of hr hs
    exact ⟨_, .of_eq (doCallReject_eq hring), clearOwn_gone he⟩
  case refused => exact ⟨_, .of_eq rfl, callRefused_gone hq (refOk_of h0 h1) (matchFar_of hf he hm) he⟩
  case cleared => exact ⟨_, .of_eq rfl, callCleared_gone hq (refOk_of h0 h1) (matchAny_of hf he hm) he⟩
  case budget =>
    obtain ⟨t, d, hdo, hrest⟩ := doCallBudgetSet_frame (tag := tag) hn hs
    exact ⟨t, d, .of_eq hdo, hrest⟩

end Sys2Proof.Machine
end

section
/-! PROOFS. Admission, and the signalling of a call across the trunk (7.3, 7.4). -/

namespace Sys2Proof.Machine

-- Declarations are elaborated one after another: in a text of this length the threads of many at once would not fit the memory limit.
set_option Elab.async false

/-! ## Admission (R125) -/

theorem freeEntry_some {i : Fin 12} {s : State} (hfree : s.call i = none) (h : ∀ j : Fin 12, j < i → (s.call j).isSome = true) :
    freeEntry s = some i :=
  find?_first (xs := allCalls) rfl (by decide) (congrArg Option.isNone hfree) fun j hj => by
    rw [← Option.not_isSome, h j hj]; rfl

theorem freeEntry_full {s : State} (h : ∀ j, (s.call j).isSome = true) : freeEntry s = none := by
  rw [freeEntry, List.find?_eq_none]
  intro j _
  rw [← Option.not_isSome, h j]
  simp

section
variable {s : State} {p : Priority} {l : Line} {out inb : Bool}

theorem victimOn_none_chosen : victimOn s p l [] = if reservations s l < budgetInForce s then some []
    else match newestLowest s (candidatesOn s l []) with
      | some i => if callPriority s i < p.code then some [i] else none
      | none => none := by
  have hcount : (allCalls.filter fun i => entryUses s l i && !List.contains [] i).length = reservations s l := by simp [reservations]
  rw [victimOn, hcount]
  rfl

theorem victimOn_of_room (h : reservations s l < budgetInForce s) : victimOn s p l [] = some [] := by
  rw [victimOn_none_chosen, if_pos h]

/-- No call of a full line is below the new one's priority. -/
theorem victimOn_of_full (h : budgetInForce s ≤ reservations s l)
    (hall : ∀ (j : Fin 12) (e : Call), s.call j = some e → e.uses l = true → p.code ≤ e.priority.code) : victimOn s p l [] = none := by
  rw [victimOn_none_chosen, if_neg (Nat.not_lt.mpr h)]
  cases hlow : newestLowest s (candidatesOn s l []) with
  | none => rfl
  | some i =>
    obtain ⟨huses, -⟩ := candidatesOn_uses (newestLowest_mem hlow)
    unfold entryUses at huses
    cases he : s.call i with
    | none => simp [he] at huses
    | some e =>
      have hle := hall i e he (by simpa [he] using huses)
      exact if_neg (by simp only [callPriority, he]; omega)

theorem victims_of_room (hout : out = true → reservations s .outbye < budgetInForce s) (hinb : inb = true → reservations s .inbye < budgetInForce s) :
    victims s p out inb = some [] := by
  have hfirst : (if out then victimOn s p .outbye [] else some []) = some [] := by
    split
    next h => exact victimOn_of_room (hout h)
    next => rfl
  unfold victims
  simp only [hfirst]
  split
  next h => exact victimOn_of_room (hinb h)
  next => rfl

/-- Where no call is below the new one's priority, a full line of those asked for refuses it. -/
theorem victims_of_full (hfull : (out = true ∧ budgetInForce s ≤ reservations s .outbye) ∨ (inb = true ∧ budgetInForce s ≤ reservations s .inbye))
    (hall : ∀ (j : Fin 12) (e : Call) (k : Line), s.call j = some e → e.uses k = true → p.code ≤ e.priority.code) :
    victims s p out inb = none := by
  have hline (k : Line) (h : budgetInForce s ≤ reservations s k) : victimOn s p k [] = none :=
    victimOn_of_full h fun j e he hu => hall j e k he hu
  unfold victims
  obtain ⟨rfl, hout⟩ | ⟨rfl, hinb⟩ := hfull
  · simp only [if_true, hline _ hout]
  · by_cases h : out = true ∧ budgetInForce s ≤ reservations s .outbye
    · simp only [h.1, if_true, hline _ h.2]
    · have hfirst : (if out then victimOn s p .outbye [] else some []) = some [] := by
        split
        next ho => exact victimOn_of_room (Nat.lt_of_not_le fun hle => h ⟨ho, hle⟩)
        next => rfl
      simp only [hfirst, if_true, hline _ hinb]

theorem admitCall_of_room {i : Fin 12} (hv : victims s p out inb = some []) (hf : freeEntry s = some i) : admitCall p out inb s = .inr (s, i) := by
  simp only [admitCall, hv, hf]

theorem admitCall_of_table (hv : victims s p out inb = some []) (hf : freeEntry s = none) : admitCall p out inb s = .inl .noEntry := by
  simp only [admitCall, hv, hf]

theorem admitCall_of_none (hv : victims s p out inb = none) : admitCall p out inb s = .inl .noCells := by simp only [admitCall, hv]

end

/-! ## A CALL_SETUP received (R128) -/

section
variable {l : Line} {src : Nat} {p : Bytes} {s s1 : State} {pr : Priority} {i : Fin 12}

theorem clearRef_of_none {o x : Nat} (h : findRef o x s = none) : clearRef o x s = s := by rw [clearRef, h]

theorem callSetup_eq (hq : s.quiet = false) (h0 : byteAt p 0 ≤ 62) (h1 : byteAt p 1 ≤ 11) (h2 : byteAt p 2 ≤ 11) (h5 : 1 ≤ wordAt p 5)
    (h6 : wordAt p 5 ≤ 999) (hpr : priorityOf (byteAt p 4) = some pr) (hf : findRef (byteAt p 0) (byteAt p 1) s = none) :
    callSetup l src p s = handleSetup l src p pr s := by
  have hbad : (s.quiet || !refOk p || decide (11 < byteAt p 2) || decide (wordAt p 5 = 0) || decide (999 < wordAt p 5)) = false := by
    have hzero : wordAt p 5 ≠ 0 := by omega
    simp [hq, refOk_of h0 h1, h2, h6, hzero]
  rw [callSetup, hbad]
  simp only [Bool.false_eq_true, if_false, hpr, clearRef_of_none hf]

/-- R128 steps 2 to 4: what bars a setup whatever the room. -/
def setupStray (l : Line) (p : Bytes) (s : State) : Prop :=
  s.tb.trunk = .listen ∨ s.tb.trunk = .join ∨ 62 < byteAt p 3 ∨ (byteAt p 3 ≠ s.tb.address ∧ onwardLine (byteAt p 3) s = l)

theorem handleSetup_stray (h : setupStray l p s) : handleSetup l src p pr s = refuseSetup l p .noRoute s := by
  refine if_pos ?_
  simpa [setupStray, or_assoc] using h

/-- R128: what a setup must meet before admission is tried. -/
structure SetupPasses (l : Line) (p : Bytes) (pr : Priority) (s : State) : Prop where
  way : ¬ setupStray l p s
  level : pr = .routine → s.ctu.level ≠ .evacuate
  supply : s.ctu.supplyMode = .reserve → pr = .emergency

/-- Whether a setup asks for a line, by its line of arrival and the line onward. -/
def setupAsks (l : Line) (p : Bytes) (s : State) (k : Line) : Bool :=
  l = k || (!(byteAt p 3 == s.tb.address) && onwardLine (byteAt p 3) s = k)

/-- The side of a setup's entry toward the node it came from. -/
def setupUp (l : Line) (src : Nat) (p : Bytes) : CallSide := { line := l, addr := some src, index := some (byteAt p 2) }

/-- The callee a setup names, if any. -/
def setupCallee (p : Bytes) : Option Nat := if wordAt p 7 = 0 then none else some (wordAt p 7)

/-- The DESTINATION entry of a setup. -/
def destinationCall (l : Line) (src : Nat) (p : Bytes) (pr : Priority) : Call :=
  newCall .ringing .destination (byteAt p 0) (byteAt p 1) pr (some (setupUp l src p)) none (byteAt p 0) (wordAt p 5) (setupCallee p)

/-- The TRANSIT entry of a setup that goes on toward `k`. -/
def transitCall (l k : Line) (src : Nat) (p : Bytes) (pr : Priority) (s : State) : Call :=
  newCall .requested .transit (byteAt p 0) (byteAt p 1) pr (some (setupUp l src p))
    (some { line := k, addr := neighbourOf s k, index := none }) (byteAt p 3) (wordAt p 5) (setupCallee p)

section
variable (h : SetupPasses l p pr s)
include h

theorem handleSetup_refused {c : RefusalCause}
    (ha : admitCall pr (setupAsks l p s .outbye) (setupAsks l p s .inbye) s = .inl c) :
    handleSetup l src p pr s = refuseSetup l p (admissionCause c) s := by
  obtain ⟨hway, hlevel, hsupply⟩ := h
  unfold setupAsks at ha
  unfold handleSetup
  simp only
  rw [if_neg (by simpa [setupStray, or_assoc] using hway), if_neg (by simpa using hlevel), if_neg (by simpa using hsupply), ha]

theorem handleSetup_destination (hdest : byteAt p 3 = s.tb.address)
    (ha : admitCall pr (setupAsks l p s .outbye) (setupAsks l p s .inbye) s = .inr (s1, i)) :
    handleSetup l src p pr s = sendAdjacent l kCallAlerting (u8 (byteAt p 0) ++ u8 (byteAt p 1) ++ u8 i.val)
      (postCallIncoming i (destinationCall l src p pr) (makeCall i (destinationCall l src p pr) s1)) := by
  obtain ⟨hway, hlevel, hsupply⟩ := h
  unfold setupAsks at ha
  unfold handleSetup
  simp only
  rw [if_neg (by simpa [setupStray, or_assoc] using hway), if_neg (by simpa using hlevel), if_neg (by simpa using hsupply), ha]
  exact if_pos (beq_iff_eq.mpr hdest)

theorem handleSetup_transit {k : Line} (hdest : byteAt p 3 ≠ s.tb.address) (hk : onwardLine (byteAt p 3) s = k)
    (ha : admitCall pr (setupAsks l p s .outbye) (setupAsks l p s .inbye) s = .inr (s1, i)) :
    handleSetup l src p pr s = sendAdjacent k kCallSetup
      (setupPayload (byteAt p 0) (byteAt p 1) i.val (byteAt p 3) pr (wordAt p 5) (setupCallee p)) (makeCall i (transitCall l k src p pr s1) s1) := by
  obtain ⟨hway, hlevel, hsupply⟩ := h
  unfold setupAsks at ha
  unfold handleSetup
  simp only
  rw [if_neg (by simpa [setupStray, or_assoc] using hway), if_neg (by simpa using hlevel), if_neg (by simpa using hsupply), ha, ← hk]
  exact if_neg (by simpa using hdest)

end

/-- A new entry after reports: in its place, newest on the recency list, and nothing else. -/
theorem makeCall_reports {e : Call} {t : State} (h : Reports (makeCall i e s) t) : t.call i = some e ∧ OtherCalls i s t
    ∧ t.ctu.recency = s.ctu.recency.filter (fun j => j != i) ++ [i] ∧ SameBut [.cs, .ctu, .pi] s t := by
  have hset : SameBut [.cs, .ctu, .pi] s (makeCall i e s) := by
    intro b hb
    cases b <;> first | rfl | simp at hb
  refine ⟨?_, fun j hj => ?_, ?_, hset.trans h.blocks.mono⟩
  · rw [h.call, makeCall_call, if_pos rfl]
  · rw [h.call, makeCall_call, if_neg hj]
  · rw [h.ctu, makeCall_recency]

theorem postCallIncoming_reports (i : Fin 12) (e : Call) (s : State) : Reports s (postCallIncoming i e s) := post_reports ..

end

/-! ## CALL_ALERTING and CALL_CONNECT at an ORIGIN (R129, R131) -/

section
variable {l : Line} {src : Nat} {p : Bytes} {s : State} {i : Fin 12} {e : Call}

/-- What a matched cell at the far side of an ORIGIN in REQUESTED finds. -/
structure FarMatched (l : Line) (src : Nat) (p : Bytes) (i : Fin 12) (e : Call) (s : State) : Prop where
  runs : s.quiet = false
  ok : refOk p = true
  index : byteAt p 2 ≤ 11
  found : matchFar l src p s = some i
  entry : s.call i = some e
  role : e.role = .origin

/-- The entry with the neighbour's index recorded. -/
def farIndexed (idx : Nat) (e : Call) : Call := { e with far := e.far.map fun f => { f with index := some idx } }

theorem setFarIndex_eq (idx : Nat) (he : s.call i = some e) : setFarIndex i idx s = s.setCall i (some (farIndexed idx e)) := modCall_of_some he

theorem FarMatched.passes (h : FarMatched l src p i e s) : ¬ (s.quiet || !refOk p || decide (11 < byteAt p 2)) = true := by
  have hle := Nat.not_lt.mpr h.index
  simp [h.runs, h.ok, hle]

theorem callAlerting_origin (h : FarMatched l src p i e s) (hs : e.state = .requested) : callAlerting l src p s
    = postCallState i (farIndexed (byteAt p 2) e) CallState.ringing.code CallState.requested.code
        ((s.setCall i (some (farIndexed (byteAt p 2) e))).setCall i (some { farIndexed (byteAt p 2) e with state := .ringing, timer := 0 })) := by
  have hcall : (s.setCall i (some (farIndexed (byteAt p 2) e))).call i = some (farIndexed (byteAt p 2) e) := State.call_setCall ..
  have hreq : (farIndexed (byteAt p 2) e).state = .requested := hs
  have hrole : (farIndexed (byteAt p 2) e).role = .origin := h.role
  rw [callAlerting, if_neg h.passes]
  simp only [h.found, setFarIndex_eq _ h.entry, hcall, hreq, if_true, hrole, modCall_of_some hcall]

theorem callConnect_origin (h : FarMatched l src p i e s) (hs : e.state ≠ .connected) : callConnect l src p s
    = postCallState i (farIndexed (byteAt p 2) e) CallState.connected.code e.state.code
        (connectCall i (s.setCall i (some (farIndexed (byteAt p 2) e)))) := by
  have hcall : (s.setCall i (some (farIndexed (byteAt p 2) e))).call i = some (farIndexed (byteAt p 2) e) := State.call_setCall ..
  have hne : (farIndexed (byteAt p 2) e).state ≠ .connected := hs
  have hrole : (farIndexed (byteAt p 2) e).role = .origin := h.role
  rw [callConnect, if_neg h.passes]
  simp only [h.found, setFarIndex_eq _ h.entry, hcall, hne, if_false, hrole]
  rfl

theorem setCall_frame (i : Fin 12) (x : Option Call) (s : State) : OtherCalls i s (s.setCall i x) ∧ SameBut [.ctu] s (s.setCall i x) := by
  refine ⟨fun j hj => State.call_setCall_of_ne _ _ _ _ hj, fun b hb => ?_⟩
  cases b <;> first | rfl | simp at hb

theorem postCallState_blocks (i : Fin 12) (e : Call) (new before : Nat) (s : State) : SameBut [.pi] s (postCallState i e new before s) := by
  unfold postCallState
  split
  · exact .refl _ s
  · intro b hb
    cases b <;> first | rfl | simp at hb

theorem OtherCalls.trans {s t u : State} (h : OtherCalls i s t) (k : OtherCalls i t u) : OtherCalls i s u := fun j hj => (k j hj).trans (h j hj)

theorem Reports.otherCalls {t : State} (h : Reports s t) : OtherCalls i s t := fun j _ => h.call j

end

/-! ## CALL_SETUP, CALL_ALERTING and CALL_CONNECT together -/

section
variable {l : Line} {p : Bytes} {s : State}

theorem setupAsks_own (h : byteAt p 3 = s.tb.address) (k : Line) : setupAsks l p s k = decide (l = k) := by simp [setupAsks, h]

theorem setupAsks_onward (h : byteAt p 3 ≠ s.tb.address) (hw : onwardLine (byteAt p 3) s = l.other) (k : Line) : setupAsks l p s k = true := by
  cases l <;> cases k <;> simp [setupAsks, h, hw, Line.other]

theorem setupCallee_getD (p : Bytes) : (setupCallee p).getD 0 = wordAt p 7 := by
  unfold setupCallee
  split
  next h => exact h.symm
  next => rfl

end

/-- Settles O39: a setup by where it goes and the room it finds, and what the two answers make of an ORIGIN. -/
theorem callSignalling : Obligations.CallSignalling := by
  refine ⟨fun l src p s i pr hq hnl hnj h0 h1 h2 h5 h6 hpr hdest haddr hf hroutine hsupply hroom hfree hlow => ?destination,
    fun l src p s pr hq h0 h1 h2 h5 h6 hpr hf => ⟨fun hstray => ?stray, fun hnl hnj h62 hdest hway hroutine hsupply => ⟨fun hfull hall => ?full,
      fun i hroom hfree hlow => ?transit⟩⟩,
    fun l src p s i e x hq h0 h1 h2 hf he hr hs hfar => ?origin⟩
  case destination =>
    have hpasses : SetupPasses l p pr s := ⟨fun h => by
      obtain h | h | h | ⟨h, -⟩ := h
      exacts [hnl h, hnj h, by omega, h hdest], hroutine, hsupply⟩
    have hv : victims s pr (setupAsks l p s .outbye) (setupAsks l p s .inbye) = some [] := by
      refine victims_of_room (fun h => ?_) fun h => ?_ <;> rw [setupAsks_own hdest] at h <;> obtain rfl := of_decide_eq_true h <;> exact hroom
    have hsetup := (callSetup_eq (l := l) (src := src) hq h0 h1 h2 h5 h6 hpr hf).trans
      (handleSetup_destination hpasses hdest (admitCall_of_room hv (freeEntry_some hfree hlow)))
    exact ⟨_, .of_eq hsetup, makeCall_reports ((postCallIncoming_reports ..).trans (sendAdjacent_reports ..))⟩
  case stray => exact .of_eq ((callSetup_eq hq h0 h1 h2 h5 h6 hpr hf).trans (handleSetup_stray hstray))
  case full =>
    have hpasses : SetupPasses l p pr s := ⟨fun h => by
      obtain h | h | h | ⟨-, h⟩ := h
      exacts [hnl h, hnj h, by omega, by rw [hway] at h; cases l <;> cases h], hroutine, hsupply⟩
    obtain ⟨k, hk⟩ := hfull
    have hv : victims s pr (setupAsks l p s .outbye) (setupAsks l p s .inbye) = none := by
      refine victims_of_full ?_ fun j e _ he _ => hall j e he
      rw [setupAsks_onward hdest hway, setupAsks_onward hdest hway]
      cases k
      exacts [.inl ⟨rfl, hk⟩, .inr ⟨rfl, hk⟩]
    exact .of_eq ((callSetup_eq hq h0 h1 h2 h5 h6 hpr hf).trans (handleSetup_refused hpasses (admitCall_of_none hv)))
  case transit =>
    have hpasses : SetupPasses l p pr s := ⟨fun h => by
      obtain h | h | h | ⟨-, h⟩ := h
      exacts [hnl h, hnj h, by omega, by rw [hway] at h; cases l <;> cases h], hroutine, hsupply⟩
    have hsetup := (callSetup_eq (l := l) (src := src) hq h0 h1 h2 h5 h6 hpr hf).trans (handleSetup_transit hpasses hdest hway
      (admitCall_of_room (victims_of_room (fun _ => hroom _) fun _ => hroom _) (freeEntry_some hfree hlow)))
    obtain ⟨hcall, hothers, hrecency, hblocks⟩ := makeCall_reports (sendAdjacent_reports ..)
    refine ⟨_, .of_eq hsetup, hcall, hothers, hrecency, hblocks, fun hrole hstaging hspace => ?_⟩
    have hsend := sendAdjacent_signal (l := l.other) (kind := kCallSetup) (s := makeCall i (transitCall l l.other src p pr s) s)
      (payload := setupPayload (byteAt p 0) (byteAt p 1) i.val (byteAt p 3) pr (wordAt p 5) (setupCallee p)) (fun hhead => absurd (hrole.symm.trans hhead) (by simp)) hstaging rfl hspace
    rw [hsend, updQueues_get]
    refine ⟨_, rfl, rfl, rfl, ?_⟩
    show setupPayload _ _ _ _ _ _ _ = _
    rw [setupPayload, setupCallee_getD]
    rfl
  case origin =>
    have hm : FarMatched l src p i e s := ⟨hq, refOk_of h0 h1, h2, matchFar_of hf he (by simp [hfar, sideMatches]), he, hr⟩
    have hindexed : farIndexed (byteAt p 2) e = { e with far := some { line := l, addr := some src, index := some (byteAt p 2) } } := by
      simp [farIndexed, hfar]
    obtain ⟨hothers, hblocks⟩ := setCall_frame i (some (farIndexed (byteAt p 2) e)) s
    refine ⟨⟨_, .of_eq (callAlerting_origin hm hs), ?_, ?_, ?_⟩, ?_⟩
    · exact (hothers.trans (setCall_frame ..).1).trans (postCallState_reports ..).otherCalls
    · exact (hblocks.mono.trans (setCall_frame ..).2.mono).trans (SameBut.mono (postCallState_blocks _ _ _ _ _))
    · rw [(postCallState_reports ..).call, State.call_setCall, hindexed]
    · obtain ⟨hcall, hconn, hrecency, hctu⟩ := connectCall_connects
        (State.call_setCall s i (some (farIndexed (byteAt p 2) e)))
      have hrep := postCallState_reports i (farIndexed (byteAt p 2) e) CallState.connected.code e.state.code
        (connectCall i (s.setCall i (some (farIndexed (byteAt p 2) e))))
      refine ⟨_, .of_eq (callConnect_origin hm (by rw [hs]; simp)), (hothers.trans hconn).trans hrep.otherCalls,
        (hblocks.mono.trans hctu.mono).trans (SameBut.mono (postCallState_blocks _ _ _ _ _)), ?_, ?_⟩
      · rw [hrep.ctu, hrecency]; rfl
      · rw [hrep.call, hcall, hindexed]; rfl

end Sys2Proof.Machine
end

section
/-! PROOFS. CALL_OPEN: room, pre-emption and the two refusals (7.3, 7.4). -/

namespace Sys2Proof.Machine

-- Declarations are elaborated one after another: in a text of this length the threads of many at once would not fit the memory limit.
set_option Elab.async false

/-! ## The entry made (R121, R126) -/

theorem Effect.neighbour {ps : List Part} {out : List Law} {s t : State} (h : Effect ps out s t) (l : Line)
    (hp : Part.line ∉ ps := by decide) : neighbourOf t l = neighbourOf s l := by
  have hplain := h.same .line hp
  cases l
  · exact congrArg (fun x => LineStatus.neighbour x.1) hplain
  · exact congrArg (fun x => LineStatus.neighbour x.2) hplain

theorem findRef_congr {s t : State} (h : ∀ j, t.call j = s.call j) (o x : Nat) : findRef o x t = findRef o x s := by
  simp only [findRef, h]

theorem staysBeside_congr {s t : State} {i : Fin 12} (h : ∀ j, t.call j = s.call j) (ha : t.tb.address = s.tb.address) :
    staysBeside i t = staysBeside i s := by
  funext j
  rw [staysBeside, staysBeside, findRef_congr h, ha]

/-- What a new entry under a reference leaves of the others. -/
structure RefCleared (o x : Nat) (s t : State) : Prop where
  calls : ∀ j, t.call j = if findRef o x s = some j then none else s.call j
  recency : t.ctu.recency = s.ctu.recency.filter fun j => findRef o x s != some j
  effect : Effect calling [] s t

theorem clearOwn_recency {k : Fin 12} {e : Call} {c : CallCause} {s : State} (he : s.call k = some e) :
    (clearOwn k c s).ctu.recency = s.ctu.recency.filter fun j => j != k := by
  obtain ⟨hn, -⟩ | ⟨t, -, hr, heq⟩ := clearCall_cases k c s.tb.address none s
  · exact absurd (he.symm.trans hn) (by simp)
  · rw [clearOwn, heq, freeCall_recency, hr.ctu]

theorem clearRef_cleared (o x : Nat) (s : State) : RefCleared o x s (clearRef o x s) := by
  have heff := clearRef_effect o x s
  cases hf : findRef o x s with
  | none =>
    rw [clearRef_of_none hf] at heff ⊢
    exact ⟨fun j => by rw [hf, if_neg (by simp)], by rw [hf]; exact (List.filter_eq_self.mpr fun j _ => rfl).symm, heff⟩
  | some k =>
    obtain ⟨e, he, -⟩ := call_of_findRef hf
    have hclear : clearRef o x s = clearOwn k .stale s := by rw [clearRef, hf]
    rw [hclear] at heff ⊢
    refine ⟨fun j => ?_, ?_, heff⟩
    · rw [clearOwn_call, hf]
      by_cases hj : j = k
      · rw [if_pos hj, if_pos (hj ▸ rfl)]
      · rw [if_neg hj, if_neg fun h => hj (Option.some.inj h).symm]
    · rw [clearOwn_recency he, hf]
      refine List.filter_congr fun j _ => ?_
      by_cases hj : j = k
      · subst hj; simp
      · rw [bne_iff_ne.mpr hj, bne_iff_ne.mpr fun h => hj (Option.some.inj h).symm]

section
variable {i : Fin 12} {pr : Priority} {l : Line} {caller dest : Nat} {callee : Option Nat} {s : State}

/-- The ORIGIN entry of a CALL_OPEN. -/
def originCall (i : Fin 12) (pr : Priority) (l : Line) (caller dest : Nat) (callee : Option Nat) (s : State) : Call :=
  newCall .requested .origin s.tb.address i.val pr none (some { line := l, addr := neighbourOf s l, index := none }) dest caller callee

theorem openEntry_eq : openEntry i pr l caller dest callee s =
    postCallState i (originCall i pr l caller dest callee s) CallState.requested.code 0
      (sendAdjacent l kCallSetup (setupPayload s.tb.address i.val i.val dest pr caller callee)
        (makeCall i (originCall i pr l caller dest callee s) (clearRef s.tb.address i.val s))) := rfl

/-- R121, R126: the new entry, what stays beside it, and its place on the recency list. -/
theorem openEntry_frame (i : Fin 12) (pr : Priority) (l : Line) (caller dest : Nat) (callee : Option Nat) (s : State) :
    (openEntry i pr l caller dest callee s).call i = some (originCall i pr l caller dest callee s)
      ∧ (∀ j, j ≠ i → (openEntry i pr l caller dest callee s).call j = if staysBeside i s j = true then s.call j else none)
      ∧ (openEntry i pr l caller dest callee s).ctu.recency = s.ctu.recency.filter (staysBeside i s) ++ [i]
      ∧ SameBut [.cs, .ctu, .pi] s (openEntry i pr l caller dest callee s) := by
  obtain ⟨hcalls, hrecency, heff⟩ := clearRef_cleared s.tb.address i.val s
  obtain ⟨hcall, hothers, hnew, hblocks⟩ := makeCall_reports (i := i) (e := originCall i pr l caller dest callee s)
    (s := clearRef s.tb.address i.val s) (t := openEntry i pr l caller dest callee s)
    (by rw [openEntry_eq]; exact (sendAdjacent_reports ..).trans (postCallState_reports ..))
  refine ⟨hcall, fun j hj => ?_, ?_, heff.sameBut.trans hblocks⟩
  · rw [hothers j hj, hcalls]
    by_cases h : findRef s.tb.address i.val s = some j
    · rw [if_pos h, if_neg (by simp [staysBeside, h])]
    · rw [if_neg h, if_pos (by simp [staysBeside, h, hj])]
  · rw [hnew, hrecency, List.filter_filter]
    rfl

end

/-! ## The CALL_SETUP, and the CALL_CLEAR of an older entry under the reference (R23, R121) -/

section
variable {i : Fin 12} {pr : Priority} {l : Line} {caller dest : Nat} {callee : Option Nat} {s : State}

theorem postCallState_cs (i : Fin 12) (e : Call) (new before : Nat) (s : State) : (postCallState i e new before s).cs = s.cs :=
  postCallState_blocks i e new before s .cs (by decide)

/-- Where outgoing cells are not staged, the SIGNAL queue of a line takes `more` at its tail. -/
structure SignalAdds (l : Line) (more : List Cell) (s t : State) : Prop where
  staging : t.cs.staging = none
  queue : (t.cs.queues.get l).signal = (s.cs.queues.get l).signal ++ more

theorem SignalAdds.refl (h : s.cs.staging = none) : SignalAdds l [] s s := ⟨h, (List.append_nil _).symm⟩

theorem SignalAdds.trans {t u : State} {a b : List Cell} (h : SignalAdds l a s t) (k : SignalAdds l b t u) : SignalAdds l (a ++ b) s u :=
  ⟨k.staging, by rw [k.queue, h.queue, List.append_assoc]⟩

theorem SignalAdds.congr {t u : State} {a : List Cell} (h : SignalAdds l a s t) (hcs : u.cs = t.cs) : SignalAdds l a s u :=
  ⟨by rw [hcs, h.staging], by rw [hcs, h.queue]⟩

theorem sendAdjacent_adds {kind : Nat} {p : Bytes} (hhead : s.tb.role = .head → l = .inbye) (hstaging : s.cs.staging = none)
    (hc : (buildCell kind 63 p s).classOf = .signal) (hroom : (s.cs.queues.get l).signal.length < 16) :
    SignalAdds l [buildCell kind 63 p s] s (sendAdjacent l kind p s) := by
  rw [sendAdjacent_signal hhead hstaging hc hroom]
  exact ⟨hstaging, by rw [updQueues_get]⟩

/-- At a junction a cell for the other line is not seen on this one. -/
theorem sendAdjacent_elsewhere {k : Line} {kind : Nat} {p : Bytes} (hrole : s.tb.role ≠ .head) (hk : k = l.other) (hstaging : s.cs.staging = none)
    (hc : (buildCell kind 63 p s).classOf = .signal) : SignalAdds l [] s (sendAdjacent k kind p s) := by
  have hplace : placeCell k (buildCell kind 63 p s) s = joinQueue k (buildCell kind 63 p s) s := by
    rw [placeCell, hstaging]
    exact joinLocal_signal hc
  have hother := joinQueue_other l.other (buildCell kind 63 p s) s
  have hll : l.other.other = l := by cases l <;> rfl
  rw [hll] at hother
  rw [sendAdjacent, adjacentLine k fun h => (hrole h).elim, hplace, hk]
  exact ⟨(joinQueue_staging ..).trans hstaging, by rw [hother, List.append_nil]⟩

variable {e : Call} {c : CallCause} {addr : Nat}

/-- The CALL_CLEAR of an entry (R132). -/
def clearCell (e : Call) (c : CallCause) (addr : Nat) (s : State) : Cell :=
  buildCell kCallClear 63 (u8 e.origin ++ u8 e.originIdx ++ u8 c.code ++ u8 addr) s

theorem sendClear_here (hhead : s.tb.role = .head → l = .inbye) (hstaging : s.cs.staging = none)
    (hroom : (s.cs.queues.get l).signal.length < 16) :
    SignalAdds l (if e.uses l = true then [clearCell e c addr s] else []) s (sendClear e c addr l s) := by
  unfold sendClear
  split
  · exact sendAdjacent_adds hhead hstaging rfl hroom
  · exact .refl hstaging

theorem sendClear_elsewhere (hhead : s.tb.role = .head → e.uses l.other = false) (hstaging : s.cs.staging = none) :
    SignalAdds l [] s (sendClear e c addr l.other s) := by
  unfold sendClear
  split
  next huse => exact sendAdjacent_elsewhere (fun h => by rw [hhead h] at huse; cases huse) rfl hstaging rfl
  next => exact .refl hstaging

theorem sendClear_tb (k : Line) : (sendClear e c addr k s).tb = s.tb := (sendClear_reports ..).tb

/-- R132: the CALL_CLEARs of an entry cleared, on one line of the node. -/
theorem clearOwn_adds {k : Fin 12} (he : s.call k = some e) (hhead : s.tb.role = .head → l = .inbye ∧ e.uses .outbye = false)
    (hstaging : s.cs.staging = none) (hroom : (s.cs.queues.get l).signal.length < 16) :
    SignalAdds l (if e.uses l = true then [clearCell e c s.tb.address s] else []) s (clearOwn k c s) := by
  have hlines : SignalAdds l (if e.uses l = true then [clearCell e c s.tb.address s] else []) s
      (sendClear e c s.tb.address .inbye (sendClear e c s.tb.address .outbye s)) := by
    cases l with
    | outbye =>
      have hfirst := sendClear_here (e := e) (c := c) (addr := s.tb.address) (fun h => (hhead h).1) hstaging hroom
      rw [← List.append_nil (if e.uses .outbye = true then _ else _)]
      exact hfirst.trans (sendClear_elsewhere (fun h => by
        rw [sendClear_tb] at h
        cases (hhead h).1) hfirst.staging)
    | inbye =>
      have hfirst : SignalAdds .inbye [] s (sendClear e c s.tb.address .outbye s) :=
        sendClear_elsewhere (l := .inbye) (fun h => (hhead h).2) hstaging
      have hroom' : ((sendClear e c s.tb.address .outbye s).cs.queues.get .inbye).signal.length < 16 := by
        rw [hfirst.queue, List.append_nil]; exact hroom
      have hsecond := sendClear_here (e := e) (c := c) (addr := s.tb.address) (l := .inbye) (fun _ => rfl) hfirst.staging hroom'
      have hcell : clearCell e c s.tb.address (sendClear e c s.tb.address .outbye s) = clearCell e c s.tb.address s := by
        simp only [clearCell, buildCell, sendClear_tb]
      rw [hcell] at hsecond
      exact hfirst.trans hsecond
  have hclear : (clearOwn k c s).cs = (sendClear e c s.tb.address .inbye (sendClear e c s.tb.address .outbye s)).cs := by
    simp only [clearOwn, clearCall, he]
    exact postCallState_cs ..
  exact hlines.congr hclear

theorem openEntry_adds {more : List Cell} (hhead : s.tb.role = .head → l = .inbye)
    (hadds : SignalAdds l more s (clearRef s.tb.address i.val s)) (hroom : ((s.cs.queues.get l).signal ++ more).length < 16) :
    ∃ d : Cell, ((openEntry i pr l caller dest callee s).cs.queues.get l).signal = (s.cs.queues.get l).signal ++ more ++ [d]
      ∧ d.kind = 16 ∧ d.dst = 63 := by
  have htb : (clearRef s.tb.address i.val s).tb = s.tb := (clearRef_effect ..).block .tb
  have hsetup := sendAdjacent_adds (l := l) (kind := kCallSetup) (p := setupPayload s.tb.address i.val i.val dest pr caller callee)
    (s := makeCall i (originCall i pr l caller dest callee s) (clearRef s.tb.address i.val s))
    (fun h => hhead (htb ▸ h)) hadds.staging rfl (hadds.queue ▸ hroom)
  rw [openEntry_eq, postCallState_cs, hsetup.queue]
  exact ⟨_, congrArg (· ++ _) hadds.queue, rfl, rfl⟩

end

/-! ## Pre-emption (R125) -/

section
variable {s : State} {pr : Priority} {l : Line} {j : Fin 12} {v : Call} {a b : List (Fin 12)}

theorem callPriority_of {e : Call} {k : Fin 12} (he : s.call k = some e) : callPriority s k = e.priority.code := by simp [callPriority, he]

theorem entryUses_of {e : Call} {k : Fin 12} (he : s.call k = some e) : entryUses s l k = e.uses l := by simp [entryUses, he]

theorem entryUses_some {k : Fin 12} (h : entryUses s l k = true) : ∃ e, s.call k = some e ∧ e.uses l = true := by
  cases he : s.call k with
  | none => simp [entryUses, he] at h
  | some e => exact ⟨e, rfl, by rwa [entryUses_of he] at h⟩

/-- The newest call of the lowest priority on a line, found from the recency list. -/
structure NewestLowest (l : Line) (a : List (Fin 12)) (j : Fin 12) (b : List (Fin 12)) (v : Call) (s : State) : Prop where
  recency : s.ctu.recency = a ++ j :: b
  entry : s.call j = some v
  uses : v.uses l = true
  lowest : ∀ (k : Fin 12) (e : Call), s.call k = some e → e.uses l = true → v.priority.code ≤ e.priority.code
  newest : ∀ (k : Fin 12) (e : Call), k ∈ b → s.call k = some e → e.uses l = true → e.priority ≠ v.priority

theorem Priority.code_inj {p q : Priority} (h : p.code = q.code) : p = q := by cases p <;> cases q <;> first | rfl | cases h

theorem newestLowest_of (h : NewestLowest l a j b v s) : newestLowest s (candidatesOn s l []) = some j := by
  have hj : j ∈ candidatesOn s l [] := by
    simp [candidatesOn, h.recency, entryUses_of h.entry, h.uses]
  have hall : ∀ k ∈ candidatesOn s l [], v.priority.code ≤ callPriority s k := by
    intro k hk
    obtain ⟨e, he, hu⟩ := entryUses_some (candidatesOn_uses hk).1
    rw [callPriority_of he]
    exact h.lowest k e he hu
  have hlow : (candidatesOn s l []).foldl (fun m i => min m (callPriority s i)) 3 = v.priority.code := by
    obtain ⟨-, hle⟩ := foldl_min_le s (candidatesOn s l []) 3
    have hj3 := callPriority_le s j
    have hjle := hle j hj
    rw [callPriority_of h.entry] at hj3 hjle
    obtain hmem | ⟨k, hk, hmem⟩ := foldl_min_mem s (candidatesOn s l []) 3
    · omega
    · have hkle := hall k hk
      omega
  unfold newestLowest
  simp only [hlow]
  rw [candidatesOn, h.recency, List.find?_filter, List.reverse_append, List.reverse_cons, List.append_assoc, List.find?_append]
  have hnone : b.reverse.find? (fun k => decide ((entryUses s l k && !List.contains [] k) = true ∧ (callPriority s k == v.priority.code) = true))
      = none := by
    rw [List.find?_eq_none]
    intro k hk hq
    simp only [Bool.and_eq_true, beq_iff_eq, decide_eq_true_eq] at hq
    obtain ⟨⟨hu, -⟩, hp⟩ := hq
    obtain ⟨e, he, hue⟩ := entryUses_some hu
    rw [callPriority_of he] at hp
    exact h.newest k e (List.mem_reverse.mp hk) he hue (Priority.code_inj hp)
  rw [hnone]
  simp [entryUses_of h.entry, h.uses, callPriority_of h.entry]

theorem victimOn_newest (h : NewestLowest l a j b v s) (hfull : budgetInForce s ≤ reservations s l) (hbelow : v.priority.code < pr.code) :
    victimOn s pr l [] = some [j] := by
  rw [victimOn_none_chosen, if_neg (Nat.not_lt.mpr hfull), newestLowest_of h]
  exact if_pos (by rw [callPriority_of h.entry]; exact hbelow)

/-- The line a CALL_OPEN asks for is the only one. -/
theorem victims_one (pr : Priority) (l : Line) (s : State) : victims s pr (l = .outbye) (l = .inbye) = victimOn s pr l [] := by
  cases l with
  | outbye =>
    simp only [victims, decide_true, if_true]
    cases victimOn s pr .outbye [] <;> rfl
  | inbye => rfl

theorem admitCall_preempts {i : Fin 12} (hv : victims s pr (l = .outbye) (l = .inbye) = some [j])
    (hf : freeEntry (clearOwn j .preempted s) = some i) :
    admitCall pr (l = .outbye) (l = .inbye) s = .inr (clearOwn j .preempted s, i) := by
  have hone : forEach [j] (fun i t => clearOwn i .preempted t) s = clearOwn j .preempted s := rfl
  simp only [admitCall, hv, hone, hf]

end

/-! ## The command (R126) -/

section
variable {p : Bytes} {s s1 : State} {pr q : Priority} {tag : Byte} {i : Fin 12} {l : Line}

/-- R126: what a CALL_OPEN must meet before admission is tried, its priority and its line. -/
structure OpenPasses (p : Bytes) (pr : Priority) (l : Line) (s : State) : Prop where
  length : p.length = 6
  priority : ∃ q, priorityOf (byteAt p 5) = some q ∧ pr = if 990 ≤ wordAt p 0 then .emergency else q
  caller : 1 ≤ wordAt p 0 ∧ wordAt p 0 ≤ 999
  callee : wordAt p 3 ≤ 999
  dest : byteAt p 2 ≤ 62 ∧ byteAt p 2 ≠ s.tb.address
  line : l = onwardLine (byteAt p 2) s
  trunk : (s.tb.trunk ≠ .setup ∧ s.tb.trunk ≠ .halted) ∧ s.tb.trunk ≠ .listen ∧ s.tb.trunk ≠ .join
  level : pr = .routine → s.ctu.level ≠ .evacuate
  supply : s.ctu.supplyMode = .reserve → pr = .emergency

/-- The callee a CALL_OPEN names, if any. -/
def openCallee (p : Bytes) : Option Nat := if wordAt p 3 = 0 then none else some (wordAt p 3)

theorem OpenPasses.notBarred (h : OpenPasses p pr l s) : openBarred pr s = false := by
  obtain ⟨⟨hsetup, hhalted⟩, hlisten, hjoin⟩ := h.trunk
  have hlevel : ¬(pr = .routine ∧ s.ctu.level = .evacuate) := fun ⟨h1, h2⟩ => h.level h1 h2
  have hsupply : ¬(s.ctu.supplyMode = .reserve ∧ pr ≠ .emergency) := fun ⟨h1, h2⟩ => h2 (h.supply h1)
  simp only [openBarred, hsetup, hhalted, hlisten, hjoin]
  simpa using ⟨fun h1 h2 => hlevel ⟨h1, h2⟩, fun h1 => Classical.not_not.mp fun h2 => hsupply ⟨h1, h2⟩⟩

theorem OpenPasses.goodParams (h : OpenPasses p pr l s) : (!handsetOk (wordAt p 0) || (wordAt p 3 != 0 && !handsetOk (wordAt p 3))
    || decide (62 < byteAt p 2) || decide (byteAt p 2 = s.tb.address)) = false := by
  obtain ⟨h1, h2⟩ := h.caller
  obtain ⟨h3, h4⟩ := h.dest
  have hcaller : handsetOk (wordAt p 0) = true := by simp [handsetOk, h1, h2]
  have hcallee : (wordAt p 3 != 0 && !handsetOk (wordAt p 3)) = false := by
    cases hz : wordAt p 3 != 0 with
    | false => rfl
    | true =>
      have hne : wordAt p 3 ≠ 0 := bne_iff_ne.mp hz
      have hone : 1 ≤ wordAt p 3 := by omega
      simp [handsetOk, hone, h.callee]
  simp [hcaller, hcallee, h3, h4]

theorem doCallOpen_refused {c : RefusalCause} (h : OpenPasses p pr l s) (ha : admitCall pr (l = .outbye) (l = .inbye) s = .inl c) :
    doCallOpen .cp tag p s = respond .cp tag (refused c) s := by
  obtain ⟨q, hq, hpr⟩ := h.priority
  have hforced : forcedPriority (wordAt p 0) q = pr := hpr.symm
  rw [doCallOpen, command_cp_sized h.length]
  simp only [openCall, hq, hforced, ← h.line, h.goodParams, h.notBarred, ha, Bool.false_eq_true, if_false]
  rfl

theorem doCallOpen_admitted (h : OpenPasses p pr l s) (ha : admitCall pr (l = .outbye) (l = .inbye) s = .inr (s1, i)) :
    doCallOpen .cp tag p s = respond .cp tag (accepted [byteOf i.val, byteOf s.tb.address, byteOf i.val, byteOf pr.code])
      (openEntry i pr l (wordAt p 0) (byteAt p 2) (openCallee p) s1) := by
  obtain ⟨q, hq, hpr⟩ := h.priority
  have hforced : forcedPriority (wordAt p 0) q = pr := hpr.symm
  rw [doCallOpen, command_cp_sized h.length]
  simp only [openCall, hq, hforced, ← h.line, h.goodParams, h.notBarred, ha, Bool.false_eq_true, if_false]
  rfl

theorem openLine_head (h : OpenPasses p pr l s) (hhead : s.tb.role = .head) : l = .inbye := by
  rw [h.line, onwardLine, if_pos (by simpa [State.isHead] using hhead)]

/-- R126: with room on its line and a FREE entry. -/
theorem doCallOpen_room (h : OpenPasses p pr l s) (hroom : reservations s l < budgetInForce s) (hf : freeEntry s = some i) :
    doCallOpen .cp tag p s = respond .cp tag (accepted [byteOf i.val, byteOf s.tb.address, byteOf i.val, byteOf pr.code])
      (openEntry i pr l (wordAt p 0) (byteAt p 2) (openCallee p) s) :=
  doCallOpen_admitted h (admitCall_of_room ((victims_one ..).trans (victimOn_of_room hroom)) hf)

end

/-- Settles O38: a CALL_OPEN by the room it finds. -/
theorem callOpened : Obligations.CallOpened := by
  refine ⟨fun tag p s i l q pr caller callee dest hlen hcaller hdest hcallee hq hpr h1 h2 h3 h4 h5 hl hsetup hhalted hlisten hjoin hlevel hsupply hroom
      hfree hlow => ?room,
    fun tag p s l q pr hlen hq hpr h1 h2 h3 h4 h5 hl hsetup hhalted hlisten hjoin hlevel hsupply => ?crowded⟩
  case room =>
    subst hcaller hdest hcallee
    have h : OpenPasses p pr l s :=
      ⟨hlen, ⟨q, hq, hpr⟩, ⟨h1, h2⟩, h3, ⟨h4, h5⟩, hl, ⟨⟨hsetup, hhalted⟩, hlisten, hjoin⟩, hlevel, hsupply⟩
    obtain ⟨hcall, hothers, hrecency, hblocks⟩ := openEntry_frame i pr l (wordAt p 0) (byteAt p 2) (openCallee p) s
    refine ⟨_, .of_eq (doCallOpen_room h hroom (freeEntry_some hfree hlow)), hcall, hothers, hrecency, hblocks,
      fun hstaging hspace hnone => ?_, fun k e hstaging hspace hk he hhead => ?_⟩
    · obtain ⟨d, hd⟩ := openEntry_adds (i := i) (pr := pr) (caller := wordAt p 0) (dest := byteAt p 2) (callee := openCallee p) (l := l) (more := [])
        (openLine_head h) (by rw [clearRef_of_none hnone]; exact .refl hstaging) (by simpa using hspace)
      exact ⟨d, by simpa using hd⟩
    · obtain ⟨f, hf, horigin, hindex⟩ := call_of_findRef hk
      obtain rfl := Option.some.inj (hf.symm.trans he)
      have hclear : clearRef s.tb.address i.val s = clearOwn k .stale s := by rw [clearRef, hk]
      have hadds := clearOwn_adds (c := .stale) (l := l) he (fun hh => ⟨openLine_head h hh, hhead hh⟩) hstaging (Nat.lt_succ_of_lt hspace)
      obtain ⟨d, hd, hkind, hdst⟩ := openEntry_adds (i := i) (pr := pr) (caller := wordAt p 0) (dest := byteAt p 2) (callee := openCallee p)
        (openLine_head h) (hclear ▸ hadds) (by split <;> simp <;> omega)
      refine ⟨d, clearCell f .stale s.tb.address s, hd, hkind, hdst, rfl, rfl, ?_⟩
      show u8 f.origin ++ u8 f.originIdx ++ u8 CallCause.stale.code ++ u8 s.tb.address = _
      rw [horigin, hindex]
      rfl
  case crowded =>
    have h : OpenPasses p pr l s :=
      ⟨hlen, ⟨q, hq, hpr⟩, ⟨h1, h2⟩, h3, ⟨h4, h5⟩, hl, ⟨⟨hsetup, hhalted⟩, hlisten, hjoin⟩, hlevel, hsupply⟩
    refine ⟨fun hroom hall => .of_eq (doCallOpen_refused h (admitCall_of_table ((victims_one ..).trans (victimOn_of_room hroom)) (freeEntry_full hall))),
      fun hfull hall => .of_eq (doCallOpen_refused h (admitCall_of_none ((victims_one ..).trans (victimOn_of_full hfull hall)))),
      fun i j v a b hfull hrec ha hb hv huse hbelow hlowest hnewest hi hlow => ?_⟩
    have hvictim := (victims_one pr l s).trans (victimOn_newest ⟨hrec, hv, huse, hlowest, hnewest⟩ hfull hbelow)
    obtain ⟨s1, hs1⟩ : ∃ s1, s1 = clearOwn j .preempted s := ⟨_, rfl⟩
    have hgone : CallGone j s s1 := hs1 ▸ clearOwn_gone hv
    have heff : Effect calling [] s s1 := hs1 ▸ clearOwn_effect ..
    have hcalls (k : Fin 12) : s1.call k = (s.setCall j none).call k := by
      by_cases hk : k = j
      · rw [hk, hgone.free, State.call_setCall]
      · rw [hgone.others k hk, State.call_setCall_of_ne _ _ _ _ hk]
    have htb : s1.tb = s.tb := heff.block .tb
    have haddr : s1.tb.address = s.tb.address := congrArg TimeBase.address htb
    have hstays : staysBeside i s1 = staysBeside i (s.setCall j none) := staysBeside_congr hcalls haddr
    have hplace : freeEntry s1 = some i := by
      refine freeEntry_some ?_ fun k hk => ?_
      · obtain hi | rfl := hi
        · by_cases hij : i = j
          · rw [hij, hgone.free]
          · rw [hgone.others i hij, hi]
        · exact hgone.free
      · obtain ⟨hkj, hk⟩ := hlow k hk
        rw [hgone.others k hkj, hk]
    have hdo := doCallOpen_admitted (tag := tag) h (admitCall_preempts hvictim (hs1 ▸ hplace))
    rw [← hs1] at hdo
    obtain ⟨hcall, hothers, hrecency, hblocks⟩ := openEntry_frame i pr l (wordAt p 0) (byteAt p 2) (openCallee p) s1
    refine ⟨_, .of_eq hdo, ?_, fun hij => ?_, fun k hki hkj => ?_, ?_, heff.sameBut.trans hblocks⟩
    · rw [hcall, originCall, haddr, heff.neighbour l]
      rfl
    · rw [hothers j (Ne.symm hij), hgone.free, ite_self]
    · rw [hothers k hki, hstays, hgone.others k hkj]
    · have hdrop : s1.ctu.recency = a ++ b := by
        have hkeep (xs : List (Fin 12)) (hx : j ∉ xs) : xs.filter (fun k => k != j) = xs :=
          List.filter_eq_self.mpr fun k hk => bne_iff_ne.mpr fun e => hx (e ▸ hk)
        rw [hs1, clearOwn_recency hv, hrec, List.filter_append, List.filter_cons_of_neg (by simp), hkeep a ha, hkeep b hb]
      rw [hrecency, hstays, hdrop]

end Sys2Proof.Machine
end

section
/-! PROOFS. What a reset leaves (1.2, 5.1, 9.6). -/

namespace Sys2Proof.Machine

-- Declarations are elaborated one after another: in a text of this length the threads of many at once would not fit the memory limit.
set_option Elab.async false

section
variable (role : Role) (straps : Nat) (powerOn external : Bool) (pending : List Instr)

/-- R84: a node that is not node 0 itself queues the report of the restart for it. -/
theorem restart_queued (h : 1 ≤ straps) (hr : role = .junction) : restart (bootState role straps powerOn external pending)
    = (trippedBoot role straps powerOn external pending).updQueues .outbye fun q => { q with signal := q.signal ++ [restartReport straps] } := by
  have hown : ownDest 0 (trippedBoot role straps powerOn external pending) = false := by
    refine Bool.eq_false_iff.mpr fun hself => ?_
    obtain h0 | hhead := (ownDest_zero_trippedBoot role straps powerOn external pending).mp hself
    · omega
    · rw [hr] at hhead; cases hhead
  have hline : onwardLine 0 (trippedBoot role straps powerOn external pending) = .outbye := by
    subst hr
    exact if_pos h
  rw [restart_bootState, sendTripReport, sendTo_of_not_ownDest hown, hline, placeCell_of_signal_room rfl rfl ?room]
  case room => exact Nat.zero_lt_succ _
  rfl

/-- R84: node 0 and a head deliver the report of the restart to themselves. -/
theorem restart_delivered (h : straps = 0 ∨ role = .head) : restart (bootState role straps powerOn external pending)
    = post .sp .deliveryWaiting [] (setDeliveryQueue true [restartReport straps] (trippedBoot role straps powerOn external pending)) := by
  have hown := (ownDest_zero_trippedBoot role straps powerOn external pending).mpr h
  rw [restart_bootState, sendTripReport, sendTo_of_ownDest hown rfl, deliver_of_empty rfl]
  rfl

/-- The restart trip touches nothing but its latch, its record and what it reports. -/
theorem restart_reports : Reports (trippedBoot role straps powerOn external pending) (restart (bootState role straps powerOn external pending)) := by
  rw [restart_bootState]
  exact sendTripReport_reports ..

/-- R3: the trunk state after a reset, by role and straps. -/
theorem boot_trunk :
    (role = .head → straps = 0 → (TimeBase.boot role straps).trunk = .leading ∧ (TimeBase.boot role straps).lead = some 0
        ∧ (TimeBase.boot role straps).addressInvalid = false)
    ∧ (role = .junction → 1 ≤ straps → straps ≤ 62 → (TimeBase.boot role straps).trunk = .listen ∧ (TimeBase.boot role straps).lead = none
        ∧ (TimeBase.boot role straps).addressInvalid = false)
    ∧ (role = .head → straps ≠ 0 → (TimeBase.boot role straps).trunk = .setup ∧ (TimeBase.boot role straps).addressInvalid = true)
    ∧ (role = .junction → (straps = 0 ∨ 62 < straps) →
        (TimeBase.boot role straps).trunk = .setup ∧ (TimeBase.boot role straps).addressInvalid = true) := by
  have hbarred (r : Role) (hv : strapsValid r straps = false) :
      (TimeBase.boot r straps).trunk = .setup ∧ (TimeBase.boot r straps).addressInvalid = true := by simp [TimeBase.boot, bootTrunk, hv]
  refine ⟨fun hr hs => ?_, fun hr h1 h2 => ?_, fun hr hs => hbarred _ ?_, fun hr hs => hbarred _ ?_⟩ <;> subst hr
  · subst hs; exact ⟨rfl, rfl, rfl⟩
  · have hv : strapsValid .junction straps = true := by simp [strapsValid, h1, h2]
    simp [TimeBase.boot, bootTrunk, hv]
  · simp [strapsValid, hs]
  · refine Bool.eq_false_iff.mpr fun hv => ?_
    simp only [strapsValid, Bool.and_eq_true, decide_eq_true_eq] at hv
    omega

end

/-- Settles O4: the restart state block by block, its report queued at a junction and delivered at node 0 and at a head. -/
theorem resetsRestart : Obligations.ResetsRestart := by
  intro role straps s i hi
  obtain ⟨powerOn, external, hexec⟩ : ∃ powerOn external, exec i s = .next (restart (bootState role straps powerOn external s.pending)) := by
    obtain rfl | rfl := hi
    exacts [⟨_, _, rfl⟩, ⟨_, _, rfl⟩]
  have hrep := restart_reports role straps powerOn external s.pending
  obtain ⟨hlead, hlisten, hhead, hjunction⟩ := boot_trunk role straps
  have htb : (restart (bootState role straps powerOn external s.pending)).tb = .boot role straps := hrep.tb
  refine ⟨_, hexec, ?_⟩
  rw [htb]
  refine ⟨rfl, rfl, rfl, rfl, rfl, rfl, rfl, rfl, hlead, hlisten, hhead, hjunction, hrep.tu, ?_, rfl, hrep.sbm, hrep.gcu, hrep.sau, hrep.ctu,
    hrep.vu, hrep.pending, fun h1 hr => ?_, fun h => ?_⟩
  · rw [State.tripOut, hrep.tu]; rfl
  · rw [restart_queued _ _ _ _ _ h1 hr]
    exact ⟨rfl, rfl, rfl⟩
  · have hports := restart_bootState_ports role straps powerOn external s.pending
    rw [restartPorts, if_pos h] at hports
    refine ⟨by rw [restart_delivered _ _ _ _ _ h]; rfl, by rw [hports]; rfl, by rw [hports]; rfl⟩

end Sys2Proof.Machine
end

section
/-! PROOFS. The sixteen positions of a round on a line (2.2). -/

namespace Sys2Proof.Machine

-- Declarations are elaborated one after another: in a text of this length the threads of many at once would not fit the memory limit.
set_option Elab.async false

/-! ## CALL cells (R21, R136) -/

section
variable {l : Line} {s : State} {e : Call}

/-- Whether an entry gives a round of a line its CALL cell. -/
def connectedAt (l : Line) (s : State) (i : Fin 12) : Bool :=
  match s.call i with
  | some e => e.state = .connected && e.uses l
  | none => false

theorem connectedOn_eq (l : Line) (s : State) : connectedOn l s = (allCalls.filter (connectedAt l s)).length := rfl

theorem connectedAt_of {i : Fin 12} (he : s.call i = some e) : connectedAt l s i = (decide (e.state = .connected) && e.uses l) := by
  simp [connectedAt, he]

theorem callCellFor_of_uses {addr stamp : Nat} (h : e.uses l = true) :
    ∃ c e', callCellFor e l addr stamp = some (c, e') ∧ (c.kind = 80 ∨ c.kind = 81) := by
  obtain ⟨side, hside⟩ := Option.isSome_iff_exists.mp h
  unfold callCellFor
  simp only [hside]
  split
  · exact ⟨_, _, rfl, .inr rfl⟩
  split
  · split
    · exact ⟨_, _, rfl, .inl rfl⟩
    · exact ⟨_, _, rfl, .inr rfl⟩
  · split
    · exact ⟨_, _, rfl, .inl rfl⟩
    · exact ⟨_, _, rfl, .inr rfl⟩
    · exact ⟨_, _, rfl, .inr rfl⟩

theorem callCellFor_of_not_uses {addr stamp : Nat} (h : e.uses l = false) : callCellFor e l addr stamp = none := by
  have hside : e.sideOn l = none := by simpa [Call.uses] using h
  simp only [callCellFor, hside]

theorem callCells_skip {i : Fin 12} (is : List (Fin 12)) (h : connectedAt l s i = false) : callCells l (i :: is) s = callCells l is s := by
  rw [callCells]
  split
  next e he =>
    rw [connectedAt_of he] at h
    split
    next hs => rw [callCellFor_of_not_uses (by simpa [hs] using h)]
    next => rfl
  next => rfl

theorem callCells_take {i : Fin 12} (is : List (Fin 12)) (h : connectedAt l s i = true) :
    ∃ c x, callCells l (i :: is) s = (c :: (callCells l is (s.setCall i x)).1, (callCells l is (s.setCall i x)).2) ∧ (c.kind = 80 ∨ c.kind = 81) := by
  rw [callCells]
  split
  next e he =>
    rw [connectedAt_of he, Bool.and_eq_true, decide_eq_true_eq] at h
    obtain ⟨hs, hu⟩ := h
    obtain ⟨c, e', hc, hkind⟩ := callCellFor_of_uses (addr := s.tb.address) (stamp := s.tb.running % 256) hu
    rw [if_pos hs, hc]
    exact ⟨c, some e', rfl, hkind⟩
  next he => simp [connectedAt, he] at h

/-- R21: one CALL cell for each entry that gives one. -/
theorem callCells_cells (l : Line) {is : List (Fin 12)} (hnodup : is.Nodup) (s : State) :
    (callCells l is s).1.length = (is.filter (connectedAt l s)).length ∧ ∀ c ∈ (callCells l is s).1, c.kind = 80 ∨ c.kind = 81 := by
  induction is generalizing s with
  | nil => exact ⟨rfl, nofun⟩
  | cons i is ih =>
    obtain ⟨hi, hrest⟩ := List.nodup_cons.mp hnodup
    cases h : connectedAt l s i with
    | false =>
      rw [callCells_skip is h, List.filter_cons_of_neg (by simp [h])]
      exact ih hrest s
    | true =>
      obtain ⟨c, x, heq, hkind⟩ := callCells_take is h
      obtain ⟨hlen, hkinds⟩ := ih hrest (s.setCall i x)
      have hsame : is.filter (connectedAt l (s.setCall i x)) = is.filter (connectedAt l s) := by
        refine List.filter_congr fun j hj => ?_
        have hne : j ≠ i := fun e => hi (e ▸ hj)
        rw [connectedAt, connectedAt, State.call_setCall_of_ne _ _ _ _ hne]
      rw [heq, List.filter_cons_of_pos h]
      exact ⟨by rw [List.length_cons, List.length_cons, hlen, hsame], List.forall_mem_cons.mpr ⟨hkind, hkinds⟩⟩

theorem callCells_blocks (l : Line) (is : List (Fin 12)) (s : State) : SameBut [.ctu] s (callCells l is s).2 := by
  induction is generalizing s with
  | nil => exact .refl _ s
  | cons i is ih =>
    cases h : connectedAt l s i with
    | false => rw [callCells_skip is h]; exact ih s
    | true =>
      obtain ⟨c, x, heq, -⟩ := callCells_take is h
      rw [heq]
      exact (setCall_frame i x s).2.trans (ih _)

end

/-! ## The positions (R21, R22) -/

section
variable {l : Line} {held : Bool} {s : State}

/-- How a round of a line is filled, class by class, with `n` SIGNAL cells and `m` DATA cells. -/
structure Filled (l : Line) (s t : State) (calls idle : List Cell) (n m : Nat) : Prop where
  sent : t.cs.sent.get l = (cellZero l s).1 :: (calls ++ ((s.cs.queues.get l).signal.take n ++ (s.cs.queues.get l).data.take m) ++ idle)
  queues : t.cs.queues.get l = { signal := (s.cs.queues.get l).signal.drop n, data := (s.cs.queues.get l).data.drop m }
  callCount : calls.length = connectedOn l s
  callKinds : ∀ c ∈ calls, c.kind = 80 ∨ c.kind = 81
  idleKinds : ∀ c ∈ idle, c.kind = 0
  total : calls.length + (n + m) + idle.length = 15
  announce : t.cs.announce = (cellZero l s).2.cs.announce
  other : t.cs.queues.get l.other = s.cs.queues.get l.other ∧ t.cs.sent.get l.other = s.cs.sent.get l.other
  blocks : SameBut [.cs, .ctu] s t

theorem cellZero_blocks (l : Line) (s : State) : SameBut [.cs] s (cellZero l s).2
    ∧ (cellZero l s).2.cs = { s.cs with announce := (cellZero l s).2.cs.announce } := by
  unfold cellZero
  split
  · refine ⟨fun b hb => ?_, rfl⟩
    cases b <;> first | rfl | simp at hb
  · exact ⟨.refl _ s, rfl⟩

/-- R21: the positions placed: cell 0, CALL, SIGNAL and DATA cells, then IDLE cells; the queues give theirs up. -/
def placed (l : Line) (zero : Cell) (calls signal data : List Cell) (s : State) : State :=
  let s1 := s.updQueues l fun q => { signal := q.signal.drop signal.length, data := q.data.drop data.length }
  let used := zero :: calls ++ signal ++ data
  s1.updCs fun c => { c with sent := c.sent.set l (used ++ List.replicate (16 - used.length) (idleCell s1)) }

theorem fillLine_eq {calls signal data : List Cell} {u : State} (h : sendsOn s l = true)
    (hcalls : callCells l allCalls (cellZero l s).2 = (calls, u)) (hfit : calls.length ≤ 15)
    (hsignal : (u.cs.queues.get l).signal.take (15 - calls.length) = signal)
    (hdata : (if held = true then [] else (u.cs.queues.get l).data.take (15 - calls.length - signal.length)) = data) :
    fillLine l held s = placed l (cellZero l s).1 calls signal data u := by
  have htake : calls.take 15 = calls := List.take_of_length_le hfit
  unfold fillLine
  rw [if_pos h]
  simp only [hcalls, htake, hsignal, hdata]
  rfl

theorem placed_sent {zero : Cell} {calls signal data : List Cell} {u : State} :
    (placed l zero calls signal data u).cs.sent.get l
        = zero :: (calls ++ (signal ++ data) ++ List.replicate (15 - (calls.length + (signal.length + data.length))) (idleCell u))
      ∧ (placed l zero calls signal data u).cs.sent.get l.other = u.cs.sent.get l.other := by
  have hlen : 16 - (zero :: calls ++ signal ++ data).length = 15 - (calls.length + (signal.length + data.length)) := by
    simp only [List.length_cons, List.length_append]
    omega
  refine ⟨?_, PerLine.get_set_other ..⟩
  have hsent : (placed l zero calls signal data u).cs.sent.get l
      = zero :: calls ++ signal ++ data ++ List.replicate (16 - (zero :: calls ++ signal ++ data).length) (idleCell u) := PerLine.get_set_same ..
  rw [hsent, hlen]
  simp only [List.cons_append, List.append_assoc]

theorem placed_queues {zero : Cell} {calls signal data : List Cell} {u : State} :
    (placed l zero calls signal data u).cs.queues.get l
        = { signal := (u.cs.queues.get l).signal.drop signal.length, data := (u.cs.queues.get l).data.drop data.length }
      ∧ (placed l zero calls signal data u).cs.queues.get l.other = u.cs.queues.get l.other :=
  ⟨PerLine.get_set_same .., PerLine.get_set_other ..⟩

theorem placed_blocks {zero : Cell} {calls signal data : List Cell} {u : State} : SameBut [.cs] u (placed l zero calls signal data u) := by
  intro b hb
  cases b <;> first | rfl | simp at hb

theorem take_min {α : Type} (k : Nat) (xs : List α) : xs.take k = xs.take (min k xs.length) := by
  rw [← List.take_take, List.take_length]

theorem connectedOn_le (l : Line) (s : State) : connectedOn l s ≤ 12 := List.length_filter_le _ _

theorem callCells_of_zero (l : Line) (s : State) : (callCells l allCalls (cellZero l s).2).1.length = connectedOn l s := by
  have hcall (i : Fin 12) : (cellZero l s).2.call i = s.call i :=
    State.call_of_entries (congrArg CallUnit.entries ((cellZero_blocks l s).1 .ctu (by decide))) i
  rw [(callCells_cells l nodup_allCalls _).1, connectedOn_eq]
  congr 2
  funext i
  rw [connectedAt, connectedAt, hcall]

/-- R21: the counts of each class of cells. -/
theorem fillLine_filled {n m : Nat} (h : sendsOn s l = true) (hn : n = min (15 - connectedOn l s) (s.cs.queues.get l).signal.length)
    (hm : m = if held = true then 0 else min (15 - connectedOn l s - n) (s.cs.queues.get l).data.length) :
    ∃ calls idle, Filled l s (fillLine l held s) calls idle n m := by
  have hcount := callCells_of_zero l s
  have hkinds := (callCells_cells l nodup_allCalls (cellZero l s).2).2
  have hblocks := callCells_blocks l allCalls (cellZero l s).2
  have hle := connectedOn_le l s
  obtain ⟨hzero, hzcs⟩ := cellZero_blocks l s
  obtain ⟨calls, u, hv⟩ : ∃ calls u, callCells l allCalls (cellZero l s).2 = (calls, u) := ⟨_, _, rfl⟩
  rw [hv] at hcount hkinds hblocks
  dsimp only at hcount hkinds hblocks
  have hucs : u.cs = (cellZero l s).2.cs := hblocks .cs (by decide)
  have hqueues : u.cs.queues = s.cs.queues := by rw [hucs, hzcs]
  have hsent : u.cs.sent = s.cs.sent := by rw [hucs, hzcs]
  have hsignal : (u.cs.queues.get l).signal.take (15 - calls.length) = (s.cs.queues.get l).signal.take n := by
    rw [hqueues, hcount, hn]; exact take_min ..
  have hsignalLen : ((s.cs.queues.get l).signal.take n).length = n := by rw [List.length_take]; omega
  have hdata : (if held = true then [] else (u.cs.queues.get l).data.take (15 - calls.length - ((s.cs.queues.get l).signal.take n).length))
      = (s.cs.queues.get l).data.take m := by
    rw [hm, hqueues, hcount, hsignalLen]
    split
    · rfl
    · exact take_min ..
  have hdataLen : ((s.cs.queues.get l).data.take m).length = m := by rw [List.length_take, hm]; split <;> omega
  have hroom : calls.length + (n + m) ≤ 15 := by rw [hcount, hn, hm]; split <;> omega
  have hfill := fillLine_eq h hv (by omega) hsignal hdata
  obtain ⟨hhere, hthere⟩ := placed_sent (l := l) (zero := (cellZero l s).1) (calls := calls) (signal := (s.cs.queues.get l).signal.take n)
    (data := (s.cs.queues.get l).data.take m) (u := u)
  obtain ⟨hleft, helse⟩ := placed_queues (l := l) (zero := (cellZero l s).1) (calls := calls) (signal := (s.cs.queues.get l).signal.take n)
    (data := (s.cs.queues.get l).data.take m) (u := u)
  rw [hsignalLen, hdataLen] at hhere hleft
  rw [hqueues] at hleft helse
  rw [hsent] at hthere
  rw [hfill]
  exact ⟨calls, _, {
    sent := hhere, queues := hleft, callCount := hcount, callKinds := hkinds
    idleKinds := fun c hc => by rw [List.eq_of_mem_replicate hc]; rfl
    total := by rw [List.length_replicate]; omega
    announce := (congrArg CellSwitch.announce hucs :), other := ⟨helse, hthere⟩
    blocks := (hzero.mono.trans hblocks.mono).trans placed_blocks.mono }⟩

/-- R22: the announcement pending for a line goes with its cell 0. -/
theorem cellZero_announce (l : Line) (s : State) :
    (cellZero l s).2.cs.announce = s.cs.announce.set l (if sendsCellZero s l = true then none else s.cs.announce.get l) := by
  unfold cellZero
  split
  · rfl
  · exact (PerLine.set_get ..).symm

theorem cellZero_kind (l : Line) (s : State) : (cellZero l s).1.kind = match l with
    | .outbye => 2
    | .inbye => if s.tb.trunk = .listen ∨ s.tb.trunk = .join then 0 else 1 := by
  cases l with
  | outbye => rfl
  | inbye =>
    by_cases h : s.tb.trunk = .listen ∨ s.tb.trunk = .join
    · have hzero : sendsCellZero s .inbye = false := by obtain h | h := h <;> simp [sendsCellZero, h]
      simp [cellZero, hzero, h, idleCell, kIdle]
    · have hzero : sendsCellZero s .inbye = true := by simpa [sendsCellZero] using h
      simp only [cellZero, hzero, if_true, h, if_false]
      rfl

end

/-- R22: what an UPLINK carries. -/
theorem uplink_payload (s : State) : (cellZero .outbye s).1 = uplinkCell s
    ∧ (uplinkCell s).payload = u8 s.tb.epoch ++ u8 s.sau.sentOutbye.code ++ u8 (4 * flag s.cs.announce.outbye.isSome + 8 * flag s.tripOut)
        ++ u8 (s.cs.announce.outbye.getD 0) ++ u8 s.cs.supplyMode.code := by
  have hbits (a b : Bool) : bitmap [false, false, a, b] = 4 * flag a + 8 * flag b := by cases a <;> cases b <;> rfl
  refine ⟨rfl, ?_⟩
  rw [← hbits]
  rfl

/-- R5, R22: what a marker carries. -/
theorem marker_payload {s : State} (hl : s.tb.trunk ≠ .listen) (hj : s.tb.trunk ≠ .join) : (cellZero .inbye s).1 = markerCell s
    ∧ (markerCell s).payload = u16 s.tb.running ++ u8 (sentLead s.tb) ++ u8 s.tb.epoch ++ u8 s.sau.sentInbye.code
        ++ u8 (flag (sentFlags s.tb).holdover + 2 * flag (sentFlags s.tb).island + 4 * flag s.cs.announce.inbye.isSome)
        ++ u8 (s.cs.announce.inbye.getD 0) := by
  have hbits (a b c : Bool) : bitmap [a, b, c] = flag a + 2 * flag b + 4 * flag c := by cases a <;> cases b <;> cases c <;> rfl
  have hzero : sendsCellZero s .inbye = true := by simp [sendsCellZero, hl, hj]
  refine ⟨by simp only [cellZero, hzero, if_true], ?_⟩
  rw [← hbits]
  rfl

/-- Settles O11: the positions by `Filled`, cell 0 by what R5 and R22 give it. -/
theorem roundFillsSixteen : Obligations.RoundFillsSixteen := by
  intro l held s k n m hsends hk hn hm
  subst hk
  obtain ⟨calls, idle, h⟩ := fillLine_filled hsends hn hm
  have hsignalLen : ((s.cs.queues.get l).signal.take n).length = n := by rw [List.length_take]; omega
  have hdataLen : ((s.cs.queues.get l).data.take m).length = m := by rw [List.length_take, hm]; split <;> omega
  have htotal := h.total
  refine ⟨_, rfl, ?_, h.queues, ?_, ?_, ?_, ?_, ?_, ?_, h.other, h.blocks⟩
  · rw [h.sent, List.length_cons, List.length_append, List.length_append, List.length_append, hsignalLen, hdataLen, htotal]
  · rw [h.sent]
    intro c hc
    rw [List.mem_singleton.mp hc]
    exact cellZero_kind l s
  · rw [h.announce, cellZero_announce]
  · intro hold hhold
    subst hhold
    rw [h.sent]
    refine ⟨fun hl => ?_, fun hl hnl hnj => ?_⟩ <;> subst hl
    · obtain ⟨hcell, hpayload⟩ := uplink_payload s
      exact ⟨uplinkCell s, congrArg some hcell, rfl, rfl, rfl, hpayload⟩
    · obtain ⟨hcell, hpayload⟩ := marker_payload hnl hnj
      refine ⟨markerCell s, _, _, congrArg some hcell, rfl, rfl, rfl, hpayload, ?_, ?_, ?_, ?_, ?_⟩
      · intro ht; simp [sentLead, sentFlags, ht, flag]
      · intro ht; simp [sentLead, sentFlags, ht, flag]
      · intro a ht ha; obtain ht | ht := ht <;> simp [sentLead, ht, ha]
      · intro ht; simp [sentFlags, ht]
      · intro ht; simp [sentFlags, ht, flag]
  · rw [h.sent]
    intro c hc
    rw [List.drop_one, List.tail_cons, List.append_assoc, ← h.callCount, List.take_left] at hc
    exact h.callKinds c hc
  · rw [h.sent, Nat.add_comm 1, List.drop_succ_cons, List.append_assoc, ← h.callCount, List.drop_left]
    exact List.take_left' (by rw [List.length_append, hsignalLen, hdataLen])
  · rw [h.sent]
    intro c hc
    have hdrop : 1 + connectedOn l s + n + m = (calls ++ ((s.cs.queues.get l).signal.take n ++ (s.cs.queues.get l).data.take m)).length + 1 := by
      rw [List.length_append, List.length_append, hsignalLen, hdataLen, h.callCount]; omega
    rw [hdrop, List.drop_succ_cons, List.drop_left] at hc
    exact h.idleKinds c hc

end Sys2Proof.Machine
end

section
/-! PROOFS. The EVACUATE latch through a round start at which no bus fails and no override ends (6.2, 6.3). -/

namespace Sys2Proof.Machine

-- Declarations are elaborated one after another: in a text of this length the threads of many at once would not fit the memory limit.
set_option Elab.async false

/-! ## No override, and GAS_EVACUATE as the channels give it -/

/-- Whether a channel, as it was handed over, calls for EVACUATE. -/
def gasEvacuates (s : State) : Bool := anyCounting s fun x => x.evacuateAt.met x.countedLevel

/-- No override is in force and GAS_EVACUATE is as the channels give it. -/
structure GasCalm (s : State) : Prop where
  override : s.tu.ovr.state = .none
  gas : s.sau.causes.gasEvacuate = gasEvacuates s

/-- From a state without override whose GAS_EVACUATE is current, the EVACUATE latch stands. -/
structure LatchKept (s t : State) : Prop where
  kept : GasCalm s → GasCalm t ∧ t.sau.latch = s.sau.latch

namespace LatchKept

theorem refl (s : State) : LatchKept s s := ⟨fun h => ⟨h, rfl⟩⟩

theorem trans {s t u : State} (h : LatchKept s t) (k : LatchKept t u) : LatchKept s u := by
  refine ⟨fun hs => ?_⟩
  obtain ⟨ht, hlatch⟩ := h.kept hs
  obtain ⟨hu, hlatch'⟩ := k.kept ht
  exact ⟨hu, hlatch'.trans hlatch⟩

theorem of_eq {s t : State} (ho : t.tu.ovr = s.tu.ovr) (hc : t.sau.causes = s.sau.causes) (hl : t.sau.latch = s.sau.latch)
    (hi : t.sau.inputs = s.sau.inputs) (hcov : t.sau.covered = s.sau.covered) : LatchKept s t := by
  refine ⟨fun h => ⟨⟨by rw [ho]; exact h.override, ?_⟩, hl⟩⟩
  rw [hc, h.gas]
  simp only [gasEvacuates, anyCounting, inputCounts, hi, hcov]

theorem forEach {α : Type} {f : α → State → State} (hf : ∀ x t, LatchKept t (f x t)) (xs : List α) (s : State) :
    LatchKept s (forEach xs f s) := forEach_invariant (P := LatchKept s) (.refl s) fun x _ _ ht => ht.trans (hf x _)

end LatchKept

/-- A change that touches none of the override, the alarm causes, the latch and the inputs. -/
theorem Effect.latchKept {ps : List Part} {out : List Law} {s t : State} (h : Effect ps out s t)
    (hp : ([Part.ovr, .causes, .latch, .inputs, .covered].all fun p => !ps.contains p) = true := by decide) : LatchKept s t := by
  have hs (p : Part) (hm : p ∈ [Part.ovr, .causes, .latch, .inputs, .covered]) : p.same s t := h.same p fun hin => by
    have hne := List.all_eq_true.mp hp p hm
    simp [hin] at hne
  exact .of_eq (hs .ovr (by decide)) (hs .causes (by decide)) (hs .latch (by decide)) (hs .inputs (by decide)) (hs .covered (by decide))

section
variable {s : State}

theorem sauDerive_latchKept (s : State) : LatchKept s (sauDerive s) := by
  refine ⟨fun h => ?_⟩
  rw [sauDerive_of_none h.override]
  exact (deriveLevel_effect s).latchKept.kept h

/-- R107: where GAS_EVACUATE does not appear, taking the causes leaves the latch. -/
theorem takeCauses_latch (h : gasEvacuates s = true → s.sau.causes.gasEvacuate = true) : (takeCauses s).sau.latch = s.sau.latch := by
  show (s.sau.latch || (gasEvacuates s && !s.sau.causes.gasEvacuate)) = s.sau.latch
  cases hg : gasEvacuates s with
  | false => simp
  | true => simp [h hg]

theorem takeCauses_calm (ho : s.tu.ovr.state = .none) : GasCalm (takeCauses s) := ⟨ho, rfl⟩

theorem sauRecompute_latchKept (s : State) : LatchKept s (sauRecompute s) := by
  have htake : LatchKept s (takeCauses s) := ⟨fun h => ⟨takeCauses_calm h.override, takeCauses_latch fun hg => h.gas.trans hg⟩⟩
  exact htake.trans (sauDerive_latchKept _)

/-- A channel that counts less than before calls for no EVACUATE that was not there. -/
theorem gasEvacuates_fewer {t : State} (h : ∀ i x, t.sau.inputs.get i = some x → s.sau.inputs.get i = some x ∨ x.evacuateAt.met x.countedLevel = false)
    (hcov : t.sau.covered = s.sau.covered) (hg : gasEvacuates t = true) : gasEvacuates s = true := by
  unfold gasEvacuates anyCounting at hg ⊢
  rw [List.any_eq_true] at hg ⊢
  obtain ⟨i, hi, hcount⟩ := hg
  refine ⟨i, hi, ?_⟩
  cases hx : t.sau.inputs.get i with
  | none => simp [hx] at hcount
  | some x =>
    simp only [hx, Bool.and_eq_true] at hcount
    obtain ⟨hin, hmet⟩ := hcount
    obtain hs | hlow := h i x hx
    · simp only [inputCounts, hx, hcov] at hin
      simp only [inputCounts, hs, Bool.and_eq_true]
      exact ⟨Bool.and_eq_true_iff.mp hin, hmet⟩
    · rw [hlow] at hmet; cases hmet

theorem EvacuateAt.met_normal (a : EvacuateAt) : a.met .normal = false := by cases a <;> rfl

/-- R103: a channel handed over at NORMAL calls for no EVACUATE. -/
theorem handToAlarm_latchKept {i : Fin 16} (h : ∀ x, inputOf (s.channel i) = some x → x.countedLevel = .normal) : LatchKept s (handToAlarm i s) := by
  have hhand : LatchKept s (takeCauses (s.updSau fun a => { a with inputs := vset a.inputs i (inputOf (s.channel i)) })) := by
    refine ⟨fun hs => ⟨takeCauses_calm hs.override, ?_⟩⟩
    refine (takeCauses_latch (s := s.updSau fun a => { a with inputs := vset a.inputs i (inputOf (s.channel i)) })
      fun hg => hs.gas.trans (gasEvacuates_fewer (s := s)
        (t := s.updSau fun a => { a with inputs := vset a.inputs i (inputOf (s.channel i)) }) (fun j x hx => ?_) rfl hg)).trans rfl
    by_cases hj : j = i
    · subst hj
      have hin : inputOf (s.channel j) = some x := by rw [← hx]; exact (vset_get_same ..).symm
      exact .inr (by rw [h x hin]; exact EvacuateAt.met_normal _)
    · exact .inl ((vset_get_of_ne _ _ _ _ hj).symm.trans hx)
  exact (hhand.trans (sauDerive_latchKept _)).trans (airEvent_effect ..).latchKept

theorem supervisionChanged_latchKept (before : SupervisionState) (s : State) : LatchKept s (supervisionChanged before s) := by
  have hreport : LatchKept s (sendTo kSupervisionLate 0 (supervisionBytes before s) (postBoth .supervisionLate (supervisionBytes before s) s)) :=
    ((postBoth_effect ..).trans (sendTo_effect ..)).latchKept
  have htell (b : Bool) (t : State) : LatchKept t (sauRecompute (t.updSau fun a => { a with supLate := b })) :=
    LatchKept.trans (t := t.updSau fun a => { a with supLate := b }) (.of_eq rfl rfl rfl rfl rfl) (sauRecompute_latchKept _)
  have htrip (t : State) : LatchKept t (tuRecompute t) := (tuRecompute_effect t).latchKept
  unfold supervisionChanged
  simp only
  split
  · exact (hreport.trans (htell _ _)).trans (htrip _)
  · exact (hreport.trans (htell _ _)).trans (htrip _)
  · exact hreport.trans (htrip _)

theorem supervisionTick_latchKept (s : State) : LatchKept s (supervisionTick s) := by
  have hset (f : TripUnit → TripUnit) (hf : (f s.tu).ovr = s.tu.ovr) : LatchKept s (s.updTu f) := .of_eq hf rfl rfl rfl rfl
  unfold supervisionTick lapse
  split
  · split
    · exact (hset _ rfl).trans (supervisionChanged_latchKept ..)
    · exact (hset _ rfl).trans (supervisionChanged_latchKept ..)
    · exact .refl s
  · split
    · exact hset _ rfl
    · exact hset _ rfl
    · exact .refl s

theorem mobileTick_latchKept (s : State) : LatchKept s (mobileTick s) := by
  have hsilenced (c : Channel) (t : State) (ht : t.channel mobile = c.silenced) : ∀ x, inputOf (t.channel mobile) = some x → x.countedLevel = .normal := by
    intro x hx
    rw [ht] at hx
    unfold inputOf at hx
    split at hx
    · split at hx
      · cases hx; rfl
      · cases hx
    · cases hx
  have hset (c : Channel) : LatchKept s (s.setChannel mobile c) := .of_eq rfl rfl rfl rfl rfl
  have hcommit (c : Channel) : LatchKept s (commitChannel mobile c.silenced s) := by
    have hmethane := recomputeMethane_effect (s.setChannel mobile c.silenced)
    have hreport := reportChannel_effect mobile (s.channel mobile) (recomputeMethane (s.setChannel mobile c.silenced))
    have htrip := tuRecompute_effect (reportChannel mobile (s.channel mobile) (recomputeMethane (s.setChannel mobile c.silenced)))
    refine (((hset _).trans hmethane.latchKept).trans hreport.latchKept).trans (htrip.latchKept.trans (handToAlarm_latchKept (hsilenced c _ ?_)))
    have hchannels := (htrip.same .channels (by decide)).trans ((hreport.same .channels (by decide)).trans (hmethane.same .channels (by decide)))
    rw [State.channel, hchannels]
    exact State.channel_setChannel ..
  unfold mobileTick
  simp only
  split
  · exact hcommit _
  split
  · exact hset _
  · exact .refl s

theorem gcuRound_latchKept (s : State) : LatchKept s (gcuRound s) :=
  (mobileTick_latchKept s).trans (.forEach (fun i t => (reportTick_effect i t).latchKept) allChannels _)

theorem overrideTick_latchKept (s : State) : LatchKept s (overrideTick s) := by
  refine ⟨fun h => ?_⟩
  have hnone : overrideTick s = s := by rw [overrideTick, h.override]
  rw [hnone]
  exact ⟨h, rfl⟩

/-! ## The buses (R45 to R53) -/

theorem updBus_latchKept (b : Bus) (f : BusMaster → BusMaster) (s : State) : LatchKept s (s.updBus b f) := .of_eq rfl rfl rfl rfl rfl

theorem joinPoll_latchKept (b : Bus) (p : Poll) (s : State) : LatchKept s (joinPoll b p s) := by
  unfold joinPoll
  split
  · split
    · exact .of_eq rfl rfl rfl rfl rfl
    · exact .refl s
  · exact updBus_latchKept ..

/-- R46, R47: a bus that does not enter or stay in FAILED makes no misses at its release step. -/
theorem releaseStep_holds {b : Bus} {high : Bool} (h : BusHolds high (s.bus b)) :
    LatchKept s (releaseStep b high s) ∧ ((releaseStep b high s).bus b).state ≠ .failed := by
  have hidle : ((s.updBus b BusMaster.toIdle).bus b).state ≠ .failed := by rw [bus_updBus]; simp [BusMaster.toIdle]
  unfold releaseStep
  simp only
  split
  next hs =>
    split
    next => exact ⟨updBus_latchKept .., hidle⟩
    next hlow =>
      obtain hhigh | ⟨-, hcount⟩ := h
      · exact absurd hhigh hlow
      · rw [if_neg (Nat.not_le.mpr (hcount hs))]
        exact ⟨updBus_latchKept .., by rw [bus_updBus]; simp [hs]⟩
  next hs =>
    obtain hhigh | ⟨hne, -⟩ := h
    · rw [if_pos hhigh]
      exact ⟨updBus_latchKept .., hidle⟩
    · exact absurd hs hne
  next hne => exact ⟨.refl s, hne⟩

theorem busRound_latchKept {b : Bus} {high : Bool} (h : BusHolds high (s.bus b)) : LatchKept s (busRound b high s) := by
  have hopen : BusHolds high (((applyMode b s).updBus b fun m => { m with started := 0 }).bus b) := by
    rw [bus_updBus, applyMode, bus_updBus]
    exact h
  obtain ⟨hrelease, hne⟩ := releaseStep_holds hopen
  unfold busRound addDue
  rw [if_neg hne]
  exact (((updBus_latchKept ..).trans (updBus_latchKept ..)).trans hrelease).trans (.forEach (fun p t => joinPoll_latchKept b p t) _ _)

theorem failPolls_bus (polls : List Poll) (c : Bus) (s : State) : (failPolls polls s).bus c = s.bus c :=
  bus_of_sbm ((failPolls_effect polls s).block .sbm) c

theorem joinPoll_other {b c : Bus} (hbc : c ≠ b) (p : Poll) (s : State) : (joinPoll b p s).bus c = s.bus c := by
  unfold joinPoll
  split
  · split <;> rfl
  · exact updBus_other hbc _ _

theorem releaseStep_other {b c : Bus} {high : Bool} (hbc : c ≠ b) (s : State) : (releaseStep b high s).bus c = s.bus c := by
  unfold releaseStep failBus
  simp only
  split
  · split
    · exact updBus_other hbc _ _
    split
    · exact (failPolls_bus ..).trans (updBus_other hbc _ _)
    · exact updBus_other hbc _ _
  · split <;> exact updBus_other hbc _ _
  · rfl

/-- R45: the work of one bus leaves the other as it is. -/
theorem busRound_other {b c : Bus} {high : Bool} (hbc : c ≠ b) (s : State) : (busRound b high s).bus c = s.bus c := by
  have hdue (t : State) : (addDue b t).bus c = t.bus c := by
    unfold addDue
    split
    · exact failPolls_bus ..
    · exact forEach_invariant (P := fun u => u.bus c = t.bus c) rfl fun p _ u hu => (joinPoll_other hbc p u).trans hu
  have hopen : ((applyMode b s).updBus b fun m => { m with started := 0 }).bus c = s.bus c :=
    (updBus_other hbc _ _).trans (updBus_other hbc _ _)
  exact (hdue _).trans ((releaseStep_other hbc _).trans hopen)

/-- The work of the field blocks leaves the EVACUATE latch where no bus fails. -/
theorem fieldWork_latchKept {smp : Samples} (h1 : BusHolds smp.busHigh.one s.sbm.one) (h2 : BusHolds smp.busHigh.two s.sbm.two) :
    LatchKept s (fieldWork smp s) := by
  have htwo : BusHolds smp.busHigh.two ((busRound .one smp.busHigh.one s).bus .two) := by
    rw [busRound_other (by decide)]; exact h2
  have hbuses := (busRound_latchKept h1).trans (busRound_latchKept htwo)
  have hrest (t : State) : LatchKept t (vuRound (ctuRound (supplySample smp.mains smp.battery t))) :=
    ((supplySample_effect ..).latchKept.trans (ctuRound_effect _).latchKept).trans (vuRound_effect _).latchKept
  exact (((hbuses.trans (gcuRound_latchKept _)).trans (supervisionTick_latchKept _)).trans (overrideTick_latchKept _)).trans (hrest _)

end

end Sys2Proof.Machine
end

section
/-! PROOFS. Round starts that a marker produces: what the Time Base takes, and what an adoption leaves (1.3 to 1.7, 2.10, 6.3). -/

namespace Sys2Proof.Machine

-- Declarations are elaborated one after another: in a text of this length the threads of many at once would not fit the memory limit.
set_option Elab.async false

/-! ## What commands have configured -/

theorem Effect.config {ps : List Part} {out : List Law} {s t : State} (h : Effect ps out s t)
    (hp : ([Part.node, .flowConf, .chanCfg, .refugeHeads, .budget, .roadCfg, .portConf, .supplyConf].all fun p => !ps.contains p) = true := by decide) :
    ConfigKept s t := by
  have hs (p : Part) (hm : p ∈ [Part.node, .flowConf, .chanCfg, .refugeHeads, .budget, .roadCfg, .portConf, .supplyConf]) : p.same s t :=
    h.same p fun hin => by
      have hne := List.all_eq_true.mp hp p hm
      simp [hin] at hne
  have hnode := hs .node (by decide)
  have hflow := hs .flowConf (by decide)
  have hchan := hs .chanCfg (by decide)
  have hheads := hs .refugeHeads (by decide)
  have hports := hs .portConf (by decide)
  have hsupply := hs .supplyConf (by decide)
  simp only [Part.same, Prod.mk.injEq] at hnode hflow hports hsupply
  obtain ⟨hrole, haddr, -, hparams⟩ := hnode
  obtain ⟨hspe, hsph, hcpe, hcph⟩ := hports
  exact {
    node := ⟨hrole, haddr, hparams⟩, lines := hflow
    channels := fun i => Prod.mk.injEq .. ▸ congrFun hchan i
    refuges := fun r => congrFun hheads r
    calls := hs .budget (by decide), block := hs .roadCfg (by decide)
    notices := fun p => by cases p; exacts [⟨hspe, hsph⟩, ⟨hcpe, hcph⟩]
    supply := hsupply }

/-! ## The work of a round start, before and after the Time Base's own step -/

/-- The round opened, with the counts that run first. -/
def opened (s : State) : State := countWork (s.updCs fun c => { c with staging := some [] })

/-- What follows the step of the Time Base. -/
def afterTrunk (smp : Samples) (mk : Option Marker) (renewed : Bool) (held : PerLine Bool) (s : State) : State :=
  releaseStaged (fillWork held (fieldWork smp (lineWork smp mk renewed s)))

theorem roundWork_eq (smp : Samples) (mk : Option Marker) (trunk : State → State) (s : State) : roundWork smp mk trunk s
    = afterTrunk smp mk ((trunk (opened s)).tb.epoch != s.tb.epoch)
        ⟨0 < (trunk (opened s)).cs.held.outbye, 0 < (trunk (opened s)).cs.held.inbye⟩ (trunk (opened s)) := rfl

/-- What the counts that run first may move. -/
abbrev opening : List Part := .outputs :: .road :: sheltering

theorem opened_effect (s : State) : Effect opening [] s (opened s) := (setStaging_effect (some []) s).mono.trans (countWork_effect _)

/-- What the work after the step may move. -/
abbrev working : List Part := .outputs :: .sent :: .line :: .flow :: .remote :: fielding

theorem afterTrunk_effect (smp : Samples) (mk : Option Marker) (renewed : Bool) (held : PerLine Bool) (s : State) :
    Effect working [] s (afterTrunk smp mk renewed held s) :=
  (((lineWork_effect smp mk renewed s).mono.trans (fieldWork_effect ..).mono).trans (fillWork_effect ..).mono).trans (releaseStaged_effect _).mono

theorem opened_tb (s : State) : (opened s).tb = s.tb := (opened_effect s).block .tb

/-- The Time Base is as given, but for its event stamps. -/
structure TimedBy (b : TimeBase) (t : State) : Prop where
  tb : t.tb = { b with tripStamp := t.tb.tripStamp, refugeStamps := t.tb.refugeStamps }

theorem roundWork_timed {smp : Samples} {mk : Option Marker} {trunk : State → State} {s : State} {b : TimeBase}
    (h : ∀ t, t.tb = s.tb → (trunk t).tb = b) : TimedBy b (roundWork smp mk trunk s) := by
  have hstep := h (opened s) (opened_tb s)
  rw [roundWork_eq]
  have hrest := (afterTrunk_effect smp mk ((trunk (opened s)).tb.epoch != s.tb.epoch)
    ⟨0 < (trunk (opened s)).cs.held.outbye, 0 < (trunk (opened s)).cs.held.inbye⟩ (trunk (opened s))).stampsOnly
  exact ⟨by rw [← hstep]; exact hrest⟩

section
variable {smp : Samples} {m : Marker} {s : State}

/-- The Time Base as a round start with a running count opens it. -/
def openedAt (running : Nat) (late : Option Nat) (b : TimeBase) : TimeBase :=
  { b with running := running, tick := 0, phaseAge := 0, lateUntil := late }

theorem finishTrunk_free {old : TimeBase} (h : old.pendingCmd = none) (s : State) : finishTrunk old s = trunkChanged old s := by
  simp only [finishTrunk, h]

/-- R2: a round start that a marker produces, by what its step makes of the Time Base. -/
theorem markerRound_timed {step : State → State} {b : TimeBase} (hp : s.tb.pendingCmd = none)
    (h : ∀ t, t.tb = openedAt m.round none s.tb → (step t).tb = b) : TimedBy b (markerRound smp m step s) :=
  roundWork_timed fun t ht => by
    rw [finishTrunk_free hp, trunkChanged_tb]
    exact h t ht

theorem stepRound_timed (step : TimeBase → TimeBase) (hp : s.tb.pendingCmd = none) :
    TimedBy (step (openedAt m.round none s.tb)) (markerRound smp m (fun t => t.updTb step) s) :=
  markerRound_timed hp fun _ ht => congrArg step ht

theorem adoptMarker_tb (m : Marker) (clearing : Bool) (s : State) : (adoptMarker m clearing s).tb = { enterCarry s.tb m with epoch := m.epoch } := by
  unfold adoptMarker adoptEpoch
  split
  next h =>
    have hepoch : m.epoch = s.tb.epoch := h
    rw [hepoch]
    rfl
  · simp only
    split <;> rfl

/-- R13, R40: what the adoption of a marker makes of the remote levels, the causes and the latch. -/
theorem adoptMarker_frame (m : Marker) (clearing : Bool) (s : State) :
    (adoptMarker m clearing s).cs = { s.cs with remote := if m.epoch = s.tb.epoch then s.cs.remote else ⟨⟨.normal, 0⟩, ⟨.normal, 0⟩⟩ }
      ∧ (adoptMarker m clearing s).sau
          = { s.sau with latch := if clearing = true ∧ m.epoch ≠ s.tb.epoch then s.sau.causes.gasEvacuate else s.sau.latch }
      ∧ (adoptMarker m clearing s).tu = s.tu ∧ (adoptMarker m clearing s).sbm = s.sbm := by
  unfold adoptMarker adoptEpoch
  by_cases h : m.epoch = s.tb.epoch
  · have hsame : m.epoch = (s.updTb fun t => enterCarry t m).tb.epoch := h
    rw [if_pos hsame]
    simp [h]
  · have hnew : ¬ m.epoch = (s.updTb fun t => enterCarry t m).tb.epoch := h
    rw [if_neg hnew]
    cases clearing
    · simp [h]
    · simp [h]

end

/-! ## What a marker brings the lines (R26, R33, R39) -/

section
variable {smp : Samples} {m : Marker} {s : State}

/-- R26, R33: what a marker leaves of its line before its level is taken. -/
def markerNoted (m : Marker) (s : State) : State :=
  (takeHold .outbye m.hold s).updStatus .outbye fun st => { st with neighbour := some m.src }

theorem takeMarker_eq (m : Marker) (s : State) : takeMarker m s = takeLevel .outbye m.epoch m.level (markerNoted m s) := rfl

theorem markerNoted_effect (m : Marker) (s : State) : Effect (.flow :: .line :: telling) [] s (markerNoted m s) :=
  (takeHold_effect ..).mono.trans (updStatus_effect ..).mono

theorem takeMarker_neighbour (m : Marker) (s : State) : (takeMarker m s).cs.status.outbye.neighbour = some m.src := by
  have hline := (takeLevel_effect .outbye m.epoch m.level (markerNoted m s)).same .line (by decide)
  have hsame : (takeMarker m s).cs.status.outbye.neighbour = (markerNoted m s).cs.status.outbye.neighbour :=
    congrArg (fun x : LineStatus × LineStatus => x.1.neighbour) hline
  exact hsame.trans rfl

theorem takeMarker_held (m : Marker) (s : State) : (takeMarker m s).cs.held = match m.hold with
    | some n => s.cs.held.set .outbye n
    | none => s.cs.held := by
  have hflow := (takeLevel_effect .outbye m.epoch m.level (markerNoted m s)).same .flow (by decide)
  have hsame : (takeMarker m s).cs.held = (markerNoted m s).cs.held := congrArg (fun x => x.2.2) hflow
  exact hsame.trans (takeHold_held m.hold)

theorem takeMarker_remote (h : m.epoch = s.tb.epoch) :
    (takeMarker m s).cs.remote = s.cs.remote.set .outbye { level := m.level, age := 0 } := by
  have heff := markerNoted_effect m s
  rw [takeMarker_eq, takeLevel_remote (h.trans (heff.same .epoch (by decide)).symm), heff.same .remote (by decide)]

/-- R107: an own level of EVACUATE sets the latch. -/
theorem takeMarker_latch (h : m.epoch = s.tb.epoch) (hs : GasCalm s) :
    GasCalm (takeMarker m s) ∧ (takeMarker m s).sau.latch = (s.sau.latch || decide (m.level = .evacuate)) := by
  have heff := markerNoted_effect m s
  obtain ⟨hcalm, hlatch⟩ := heff.latchKept.kept hs
  have hlevel (t : State) (ht : GasCalm t) : GasCalm (sauDerive ((t.updCs fun c => { c with
      remote := c.remote.set .outbye { level := m.level, age := 0 } }).updSau fun a => { a with latch := a.latch || m.level = .evacuate }))
      ∧ (sauDerive ((t.updCs fun c => { c with
        remote := c.remote.set .outbye { level := m.level, age := 0 } }).updSau fun a => { a with latch := a.latch || m.level = .evacuate })).sau.latch
        = (t.sau.latch || decide (m.level = .evacuate)) := by
    obtain ⟨hc, hl⟩ := (sauDerive_latchKept ((t.updCs fun c => { c with
      remote := c.remote.set .outbye { level := m.level, age := 0 } }).updSau fun a => { a with latch := a.latch || m.level = .evacuate })).kept
      ⟨ht.override, ht.gas⟩
    exact ⟨hc, hl⟩
  rw [takeMarker_eq, takeLevel, if_pos (h.trans (heff.same .epoch (by decide)).symm), ← hlatch]
  exact hlevel _ hcalm

theorem ageRemote_latchKept (l : Line) (level : SectionLevel) (n : Nat) (s : State) :
    LatchKept s (if level = (s.cs.remote.get l).level then s.updCs fun c => { c with remote := c.remote.set l { level := level, age := n } }
      else sauDerive (s.updCs fun c => { c with remote := c.remote.set l { level := level, age := n } })) := by
  have hset : LatchKept s (s.updCs fun c => { c with remote := c.remote.set l { level := level, age := n } }) := .of_eq rfl rfl rfl rfl rfl
  split
  · exact hset
  · exact hset.trans (sauDerive_latchKept _)

theorem remoteTick_latchKept (l : Line) (s : State) : LatchKept s (remoteTick l s) := ageRemote_latchKept l _ _ s

theorem agesRound_latchKept (m : Marker) (renewed : Bool) (s : State) : LatchKept s (agesRound m renewed s) := by
  have hfirst : LatchKept s (if m.epoch = s.tb.epoch then s else remoteTick .outbye s) := by
    split
    · exact .refl s
    · exact remoteTick_latchKept ..
  unfold agesRound
  simp only
  cases renewed
  · exact hfirst.trans (remoteTick_latchKept ..)
  · exact hfirst

/-- R39, R40: where the marker brought a new epoch no age gains one. -/
theorem agesRound_renewed (h : m.epoch = s.tb.epoch) : agesRound m true s = s := by simp [agesRound, h]

theorem linesRound_held (smp : Samples) (s : State) :
    (bothLines heldTick (bothLines (fun l => lineRound l (smp.carrier.get l)) s)).cs.held.outbye = s.cs.held.outbye - 1 := by
  have hline (l : Line) (t : State) : (lineRound l (smp.carrier.get l) t).cs.held = t.cs.held :=
    congrArg (fun x => x.2.2) ((lineRound_effect l (smp.carrier.get l) t).same .flow (by decide))
  have htick (t : State) : (bothLines heldTick t).cs.held.outbye = t.cs.held.outbye - 1 := rfl
  rw [htick, bothLines, hline, hline]

/-- What the lines hold once a marker whose epoch is the node's own has been taken at its round start. -/
theorem lineWork_marker {renewed : Bool} (h : m.epoch = s.tb.epoch) :
    (lineWork smp (some m) renewed s).cs.status.outbye.neighbour = some m.src
      ∧ (lineWork smp (some m) renewed s).cs.remote.outbye = { level := m.level, age := 0 }
      ∧ (renewed = true → (lineWork smp (some m) renewed s).cs.remote.inbye = s.cs.remote.inbye)
      ∧ (lineWork smp (some m) renewed s).cs.held.outbye = heldAfter s.cs.held.outbye m.hold
      ∧ (GasCalm s → GasCalm (lineWork smp (some m) renewed s)
          ∧ (lineWork smp (some m) renewed s).sau.latch = (s.sau.latch || decide (m.level = .evacuate))) := by
  have hlines := linesRound_effect smp s
  have hheld := linesRound_held smp s
  obtain ⟨t, ht⟩ : ∃ t, t = bothLines heldTick (bothLines (fun l => lineRound l (smp.carrier.get l)) s) := ⟨_, rfl⟩
  rw [← ht] at hlines hheld
  have hages := agesRound_effect m renewed t
  have hepoch : m.epoch = (agesRound m renewed t).tb.epoch :=
    h.trans ((hlines.same .epoch (by decide)).symm.trans (hages.same .epoch (by decide)).symm)
  have hremote := takeMarker_remote hepoch
  rw [lineWork_some, ← ht]
  refine ⟨takeMarker_neighbour .., by rw [hremote]; rfl, fun hr => ?_, ?_, fun hs => ?_⟩
  · subst hr
    have hown : m.epoch = t.tb.epoch := h.trans (hlines.same .epoch (by decide)).symm
    have hkept : t.cs.remote = s.cs.remote := hlines.same .remote (by decide)
    rw [hremote, agesRound_renewed hown, hkept]
    rfl
  · have hsame : (agesRound m renewed t).cs.held = t.cs.held := congrArg (fun x => x.2.2) (hages.same .flow (by decide))
    rw [takeMarker_held, hsame]
    cases m.hold with
    | none => exact hheld
    | some n => rfl
  · obtain ⟨hcalm, hlatch⟩ := (hlines.latchKept.trans (agesRound_latchKept m renewed t)).kept hs
    obtain ⟨hc, hl⟩ := takeMarker_latch hepoch hcalm
    exact ⟨hc, by rw [hl, hlatch]⟩

end

end Sys2Proof.Machine
end

section
/-! PROOFS. A marker adopted at the round start it produces (1.5 to 1.7, 2.6, 2.10, 6.3). -/

namespace Sys2Proof.Machine

-- Declarations are elaborated one after another: in a text of this length the threads of many at once would not fit the memory limit.
set_option Elab.async false

/-! ## Once the Time Base has taken its step -/

theorem Effect.held {ps : List Part} {out : List Law} {s t : State} (h : Effect ps out s t) (hp : Part.flow ∉ ps := by decide) :
    t.cs.held = s.cs.held := congrArg (fun x => x.2.2) (h.same .flow hp)

theorem PerLine.ext {α : Type} {p q : PerLine α} (h1 : p.outbye = q.outbye) (h2 : p.inbye = q.inbye) : p = q := by
  cases p; cases q; cases h1; cases h2; rfl

section
variable {smp : Samples} {m : Marker} {s : State}

/-- R33: the filling of the positions leaves the held counts. -/
theorem fillWork_held (held : PerLine Bool) (s : State) : (fillWork held s).cs.held = s.cs.held := by
  have hexamine (l : Line) (t : State) : (examineQueue l t).cs.held = t.cs.held := by
    unfold examineQueue
    simp only
    split
    · split
      · rfl
      split <;> rfl
    · split <;> rfl
  have hfill (l : Line) (b : Bool) (t : State) : (fillLine l b t).cs.held = t.cs.held := by
    have hcalls : (callCells l allCalls (cellZero l t).2).2.cs = (cellZero l t).2.cs := (callCells_blocks l allCalls _) .cs (by decide)
    have hzero : (cellZero l t).2.cs.held = t.cs.held := by rw [(cellZero_blocks l t).2]
    have hplaced : (callCells l allCalls (cellZero l t).2).2.cs.held = t.cs.held := by rw [hcalls, hzero]
    unfold fillLine
    split
    · exact hplaced
    · rfl
  exact (hfill ..).trans ((hfill ..).trans ((hexamine ..).trans (hexamine ..)))

/-- What a round start leaves of the marker that produced it. -/
structure MarkerTaken (smp : Samples) (m : Marker) (renewed : Bool) (s t : State) : Prop where
  neighbour : t.cs.status.outbye.neighbour = some m.src
  outbye : t.cs.remote.outbye = { level := m.level, age := 0 }
  inbye : renewed = true → t.cs.remote.inbye = s.cs.remote.inbye
  held : t.cs.held.outbye = heldAfter s.cs.held.outbye m.hold
  latch : GasCalm s → BusHolds smp.busHigh.one s.sbm.one → BusHolds smp.busHigh.two s.sbm.two →
    t.sau.latch = (s.sau.latch || decide (m.level = .evacuate))
  level : t.sau.level = levelOf t

theorem afterTrunk_marker (renewed : Bool) (held : PerLine Bool) (h : m.epoch = s.tb.epoch) :
    MarkerTaken smp m renewed s (afterTrunk smp (some m) renewed held s) := by
  obtain ⟨hneighbour, houtbye, hinbye, hheld, hlatch⟩ := lineWork_marker (smp := smp) (renewed := renewed) h
  have hderived := lineWork_derived (smp := smp) (renewed := renewed) h
  have hsbm : (lineWork smp (some m) renewed s).sbm = s.sbm := (lineWork_effect smp (some m) renewed s).block .sbm
  unfold afterTrunk
  generalize lineWork smp (some m) renewed s = t at *
  have hfield := fieldWork_effect smp t
  have hfill := fillWork_effect held (fieldWork smp t)
  have hrelease := releaseStaged_effect (fillWork held (fieldWork smp t))
  have hremote : (releaseStaged (fillWork held (fieldWork smp t))).cs.remote = t.cs.remote :=
    (hrelease.same .remote (by decide)).trans ((hfill.same .remote (by decide)).trans (hfield.same .remote (by decide)))
  have hline : neighbourOf (releaseStaged (fillWork held (fieldWork smp t))) .outbye = neighbourOf t .outbye :=
    (hrelease.neighbour .outbye).trans ((hfill.neighbour .outbye).trans (hfield.neighbour .outbye))
  have hcount : (releaseStaged (fillWork held (fieldWork smp t))).cs.held = t.cs.held :=
    hrelease.held.trans ((fillWork_held held _).trans hfield.held)
  have hkept (h1 : BusHolds smp.busHigh.one t.sbm.one) (h2 : BusHolds smp.busHigh.two t.sbm.two) :
      LatchKept t (releaseStaged (fillWork held (fieldWork smp t))) :=
    ((fieldWork_latchKept h1 h2).trans hfill.latchKept).trans hrelease.latchKept
  have hlevel : Law.levelDerived.holds (releaseStaged (fillWork held (fieldWork smp t))) :=
    hrelease.keeps .levelDerived (by simp) (hfill.keeps .levelDerived (by simp) (hfield.keeps .levelDerived (by simp) hderived))
  clear hfield hfill hrelease
  generalize releaseStaged (fillWork held (fieldWork smp t)) = u at *
  exact {
    neighbour := hline.trans hneighbour
    outbye := by rw [hremote]; exact houtbye
    inbye := fun hr => by rw [hremote]; exact hinbye hr
    held := by rw [hcount]; exact hheld
    latch := fun hs h1 h2 => by
      obtain ⟨hcalm, heq⟩ := hlatch hs
      obtain ⟨-, hstays⟩ := (hkept (hsbm ▸ h1) (hsbm ▸ h2)).kept hcalm
      rw [hstays, heq]
    level := hlevel }

end

/-! ## The adoption (R9, R13, R40, R107, R110) -/

section
variable {smp : Samples} {m : Marker} {s : State} {g : TimeBase → TimeBase} {clearing : Bool}

/-- What the adoption of a marker at its own round start leaves. -/
structure AdoptedRound (smp : Samples) (m : Marker) (clearing : Bool) (s t : State) : Prop where
  adopted : Adopted m t
  round : RoundFrom m t
  neighbour : t.cs.status.outbye.neighbour = some m.src
  outbye : t.cs.remote.outbye = { level := m.level, age := 0 }
  held : t.cs.held.outbye = heldAfter s.cs.held.outbye m.hold
  latch : Calm smp s → t.sau.latch = latchAfter clearing m s
  renewed : EpochTaken m s t
  config : ConfigKept s t
  pending : t.pending = s.pending

/-- A step of the Time Base that leaves the round as it was opened. -/
structure KeepsRound (g : TimeBase → TimeBase) : Prop where
  step : TrunkStep g
  running : ∀ b, (g b).running = b.running
  tick : ∀ b, (g b).tick = b.tick
  phase : ∀ b, (g b).phaseAge = b.phaseAge

theorem KeepsRound.id : KeepsRound fun b => b := ⟨trunkStep_of_retimed fun _ => rfl, fun _ => rfl, fun _ => rfl, fun _ => rfl⟩

theorem keepsRound_joinCounts (quiet : Bool) : KeepsRound (joinCounts quiet) :=
  ⟨trunkStep_of_retimed fun _ => rfl, fun _ => rfl, fun _ => rfl, fun _ => rfl⟩

/-- The state in which the work of an adopted marker's round start begins. -/
def adoptedStep (m : Marker) (clearing : Bool) (g : TimeBase → TimeBase) (s : State) : State :=
  adoptMarker m clearing ((opened (openRound m.round none s)).updTb g)

theorem adoptedStep_epoch : (adoptedStep m clearing g s).tb.epoch = m.epoch := by rw [adoptedStep, adoptMarker_tb]

/-- R13: remote levels, held counts and latch as the adoption leaves them. -/
theorem adoptedStep_frame (hg : KeepsRound g) :
    (adoptedStep m clearing g s).cs.remote = (if m.epoch = s.tb.epoch then s.cs.remote else ⟨⟨.normal, 0⟩, ⟨.normal, 0⟩⟩)
      ∧ (adoptedStep m clearing g s).cs.held = s.cs.held ∧ (adoptedStep m clearing g s).sbm = s.sbm
      ∧ (GasCalm s → GasCalm (adoptedStep m clearing g s) ∧ (adoptedStep m clearing g s).sau.latch
          = if clearing = true ∧ m.epoch ≠ s.tb.epoch then s.sau.causes.gasEvacuate else s.sau.latch) := by
  have heff : Effect (.clock :: .trunk :: opening) [] s ((opened (openRound m.round none s)).updTb g) :=
    ((openRound_effect m.round none s).mono.trans (opened_effect _).mono).trans (hg.step _).mono
  have hepoch : ((opened (openRound m.round none s)).updTb g).tb.epoch = s.tb.epoch := heff.same .epoch (by decide)
  have hremote : ((opened (openRound m.round none s)).updTb g).cs.remote = s.cs.remote := heff.same .remote (by decide)
  have hheld : ((opened (openRound m.round none s)).updTb g).cs.held = s.cs.held := heff.held
  have hsbm : ((opened (openRound m.round none s)).updTb g).sbm = s.sbm := heff.block .sbm
  have hcauses : ((opened (openRound m.round none s)).updTb g).sau.causes = s.sau.causes := heff.same .causes (by decide)
  have hlatch : ((opened (openRound m.round none s)).updTb g).sau.latch = s.sau.latch := heff.same .latch (by decide)
  have hkept : LatchKept s ((opened (openRound m.round none s)).updTb g) := heff.latchKept
  unfold adoptedStep
  generalize (opened (openRound m.round none s)).updTb g = t at *
  obtain ⟨hcs, hsau, htu, hbus⟩ := adoptMarker_frame m clearing t
  refine ⟨by rw [hcs, hepoch, hremote], by rw [hcs]; exact hheld, by rw [hbus, hsbm], fun hs => ?_⟩
  obtain ⟨⟨hovr, hgas⟩, -⟩ := hkept.kept hs
  refine ⟨⟨by rw [htu]; exact hovr, ?_⟩, by rw [hsau, hepoch, hcauses, hlatch]⟩
  rw [gasEvacuates, anyCounting] at hgas ⊢
  simp only [inputCounts, hsau] at hgas ⊢
  exact hgas

theorem adoptRound (clearing : Bool) (hp : s.tb.pendingCmd = none) (hg : KeepsRound g) :
    AdoptedRound smp m clearing s (markerRound smp m (fun t => adoptMarker m clearing (t.updTb g)) s) := by
  have heff := adoptRound_effect (smp := smp) (m := m) (clearing := clearing) (f := fun t => t.updTb g) hg.step s
  have htimed : TimedBy { enterCarry (g (openedAt m.round none s.tb)) m with epoch := m.epoch }
      (markerRound smp m (fun t => adoptMarker m clearing (t.updTb g)) s) := markerRound_timed hp fun t ht => by
    rw [adoptMarker_tb, ← ht]
    rfl
  have hround : markerRound smp m (fun t => adoptMarker m clearing (t.updTb g)) s
      = afterTrunk smp (some m) ((trunkChanged s.tb (adoptedStep m clearing g s)).tb.epoch != s.tb.epoch)
          ⟨0 < (trunkChanged s.tb (adoptedStep m clearing g s)).cs.held.outbye,
            0 < (trunkChanged s.tb (adoptedStep m clearing g s)).cs.held.inbye⟩ (trunkChanged s.tb (adoptedStep m clearing g s)) := by
    rw [markerRound, roundWork_eq, finishTrunk_free hp]
    rfl
  have hchanged := trunkChanged_effect s.tb (adoptedStep m clearing g s)
  obtain ⟨hremote, hheld, hsbm, hlatch⟩ := adoptedStep_frame (s := s) (m := m) (clearing := clearing) hg
  have hepoch : m.epoch = (trunkChanged s.tb (adoptedStep m clearing g s)).tb.epoch := by rw [trunkChanged_tb, adoptedStep_epoch]
  have htaken := afterTrunk_marker (smp := smp) ((trunkChanged s.tb (adoptedStep m clearing g s)).tb.epoch != s.tb.epoch)
    ⟨0 < (trunkChanged s.tb (adoptedStep m clearing g s)).cs.held.outbye,
      0 < (trunkChanged s.tb (adoptedStep m clearing g s)).cs.held.inbye⟩ hepoch
  rw [← hround] at htaken
  have hcheld : (trunkChanged s.tb (adoptedStep m clearing g s)).cs.held = s.cs.held := hchanged.held.trans hheld
  have hcremote : (trunkChanged s.tb (adoptedStep m clearing g s)).cs.remote
      = if m.epoch = s.tb.epoch then s.cs.remote else ⟨⟨.normal, 0⟩, ⟨.normal, 0⟩⟩ := (hchanged.same .remote (by decide)).trans hremote
  have hcsbm : (trunkChanged s.tb (adoptedStep m clearing g s)).sbm = s.sbm := (hchanged.block .sbm).trans hsbm
  generalize markerRound smp m (fun t => adoptMarker m clearing (t.updTb g)) s = t at *
  exact {
    adopted := by constructor <;> rw [htimed.tb] <;> rfl
    round := by
      constructor <;> rw [htimed.tb]
      · exact hg.running _
      · exact hg.tick _
      · exact hg.phase _
    neighbour := htaken.neighbour
    outbye := htaken.outbye
    held := by rw [htaken.held, hcheld]
    latch := fun hc => by
      obtain ⟨hcalm, heq⟩ := hlatch ⟨hc.override, hc.gas⟩
      obtain ⟨hcalm', heq'⟩ := hchanged.latchKept.kept hcalm
      obtain ⟨h1, h2⟩ := hc.buses
      rw [htaken.latch hcalm' (hcsbm ▸ h1) (hcsbm ▸ h2), heq', heq, latchAfter]
    renewed := fun hne => by
      have hinbye := htaken.inbye (by rw [← hepoch]; simpa using hne)
      rw [hcremote, if_neg hne] at hinbye
      exact ⟨PerLine.ext htaken.outbye hinbye, htaken.level⟩
    config := heff.config
    pending := heff.pending }

end

end Sys2Proof.Machine
end

section
/-! PROOFS. Markers in CARRY, LISTEN and JOIN (1.3 to 1.5). -/

namespace Sys2Proof.Machine

-- Declarations are elaborated one after another: in a text of this length the threads of many at once would not fit the memory limit.
set_option Elab.async false

/-! ## A well-formed marker, and the marks it meets (R6, R26) -/

section
variable {cell : Bytes} {smp : Samples} {m : Marker} {s t : State} {clearing : Bool}

theorem marker_goes (h : MarkerCell cell m s) : Goes (.markerReceived cell smp) s (markGood .outbye (markerEvent smp m s)) := by
  obtain ⟨hrole, hgood, hkind, hlength, rfl, hlead⟩ := h
  have hhead : s.isHead = false := by simp [State.isHead, hrole]
  have hk : (decodeCell cell).kind = kMarker := hkind
  have hl : rawLength cell = 7 := hlength
  refine .of_eq (t := cellZeroOutbye cell smp s) ?_
  unfold cellZeroOutbye
  simp [hhead, hgood, hk, hl, hlead, kMarker, kIdle]

theorem AdoptedRound.good (h : AdoptedRound smp m clearing s t) : AdoptedRound smp m clearing s (markGood .outbye t) where
  adopted := ⟨h.adopted.trunk, h.adopted.lead, h.adopted.flags, h.adopted.epoch⟩
  round := ⟨h.round.running, h.round.tick, h.round.phase⟩
  neighbour := h.neighbour
  outbye := h.outbye
  held := h.held
  latch := h.latch
  renewed := h.renewed
  config := ⟨h.config.node, h.config.lines, h.config.channels, h.config.refuges, h.config.calls, h.config.block, h.config.notices, h.config.supply⟩
  pending := h.pending

theorem TimedBy.good {b : TimeBase} (h : TimedBy b t) : TimedBy b (markGood .outbye t) := ⟨h.tb⟩

theorem near_iff {a b : Nat} : near a b = true ↔ a ≤ b + 4 ∧ b ≤ a + 4 := by simp [near]

theorem near_round_iff {a : Nat} : near a 256 = true ↔ 252 ≤ a ∧ a ≤ 260 := by
  rw [near_iff]
  omega

theorem validEarly_iff {b : TimeBase} : validEarly b m = true ↔ 252 ≤ b.phaseAge ∧ b.phaseAge ≤ 260 ∧ m.round = (b.running + 1) % 4096 := by
  rw [validEarly, Bool.and_eq_true, windowOpen, near_round_iff, beq_iff_eq, nextRound, and_assoc]

/-! ## Adoption in CARRY (R9) -/

theorem carryMarker_valid (hp : s.tb.pendingCmd = none) (hv : validEarly s.tb m = true) :
    AdoptedRound smp m (decide (s.tb.lead = some m.lead)) s (carryMarker smp m s) := by
  rw [carryMarker, if_pos hv]
  exact adoptRound (g := fun b => b) _ hp .id

/-! ## The hunt (R7, R8) -/

theorem huntOver_iff {b : TimeBase} : huntOver (huntCounts (quietRound smp) b) = true
    ↔ b.params.listenTimeout * b.params.noiseFactor ≤ b.listenAge + 1
      ∨ b.params.listenTimeout ≤ (if smp.carrier.outbye = .absent then b.quietCnt + 1 else 0) := by
  simp only [huntOver, huntCounts, quietRound, Bool.or_eq_true, decide_eq_true_eq]
  exact or_comm

theorem huntLimit_over {b : TimeBase} (hj : b.trunk = .join) (h : huntOver b = true) : huntLimit b = enterIsland b := by
  simp [huntLimit, hj, h]

theorem huntLimit_within {b : TimeBase} (h : huntOver b = false) : huntLimit b = b := by simp [huntLimit, h]

/-- The round start of a marker at which a hunt limit is reached. -/
structure HuntEnds (m : Marker) (s t : State) : Prop where
  round : RoundFrom m t
  trunk : t.tb.trunk = .islandLead
  lead : t.tb.lead = some s.tb.address
  epoch : t.tb.epoch = s.tb.epoch
  rejoin : t.tb.rejoin.count = 0

/-- The Time Base as a marker that starts a run leaves it, before the limits are judged. -/
def runStarted (smp : Samples) (m : Marker) (b : TimeBase) : TimeBase :=
  startRun (huntCounts (quietRound smp) (openedAt m.round none b)) m

/-- The Time Base as a marker that extends the run leaves it, before the limits are judged. -/
def runExtended (smp : Samples) (m : Marker) (b : TimeBase) : TimeBase := joinCounts (quietRound smp) (openedAt m.round none b)

theorem HuntEnds.of_timed {b : TimeBase} (h : TimedBy (enterIsland b) t) (hr : b.running = m.round) (ht : b.tick = 0) (hph : b.phaseAge = 0)
    (ha : b.address = s.tb.address) (he : b.epoch = s.tb.epoch) : HuntEnds m s t := by
  refine ⟨⟨?_, ?_, ?_⟩, ?_, ?_, ?_, ?_⟩ <;> rw [h.tb]
  · exact hr
  · exact ht
  · exact hph
  · rfl
  · exact congrArg some ha
  · exact he
  · rfl

theorem huntMarker_timed (hp : s.tb.pendingCmd = none) : TimedBy (huntLimit (runStarted smp m s.tb)) (huntMarker smp m s) :=
  stepRound_timed (fun b => huntLimit (startRun (huntCounts (quietRound smp) b) m)) hp

theorem huntMarker_over (hp : s.tb.pendingCmd = none) (h : huntOver (huntCounts (quietRound smp) s.tb) = true) :
    HuntEnds m s (huntMarker smp m s) := by
  have htimed := huntMarker_timed (smp := smp) (m := m) hp
  rw [huntLimit_over (b := runStarted smp m s.tb) rfl h] at htimed
  exact .of_timed htimed rfl rfl rfl rfl rfl

theorem huntMarker_within (hp : s.tb.pendingCmd = none) (h : huntOver (huntCounts (quietRound smp) s.tb) = false) :
    TimedBy (runStarted smp m s.tb) (huntMarker smp m s) := by
  have htimed := huntMarker_timed (smp := smp) (m := m) hp
  rw [huntLimit_within (b := runStarted smp m s.tb) h] at htimed
  exact htimed

/-- Whether a marker in JOIN extends the run of the hunt. -/
def extendsHunt (m : Marker) (b : TimeBase) : Bool := b.joinCnt != 0 && validEarly b m && m.lead = b.runLead

theorem extendsHunt_iff {b : TimeBase} : extendsHunt m b = true ↔ b.joinCnt ≠ 0 ∧ validEarly b m = true ∧ m.lead = b.runLead := by
  simp [extendsHunt, and_assoc]

theorem joinMarker_starts (h : extendsHunt m s.tb = false) : joinMarker smp m s = huntMarker smp m s := by
  rw [joinMarker, if_neg (by simpa [extendsHunt] using h)]

theorem joinMarker_counts (hx : extendsHunt m s.tb = true) (hp : s.tb.pendingCmd = none)
    (h : s.tb.joinCnt + 1 < s.tb.params.joinCount ∨ huntOver (huntCounts (quietRound smp) s.tb) = true) :
    TimedBy (huntLimit (runExtended smp m s.tb)) (joinMarker smp m s) := by
  have hjoin : joinMarker smp m s = markerRound smp m (fun t => t.updTb fun b => huntLimit (joinCounts (quietRound smp) b)) s := by
    rw [joinMarker, if_pos (by simpa [extendsHunt] using hx)]
    refine if_neg fun hboth => ?_
    obtain ⟨hreached, hwithin⟩ := Bool.and_eq_true_iff.mp hboth
    obtain hshort | hover := h
    · exact absurd (of_decide_eq_true hreached) (Nat.not_le.mpr hshort)
    · have hcounts : huntOver (joinCounts (quietRound smp) s.tb) = true := hover
      simp [hcounts] at hwithin
  rw [hjoin]
  exact stepRound_timed (fun b => huntLimit (joinCounts (quietRound smp) b)) hp

theorem joinMarker_completes (hx : extendsHunt m s.tb = true) (hp : s.tb.pendingCmd = none) (h : s.tb.params.joinCount ≤ s.tb.joinCnt + 1)
    (hw : huntOver (huntCounts (quietRound smp) s.tb) = false) : AdoptedRound smp m false s (joinMarker smp m s) := by
  have hcounts : huntOver (joinCounts (quietRound smp) s.tb) = false := hw
  have hjoin : joinMarker smp m s = markerRound smp m (fun t => adoptMarker m false (t.updTb (joinCounts (quietRound smp)))) s := by
    rw [joinMarker, if_pos (by simpa [extendsHunt] using hx)]
    exact if_pos (by simp [h, hcounts])
  rw [hjoin]
  exact adoptRound false hp (keepsRound_joinCounts _)

/-- R7: a hunt limit reached at the round start of a marker goes first. -/
theorem hunting_over (ht : s.tb.trunk = .listen ∨ s.tb.trunk = .join) (hp : s.tb.pendingCmd = none)
    (h : huntOver (huntCounts (quietRound smp) s.tb) = true) : HuntEnds m s (markerEvent smp m s) := by
  unfold markerEvent
  obtain ht | ht := ht
  · simp only [ht]
    exact huntMarker_over hp h
  · simp only [ht]
    cases hx : extendsHunt m s.tb with
    | false => rw [joinMarker_starts hx]; exact huntMarker_over hp h
    | true =>
      have htimed := joinMarker_counts hx hp (.inr h)
      have hover : huntOver (runExtended smp m s.tb) = true := h
      rw [huntLimit_over (b := runExtended smp m s.tb) ht hover] at htimed
      exact .of_timed htimed rfl rfl rfl rfl rfl

theorem hunting_starts (ht : s.tb.trunk = .listen ∨ (s.tb.trunk = .join ∧ extendsHunt m s.tb = false)) (hp : s.tb.pendingCmd = none)
    (h : huntOver (huntCounts (quietRound smp) s.tb) = false) : TimedBy (runStarted smp m s.tb) (markerEvent smp m s) := by
  unfold markerEvent
  obtain ht | ⟨ht, hx⟩ := ht
  · simp only [ht]
    exact huntMarker_within hp h
  · simp only [ht]
    rw [joinMarker_starts hx]
    exact huntMarker_within hp h

end

/-- Settles O6: in CARRY a valid marker is adopted at the round start it produces; in LISTEN and JOIN the hunt limits go before the
run and its join count. -/
theorem markerCarries : Obligations.MarkerCarries := by
  intro cell smp s m hcell hp
  have hgoes := marker_goes (smp := smp) hcell
  refine ⟨validEarly_iff, fun ht hv => ?_, fun ht hover => ?_, fun hage hquiet => ⟨fun ht => ?_, fun ht hcnt hv hlead => ⟨fun hshort => ?_, fun hfull => ?_⟩⟩⟩
  · have hevent : markerEvent smp m s = carryMarker smp m s := by simp only [markerEvent, ht]
    rw [hevent] at hgoes
    have hround := (carryMarker_valid (smp := smp) hp hv).good
    exact ⟨_, hgoes, hround.adopted, hround.round, hround.neighbour, hround.outbye, hround.held, hround.latch, hround.renewed, hround.config, hround.pending⟩
  · obtain ⟨⟨hr, htick, hphase⟩, htrunk, hlead, hepoch, hrejoin⟩ := hunting_over (m := m) ht hp (huntOver_iff.mpr hover)
    exact ⟨_, hgoes, ⟨hr, htick, hphase⟩, htrunk, hlead, hepoch, hrejoin⟩
  all_goals
    have hwithin : huntOver (huntCounts (quietRound smp) s.tb) = false := by
      rw [Bool.eq_false_iff, Ne, huntOver_iff]
      omega
  · have hstart : s.tb.trunk = .listen ∨ (s.tb.trunk = .join ∧ extendsHunt m s.tb = false) := by
      refine ht.imp_right fun ⟨hj, hnot⟩ => ⟨hj, ?_⟩
      rw [Bool.eq_false_iff, Ne, extendsHunt_iff]
      rintro ⟨hcnt, hv, hlead⟩
      obtain h | h | h := hnot
      · exact hcnt h
      · rw [h] at hv; cases hv
      · exact h hlead
    have htimed := hunting_starts hstart hp hwithin
    refine ⟨_, hgoes, ⟨?_, ?_, ?_⟩, ?_, ?_, ?_, ?_, ?_, ?_⟩ <;> rw [htimed.good.tb] <;> rfl
  · have hx := extendsHunt_iff.mpr ⟨hcnt, hv, hlead⟩
    have hevent : markerEvent smp m s = joinMarker smp m s := by simp only [markerEvent, ht]
    rw [hevent] at hgoes
    have htimed := joinMarker_counts (smp := smp) hx hp (.inl hshort)
    rw [huntLimit_within (b := runExtended smp m s.tb) hwithin] at htimed
    refine ⟨_, hgoes, ⟨?_, ?_, ?_⟩, ?_, ?_, ?_, ?_, ?_⟩ <;> rw [htimed.good.tb]
    · rfl
    · rfl
    · rfl
    · exact ht
    · rfl
    · rfl
    · rfl
    · rfl
  · have hx := extendsHunt_iff.mpr ⟨hcnt, hv, hlead⟩
    have hevent : markerEvent smp m s = joinMarker smp m s := by simp only [markerEvent, ht]
    rw [hevent] at hgoes
    have hround := (joinMarker_completes (smp := smp) hx hp hfull hwithin).good
    exact ⟨_, hgoes, hround.round, hround.adopted, hround.config, hround.latch, hround.renewed⟩

end Sys2Proof.Machine
end

section
/-! PROOFS. The close of the marker window, stray and bad markers, and markers in HOLDOVER and ISLAND_LEAD (1.3, 1.5 to 1.7). -/

namespace Sys2Proof.Machine

-- Declarations are elaborated one after another: in a text of this length the threads of many at once would not fit the memory limit.
set_option Elab.async false

section
variable {cell : Bytes} {smp : Samples} {m : Marker} {s t : State} {clearing : Bool} {b : TimeBase}

/-! ## The Time Base where no round starts -/

/-- The Time Base as given, but for a change that leaves round, lead address and epoch. -/
theorem RoundGoesOn.of_timed (h : TimedBy b t) (hr : b.running = s.tb.running) (ht : b.tick = s.tb.tick) (hp : b.phaseAge = s.tb.phaseAge)
    (hl : b.lead = s.tb.lead) (he : b.epoch = s.tb.epoch) : RoundGoesOn s t := by
  constructor <;> rw [h.tb]
  · exact hr
  · exact ht
  · exact hp
  · exact hl
  · exact he

theorem takeMarker_timed (m : Marker) (s : State) : TimedBy s.tb (takeMarker m s) := ⟨(takeMarker_effect m s).stampsOnly⟩

/-! ## The window closes (R9) -/

theorem closeStep_carry {quiet : Bool} (h : b.trunk = .carry) : closeStep quiet b = enterHoldover b none := by simp only [closeStep, h]

theorem closeWindow_timed (ht : s.tb.trunk = .carry) (hp : s.tb.pendingCmd = none) :
    TimedBy (enterHoldover (openedAt (nextRound s.tb.running) none (advanceTicks (260 - s.tb.phaseAge) s).tb) none) (closeWindow smp s) := by
  have hown : ¬ ownTimed s.tb = true := by simp [ownTimed, ht]
  rw [closeWindow, if_neg hown]
  refine roundWork_timed fun t htb => ?_
  have hpending : t.tb.pendingCmd = none := by rw [htb]; exact hp
  have htrunk : t.tb.trunk = .carry := by rw [htb]; exact ht
  rw [trunkStep_free hpending, trunkChanged_tb, State.updTb, closeStep_carry htrunk, htb]
  rfl

/-! ## Bad markers (R6, R8, R9, R11) -/

/-- A run of the hunt is over. -/
def runEnded (b : TimeBase) : TimeBase := { b with joinCnt := 0 }

/-- A rejoin run is over. -/
def rejoinEnded (b : TimeBase) : TimeBase := { b with rejoin := noRun }

/-- What a bad marker does to the Time Base. -/
def badStep (b : TimeBase) : TimeBase :=
  match b.trunk with
  | .carry => if inWindow b then enterHoldover b none else b
  | .join => if inWindow b then runEnded b else b
  | .islandLead => if near b.rejoin.age 256 then rejoinEnded b else b
  | _ => b

/-- R14: the entry to HOLDOVER leaves the Cell Switch as it is. -/
theorem trunkChanged_holdover_cs {old : TimeBase} (h : s.tb.trunk = .holdover) : (trunkChanged old s).cs = s.cs := by
  have hpost (c : Bool) : (if c = true then postTrunk old.trunk s else s).cs = s.cs := by
    split
    · exact postBoth_cs ..
    · rfl
  unfold trunkChanged
  simp only [h]
  split <;> exact hpost _

theorem badMarker_tb (s : State) : (badMarker s).tb = badStep s.tb ∧ (badMarker s).cs = s.cs := by
  unfold badMarker badStep
  simp only
  generalize s.tb.trunk = k
  cases k
  case carry =>
    dsimp only
    split
    · exact ⟨trunkChanged_tb _ _, trunkChanged_holdover_cs rfl⟩
    · exact ⟨rfl, rfl⟩
  case join =>
    dsimp only
    split <;> exact ⟨rfl, rfl⟩
  case islandLead =>
    dsimp only
    split <;> exact ⟨rfl, rfl⟩
  all_goals exact ⟨rfl, rfl⟩

theorem badStep_goesOn (b : TimeBase) : (badStep b).running = b.running ∧ (badStep b).tick = b.tick ∧ (badStep b).phaseAge = b.phaseAge
    ∧ (badStep b).lead = b.lead ∧ (badStep b).epoch = b.epoch := by
  unfold badStep
  split
  · split <;> exact ⟨rfl, rfl, rfl, rfl, rfl⟩
  · split <;> exact ⟨rfl, rfl, rfl, rfl, rfl⟩
  · split <;> exact ⟨rfl, rfl, rfl, rfl, rfl⟩
  · exact ⟨rfl, rfl, rfl, rfl, rfl⟩

theorem inWindow_of_near (h : 252 ≤ b.phaseAge ∧ b.phaseAge ≤ 260) : inWindow b = true := by
  rw [inWindow, windowOpen, near_round_iff.mpr h, Bool.true_or]

/-- R36: a bad cell latches CRC_ERRORS. -/
theorem badCell_crcErrors (c : Cell) (s : State) : (badCell .outbye c s).cs.status.outbye.crcErrors = true := by
  have hlatched : (latchInd .outbye .crcErrors s).cs.status.outbye.crcErrors = true := by rw [latchInd_cs]; rfl
  unfold badCell
  simp only
  split <;> exact hlatched

theorem badMarker_goes (hj : s.tb.role = .junction) (hbad : crcGood cell = false) :
    Goes (.markerReceived cell smp) s (badMarker (badCell .outbye (decodeCell cell) s)) := by
  have hhead : s.isHead = false := by simp [State.isHead, hj]
  refine .of_eq (t := cellZeroOutbye cell smp s) ?_
  unfold cellZeroOutbye
  simp [hhead, hbad]

/-! ## What makes a marker valid, confirming or extending (R6, R10, R11) -/

theorem validLate_iff : validLate b m = true ↔ b.trunk = .holdover ∧ m.round = b.running ∧ ∃ k, b.lateUntil = some k ∧ b.phaseAge ≤ k := by
  unfold validLate lateOpen
  cases b.lateUntil with
  | none => simp
  | some k =>
    simp only [Bool.and_eq_true, decide_eq_true_eq, beq_iff_eq, Option.some.injEq, exists_eq_left']
    tauto

theorem confirms_iff : confirms b m = true ↔ ∃ c, b.candidate = some c ∧ 252 ≤ c.age ∧ c.age ≤ 260 ∧ m.round = (c.round + 1) % 4096 := by
  unfold confirms
  cases b.candidate with
  | none => simp
  | some c => simp [near_round_iff, nextRound, and_assoc]

theorem extendsRun_iff : extendsRun b m = true ↔ b.rejoin.count ≠ 0 ∧ 252 ≤ b.rejoin.age ∧ b.rejoin.age ≤ 260
    ∧ m.round = (b.rejoin.round + 1) % 4096 ∧ m.lead = b.rejoin.lead := by
  simp [extendsRun, near_round_iff, nextRound, and_assoc]

/-! ## A valid marker in the late half of the window (R10) -/

/-- What the adoption of a marker leaves where no round starts. -/
structure AdoptedLate (m : Marker) (clearing : Bool) (s t : State) : Prop where
  adopted : Adopted m t
  running : t.tb.running = s.tb.running
  tick : t.tb.tick = s.tb.tick
  phase : t.tb.phaseAge = 0
  renewed : EpochTaken m s t
  latch : s.tu.ovr.state = .none → t.sau.latch = latchAfter clearing m s

/-- R107: where no override is in force, the level of a marker moves the latch by EVACUATE alone. -/
theorem takeMarker_latch_of_none (h : m.epoch = s.tb.epoch) (ho : s.tu.ovr.state = .none) :
    (takeMarker m s).sau.latch = (s.sau.latch || decide (m.level = .evacuate)) := by
  have heff := markerNoted_effect m s
  have hovr : (markerNoted m s).tu.ovr = s.tu.ovr := heff.same .ovr (by decide)
  have hlatch : (markerNoted m s).sau.latch = s.sau.latch := heff.same .latch (by decide)
  have hlevel (t : State) (ht : t.tu.ovr.state = .none) : (sauDerive ((t.updCs fun c => { c with
      remote := c.remote.set .outbye { level := m.level, age := 0 } }).updSau fun a => { a with latch := a.latch || m.level = .evacuate })).sau.latch
      = (t.sau.latch || decide (m.level = .evacuate)) := by
    rw [sauDerive_of_none (s := (t.updCs fun c => { c with
      remote := c.remote.set .outbye { level := m.level, age := 0 } }).updSau fun a => { a with latch := a.latch || m.level = .evacuate }) ht]
    exact (deriveLevel_effect _).same .latch (by decide)
  rw [takeMarker_eq, takeLevel, if_pos (h.trans (heff.same .epoch (by decide)).symm), ← hlatch]
  exact hlevel _ (by rw [hovr]; exact ho)

theorem lateMarker_adopted : AdoptedLate m clearing s
    (takeMarker m (trunkChanged s.tb (adoptMarker m clearing (s.updTb fun t => { t with phaseAge := 0 })))) := by
  have htb := adoptMarker_tb m clearing (s.updTb fun t => { t with phaseAge := 0 })
  obtain ⟨hcs, hsau, htu, -⟩ := adoptMarker_frame m clearing (s.updTb fun t => { t with phaseAge := 0 })
  generalize adoptMarker m clearing (s.updTb fun t => { t with phaseAge := 0 }) = u at *
  have hchanged := trunkChanged_effect s.tb u
  have hctb : (trunkChanged s.tb u).tb = u.tb := trunkChanged_tb _ _
  generalize trunkChanged s.tb u = v at *
  have hepoch : m.epoch = v.tb.epoch := by rw [hctb, htb]
  have htimed := (takeMarker_timed m v).tb
  have hremote := takeMarker_remote hepoch
  have hderived := takeMarker_derived hepoch
  have hvremote : v.cs.remote = u.cs.remote := hchanged.same .remote (by decide)
  have hvovr : v.tu.ovr = u.tu.ovr := hchanged.same .ovr (by decide)
  have hvlatch : v.sau.latch = u.sau.latch := hchanged.same .latch (by decide)
  rw [hctb, htb] at htimed
  exact {
    adopted := by constructor <;> rw [htimed] <;> rfl
    running := by rw [htimed]; rfl
    tick := by rw [htimed]; rfl
    phase := by rw [htimed]; rfl
    renewed := fun hne => ⟨by rw [hremote, hvremote, hcs]; simp [hne, PerLine.set], hderived⟩
    latch := fun ho => by
      rw [takeMarker_latch_of_none hepoch (by rw [hvovr, htu]; exact ho), hvlatch, hsau]
      rfl }

theorem AdoptedLate.good (h : AdoptedLate m clearing s t) : AdoptedLate m clearing s (markGood .outbye t) where
  adopted := ⟨h.adopted.trunk, h.adopted.lead, h.adopted.flags, h.adopted.epoch⟩
  running := h.running
  tick := h.tick
  phase := h.phase
  renewed := h.renewed
  latch := h.latch

/-! ## Markers by the trunk state (R9 to R11) -/

/-- The Time Base as a marker that is not adopted leaves it in CARRY. -/
def strayed (m : Marker) (b : TimeBase) : TimeBase := enterHoldover b (some { round := m.round, age := 0 })

theorem carryMarker_stray (h : validEarly s.tb m = false) : TimedBy (strayed m s.tb) (carryMarker smp m s) := by
  have htimed := takeMarker_timed m (trunkChanged s.tb (s.updTb fun t => enterHoldover t (some { round := m.round, age := 0 })))
  rw [trunkChanged_tb] at htimed
  rw [carryMarker, if_neg (by simp [h])]
  exact htimed

theorem holdoverMarker_adopts (hp : s.tb.pendingCmd = none)
    (h : validEarly s.tb m = true ∨ (validLate s.tb m = false ∧ confirms s.tb m = true)) :
    AdoptedRound smp m (decide (s.tb.lead = some m.lead)) s (holdoverMarker smp m s) := by
  have hround := adoptRound (smp := smp) (m := m) (g := fun b => b) (decide (s.tb.lead = some m.lead)) hp .id
  cases he : validEarly s.tb m with
  | true =>
    rw [holdoverMarker, if_pos he]
    exact hround
  | false =>
    obtain h | ⟨hl, hc⟩ := h
    · rw [he] at h; cases h
    · rw [holdoverMarker, if_neg (by simp [he]), if_neg (by simp [hl]), if_pos hc]
      exact hround

theorem holdoverMarker_late (he : validEarly s.tb m = false) (hl : validLate s.tb m = true) :
    AdoptedLate m (decide (s.tb.lead = some m.lead)) s (holdoverMarker smp m s) := by
  rw [holdoverMarker, if_neg (by simp [he]), if_pos hl]
  exact lateMarker_adopted

theorem holdoverMarker_candidate (he : validEarly s.tb m = false) (hl : validLate s.tb m = false) (hc : confirms s.tb m = false) :
    TimedBy { s.tb with candidate := some { round := m.round, age := 0 } } (holdoverMarker smp m s) := by
  rw [holdoverMarker, if_neg (by simp [he]), if_neg (by simp [hl]), if_neg (by simp [hc])]
  exact takeMarker_timed m (s.updTb fun t => { t with candidate := some { round := m.round, age := 0 } })

theorem islandMarker_adopts (hp : s.tb.pendingCmd = none) (hx : extendsRun s.tb m = true)
    (h : s.tb.params.joinCount ≤ s.tb.rejoin.count + 1) : AdoptedRound smp m false s (islandMarker smp m s) := by
  have hround := adoptRound (smp := smp) (m := m) (g := fun b => b) false hp .id
  unfold islandMarker
  simp only [hx, if_true, Bool.true_and, h, decide_true]
  exact hround

/-- The rejoin run with a count, as a marker leaves it. -/
def rejoining (n : Nat) (m : Marker) (b : TimeBase) : TimeBase := { b with rejoin := { count := n, lead := m.lead, round := m.round, age := 0 } }

theorem rejoining_timed (n : Nat) (m : Marker) (s : State) : TimedBy (rejoining n m s.tb)
    (takeMarker m (s.updTb fun t => { t with rejoin := { count := n, lead := m.lead, round := m.round, age := 0 } })) :=
  takeMarker_timed m (s.updTb fun t => { t with rejoin := { count := n, lead := m.lead, round := m.round, age := 0 } })

theorem islandMarker_extends (hx : extendsRun s.tb m = true) (h : s.tb.rejoin.count + 1 < s.tb.params.joinCount) :
    TimedBy (rejoining (s.tb.rejoin.count + 1) m s.tb) (islandMarker smp m s) := by
  unfold islandMarker
  simp only [hx, if_true, Bool.true_and, decide_eq_true_eq, if_neg (Nat.not_le.mpr h)]
  exact rejoining_timed ..

theorem islandMarker_starts (hx : extendsRun s.tb m = false) : TimedBy (rejoining 1 m s.tb) (islandMarker smp m s) := by
  unfold islandMarker
  simp only [hx, Bool.false_and, Bool.false_eq_true, if_false]
  exact rejoining_timed ..

end

/-! ## The obligation -/

theorem windowClose_entersHoldover {smp : Samples} {s : State} (ht : s.tb.trunk = .carry) (hp : s.tb.pendingCmd = none) :
    ∃ t, Goes (.markerWindowClose smp) s t ∧ t.tb.trunk = .holdover ∧ t.tb.holdoverCnt = 0 ∧ t.tb.candidate = none
      ∧ t.tb.lead = s.tb.lead ∧ t.tb.epoch = s.tb.epoch ∧ t.tb.tick = 0 ∧ t.tb.running = (s.tb.running + 1) % 4096
      ∧ ConfigKept s t ∧ t.pending = s.pending := by
  have htimed := (closeWindow_timed (smp := smp) ht hp).tb
  have heff := closeWindow_effect smp s
  refine ⟨closeWindow smp s, rfl, ?_, ?_, ?_, ?_, ?_, ?_, ?_, heff.config, heff.pending⟩ <;> rw [htimed] <;> rfl

theorem badMarker_entersHoldover {cell : Bytes} {smp : Samples} {s : State} (hj : s.tb.role = .junction) (hbad : crcGood cell = false) :
    ∃ t, Goes (.markerReceived cell smp) s t ∧ RoundGoesOn s t ∧ t.cs.status.outbye.crcErrors = true
      ∧ (s.tb.trunk = .carry → (252 ≤ s.tb.phaseAge ∧ s.tb.phaseAge ≤ 260) →
          t.tb.trunk = .holdover ∧ t.tb.holdoverCnt = 0 ∧ t.tb.candidate = none)
      ∧ (s.tb.trunk = .join → (252 ≤ s.tb.phaseAge ∧ s.tb.phaseAge ≤ 260) → t.tb = { s.tb with joinCnt := 0 })
      ∧ (s.tb.trunk = .islandLead → 252 ≤ s.tb.rejoin.age → s.tb.rejoin.age ≤ 260 →
          t.tb.trunk = .islandLead ∧ t.tb.rejoin.count = 0)
      ∧ ((s.tb.trunk = .listen ∨ s.tb.trunk = .holdover) → t.tb = s.tb) := by
  obtain ⟨htb, hcs⟩ := badMarker_tb (badCell .outbye (decodeCell cell) s)
  have hcell : (badCell .outbye (decodeCell cell) s).tb = s.tb := (badCell_effect ..).block .tb
  rw [hcell] at htb
  obtain ⟨hrunning, htick, hphase, hlead, hepoch⟩ := badStep_goesOn s.tb
  refine ⟨_, badMarker_goes hj hbad, ⟨by rw [htb]; exact hrunning, by rw [htb]; exact htick, by rw [htb]; exact hphase, by rw [htb]; exact hlead,
    by rw [htb]; exact hepoch⟩, by rw [hcs]; exact badCell_crcErrors .., fun ht hw => ?_, fun ht hw => ?_, fun ht h1 h2 => ?_, fun ht => ?_⟩ <;> rw [htb]
  · have hstep : badStep s.tb = enterHoldover s.tb none := by simp only [badStep, ht, inWindow_of_near hw, if_true]
    rw [hstep]
    exact ⟨rfl, rfl, rfl⟩
  · have hstep : badStep s.tb = runEnded s.tb := by simp only [badStep, ht, inWindow_of_near hw, if_true]
    rw [hstep]
    rfl
  · have hstep : badStep s.tb = rejoinEnded s.tb := by simp only [badStep, ht, near_round_iff.mpr ⟨h1, h2⟩, if_true]
    rw [hstep]
    exact ⟨ht, rfl⟩
  · obtain ht | ht := ht <;> simp only [badStep, ht]

/-- Settles O7: by the trunk state in which the window closes or a marker comes. -/
theorem windowCloseEntersHoldover : Obligations.WindowCloseEntersHoldover := by
  refine ⟨fun smp s => windowClose_entersHoldover, fun cell smp s => badMarker_entersHoldover, fun cell smp s m hcell hp => ?_⟩
  have hgoes := marker_goes (smp := smp) hcell
  refine ⟨fun ht hstray => ?_, validLate_iff, confirms_iff, fun ht => ?_, extendsRun_iff, fun ht => ?_⟩
  · have hevent : markerEvent smp m s = carryMarker smp m s := by simp only [markerEvent, ht]
    rw [hevent] at hgoes
    have htimed := (carryMarker_stray (smp := smp) hstray).good
    refine ⟨_, hgoes, .of_timed htimed rfl rfl rfl rfl rfl, ?_, ?_, ?_⟩ <;> rw [htimed.tb] <;> rfl
  · have hevent : markerEvent smp m s = holdoverMarker smp m s := by simp only [markerEvent, ht]
    rw [hevent] at hgoes
    refine ⟨fun he => ?_, fun he hl => ?_, fun he hl hc => ?_, fun he hl hc => ?_⟩
    · have hround := (holdoverMarker_adopts (smp := smp) hp (.inl he)).good
      exact ⟨_, hgoes, hround.adopted, hround.round, hround.latch, hround.renewed⟩
    · have hlate := (holdoverMarker_late (smp := smp) he hl).good
      exact ⟨_, hgoes, hlate.adopted, hlate.running, hlate.tick, hlate.phase, hlate.renewed, hlate.latch⟩
    · have hround := (holdoverMarker_adopts (smp := smp) hp (.inr ⟨hl, hc⟩)).good
      exact ⟨_, hgoes, hround.adopted, hround.round, hround.latch, hround.renewed⟩
    · have htimed := (holdoverMarker_candidate (smp := smp) he hl hc).good
      refine ⟨_, hgoes, .of_timed htimed rfl rfl rfl rfl rfl, ?_, ?_⟩ <;> rw [htimed.tb]
      exact ht
  · have hevent : markerEvent smp m s = islandMarker smp m s := by simp only [markerEvent, ht]
    rw [hevent] at hgoes
    refine ⟨fun hx hfull => ?_, fun hx hshort => ?_, fun hx => ?_⟩
    · have hround := (islandMarker_adopts (smp := smp) hp hx hfull).good
      exact ⟨_, hgoes, hround.adopted, hround.round, hround.latch, hround.renewed⟩
    · have htimed := (islandMarker_extends (smp := smp) hx hshort).good
      refine ⟨_, hgoes, .of_timed htimed rfl rfl rfl rfl rfl, ?_, ?_⟩ <;> rw [htimed.tb]
      · exact ht
      · rfl
    · have htimed := (islandMarker_starts (smp := smp) hx).good
      refine ⟨_, hgoes, .of_timed htimed rfl rfl rfl rfl rfl, ?_, ?_⟩ <;> rw [htimed.tb]
      · exact ht
      · rfl

end Sys2Proof.Machine
end

section
/-! PROOFS. What the work of a round start keeps until the positions are filled: the queues, and the calls but for those it ends
(2.3, 7.5, log 3). -/

namespace Sys2Proof.Machine

-- Declarations are elaborated one after another: in a text of this length the threads of many at once would not fit the memory limit.
set_option Elab.async false

/-! ## The work of a round start sends cells, and leaves the Cell Switch alone otherwise -/

namespace Carried

variable {R : State → State → Prop} (h : Carried R)
include h

theorem sendIf (b : Prop) [Decidable b] (kind dst : Nat) (p : Bytes) (s : State) : R s (if b then s else sendTo kind dst p s) := by
  split
  · exact h.refl s
  · exact h.send ..

theorem postIf (b : Prop) [Decidable b] (k : NoticeKind) (d : Bytes) (s : State) : R s (if b then s else postBoth k d s) := by
  split
  · exact h.refl s
  · exact h.of_cs (postBoth_cs ..)

variable (s : State)

theorem sendRefugeReport (r : Fin 4) (x : RefugeReasons) : R s (sendRefugeReport r x s) := by
  unfold Machine.sendRefugeReport
  exact h.before (h.send ..) rfl

theorem reportRefuge (r : Fin 4) (old : Refuge) : R s (reportRefuge r old s) := by
  unfold Machine.reportRefuge
  simp only
  split
  · exact h.after (h.sendRefugeReport ..) rfl
  split
  · exact h.after (h.sendRefugeReport ..) rfl
  · exact h.refl s

theorem refugeMiss (r : Fin 4) : R s (refugeMiss r s) := by
  unfold Machine.refugeMiss
  exact h.after (h.reportRefuge ..) rfl

theorem refugeReportTick (r : Fin 4) : R s (refugeReportTick r s) := by
  unfold Machine.refugeReportTick
  split
  · exact h.sendRefugeReport ..
  split <;> exact h.of_cs rfl

theorem airEvent (i : Fin 16) (a b : Option ChannelInput) : R s (airEvent i a b s) := by
  unfold Machine.airEvent
  split
  · split
    · split
      · exact h.after (h.sendRefugeReport ..) rfl
      · exact h.refl s
    · exact h.refl s
  · exact h.refl s

theorem reportChannel (i : Fin 16) (old : Channel) : R s (reportChannel i old s) := by
  unfold Machine.reportChannel
  simp only
  exact h.trans (h.trans (h.postIf ..) (h.sendIf ..)) (h.postIf ..)

theorem reportTick (i : Fin 16) : R s (reportTick i s) := by
  unfold Machine.reportTick
  simp only
  split
  · split
    · exact h.of_cs rfl
    · exact h.after (h.send ..) rfl
  · split
    · split <;> exact h.of_cs rfl
    · exact h.refl s

theorem clearOwn (i : Fin 12) (c : CallCause) : R s (clearOwn i c s) := h.clearCall ..

theorem ctuRound : R s (ctuRound s) := by
  have hmod (i : Fin 12) (f : Call → Call) (t : State) : R t (modCall i f t) := by
    unfold modCall
    split
    · exact h.of_cs rfl
    · exact h.refl t
  have htimer (i : Fin 12) (t : State) : R t (stateTimerTick i t) := by
    unfold stateTimerTick
    split
    · exact h.clearOwn ..
    · exact hmod ..
  have hsilence (i : Fin 12) (t : State) : R t (silenceTick i t) := by
    unfold silenceTick
    split
    · exact h.clearOwn ..
    · exact hmod ..
  exact h.forEach (fun i t => h.trans (htimer i t) (hsilence i _)) allCalls s

theorem ctuSupplyMode (m : SupplyMode) : R s (ctuSupplyMode m s) := by
  have hshed (l : Line) (n : Nat) (t : State) : R t (shedLine .supply l n t) := by
    induction n generalizing t with
    | zero => exact h.refl t
    | succ n ih =>
      unfold shedLine
      split
      · exact h.refl t
      split
      · exact h.trans (h.clearOwn ..) (ih _)
      · exact h.refl t
  exact h.after (h.trans (hshed ..) (hshed ..)) rfl

theorem releaseRequest (i : Fin 16) : R s (releaseRequest i s) := by
  unfold Machine.releaseRequest sendRelease
  split
  · exact h.trans (h.adjacent ..) (h.modVehicle ..)
  · exact h.refl s

theorem reportVehicle (n : Nat) (v : Vehicle) : R s (reportVehicle n v s) := by
  unfold Machine.reportVehicle
  exact h.after (h.send ..) (postBoth_cs ..)

theorem depart (i : Fin 16) : R s (depart i s) := by
  have hwait (b : Prop) [Decidable b] (f : Vehicle → Vehicle) (id : Nat) :
      R s (if b then Machine.reexamine (Machine.modVehicle i f (dropLocalWait id s)) else s) := by
    split
    · exact h.after (t := dropLocalWait id s) (h.trans (h.modVehicle ..) (h.reexamine _)) rfl
    · exact h.refl s
  have hrelease (b : Prop) [Decidable b] (t : State) : R t (if b then Machine.releaseRequest i t else t) := by
    split
    · exact h.releaseRequest ..
    · exact h.refl t
  have hleave (v : Option Vehicle) (t : State) : R t (match v with
      | some v2 => ((Machine.reportVehicle 1 v2 t).setVehicle i none).updVu fun u => { u with tableFull := false }
      | none => t) := by
    split
    · exact h.before (h.reportVehicle ..) rfl
    · exact h.refl t
  unfold Machine.depart
  split
  · exact h.trans (h.trans (hwait _ _ _) (hrelease _ _)) (hleave _ _)
  · exact h.refl s

theorem vuRound : R s (vuRound s) := by
  have hheard (i : Fin 16) (t : State) : R t (unheardTick i t) := by
    unfold unheardTick
    split
    · exact h.trans (h.modVehicle ..) (h.depart ..)
    · exact h.modVehicle ..
  have hresend (i : Fin 16) (t : State) : R t (resendTick i t) := by
    unfold resendTick sendRequest
    split
    · split
      · split
        · exact h.trans (h.modVehicle ..) (h.adjacent ..)
        · exact h.modVehicle ..
      · exact h.refl t
    · exact h.refl t
  exact h.forEach (fun i t => h.trans (hheard i t) (hresend i _)) allVehicles s

theorem countWork : R s (countWork s) := by
  have hoverdue (m : Member) (t : State) : R t (reportOverdue m t) := by
    unfold reportOverdue
    exact h.after (h.send ..) ((postBoth_cs ..).trans (postBoth_cs ..))
  have hmember (n : Nat) (t : State) : R t (memberTick n t) := by
    unfold memberTick
    split
    · split
      · exact h.refl t
      simp only
      split
      · exact h.after (hoverdue ..) rfl
      · exact h.of_cs rfl
    · exact h.refl t
  have hrefuges : R s (sauRound s) := h.after (h.forEach (fun r t => h.refugeReportTick t r) allRefuges _) rfl
  exact h.trans hrefuges (h.forEach hmember _ _)

end Carried

/-! ## Queues while cells are staged (R21) -/

/-- While the cells of a round start are staged, the outgoing queues stand. -/
structure QueuesStand (s t : State) : Prop where
  stand : s.cs.staging.isSome = true → t.cs.staging.isSome = true ∧ t.cs.queues = s.cs.queues

namespace QueuesStand

theorem of_eq {s t : State} (hs : t.cs.staging = s.cs.staging) (hq : t.cs.queues = s.cs.queues) : QueuesStand s t :=
  ⟨fun h => ⟨by rw [hs]; exact h, hq⟩⟩

theorem trans {s t u : State} (h : QueuesStand s t) (k : QueuesStand t u) : QueuesStand s u := by
  refine ⟨fun hs => ?_⟩
  obtain ⟨ht, hq⟩ := h.stand hs
  obtain ⟨hu, hr⟩ := k.stand ht
  exact ⟨hu, hr.trans hq⟩

end QueuesStand

theorem latchInd_stand (l : Line) (i : Indication) (s : State) : QueuesStand s (latchInd l i s) := .of_eq (by rw [latchInd_cs]) (latchInd_queues ..)

theorem deliver_stand (from? : Option Line) (c : Cell) (s : State) : QueuesStand s (deliver from? c s) := by
  have hlatch (i : Indication) (t : State) : QueuesStand t (latchArrival from? i t) := by
    unfold latchArrival
    split
    · exact latchInd_stand ..
    · exact (latchInd_stand ..).trans (latchInd_stand ..)
  have hset (b : Bool) (q : List Cell) (t : State) : QueuesStand t (setDeliveryQueue b q t) := by cases b <;> exact .of_eq rfl rfl
  unfold deliver
  simp only
  split
  · split
    · exact (hset ..).trans (.of_eq rfl rfl)
    · exact hset ..
  split
  · exact hlatch ..
  · split
    · exact (hset ..).trans (hlatch ..)
    · exact hlatch ..

theorem placeCell_stand (l : Line) (c : Cell) (s : State) : QueuesStand s (placeCell l c s) := by
  refine ⟨fun hs => ?_⟩
  obtain ⟨cells, hc⟩ := Option.isSome_iff_exists.mp hs
  unfold placeCell
  simp only [hc]
  exact ⟨rfl, rfl⟩

theorem queuesStand_carried : Carried QueuesStand where
  trans := QueuesStand.trans
  of_cs h := .of_eq (by rw [h]) (by rw [h])
  send kind dst p s := by
    unfold sendTo
    simp only
    split
    · split
      · exact .of_eq rfl rfl
      · exact deliver_stand ..
    · exact placeCell_stand ..
  adjacent l kind p s := placeCell_stand ..

/-! ## Queues and calls (R140 to R143) -/

/-- Queues stand while cells are staged, and calls only end. -/
structure RoundKeeps (s t : State) : Prop where
  queues : QueuesStand s t
  calls : CallsFewer s t

theorem Effect.fewer {ps : List Part} {out : List Law} {s t : State} (h : Effect ps out s t) (hp : Part.calls ∉ ps := by decide) : CallsFewer s t :=
  fun i => .inr (State.call_of_entries (Prod.mk.inj (h.same .calls hp)).1 i)

theorem Effect.roundKeeps {ps : List Part} {out : List Law} {s t : State} (h : Effect ps out s t) (hq : QueuesStand s t)
    (hp : Part.calls ∉ ps := by decide) : RoundKeeps s t := ⟨hq, h.fewer hp⟩

namespace RoundKeeps

theorem refl (s : State) : RoundKeeps s s := ⟨.of_eq rfl rfl, .refl s⟩

theorem trans {s t u : State} (h : RoundKeeps s t) (k : RoundKeeps t u) : RoundKeeps s u := ⟨h.queues.trans k.queues, CallsFewer.trans h.calls k.calls⟩

theorem of_eq {s t : State} (hs : t.cs.staging = s.cs.staging) (hq : t.cs.queues = s.cs.queues) (hc : t.ctu.entries = s.ctu.entries) :
    RoundKeeps s t := ⟨.of_eq hs hq, fun i => .inr (State.call_of_entries hc i)⟩

theorem forEach {α : Type} {f : α → State → State} (hf : ∀ x t, RoundKeeps t (f x t)) (xs : List α) (s : State) :
    RoundKeeps s (forEach xs f s) := forEach_invariant (P := RoundKeeps s) (.refl s) fun x _ _ ht => ht.trans (hf x _)

end RoundKeeps

section
variable (s : State)

theorem ctuTrunkLost_fewer : CallsFewer s (ctuTrunkLost s) := fun j => .inl (ctuTrunkLost_call s j)

theorem ctuHalt_fewer : CallsFewer s (ctuHalt s) := fun j => .inl (ctuHalt_call _ j)

theorem trunkChanged_roundKeeps (old : TimeBase) : RoundKeeps s (trunkChanged old s) := by
  have hpost (b : Bool) : CallsFewer s (if b = true then postTrunk old.trunk s else s) := by
    split
    · exact (postTrunk_effect ..).fewer
    · exact .refl s
  refine ⟨queuesStand_carried.trunkChanged s old, ?_⟩
  unfold trunkChanged
  simp only
  split
  · exact hpost _
  split
  · exact CallsFewer.trans (hpost _) (ctuTrunkLost_fewer _)
  · exact CallsFewer.trans (hpost _) (ctuTrunkLost_fewer _)
  · exact CallsFewer.trans (hpost _) (ctuTrunkLost_fewer _)
  · exact CallsFewer.trans (hpost _) (ctuHalt_fewer _)
  · exact hpost _

theorem finishTrunk_roundKeeps (old : TimeBase) : RoundKeeps s (finishTrunk old s) := by
  have hdone (p : PendingTrunk) (t : State) : RoundKeeps t (postDone p t) := by
    unfold postDone
    split <;> exact .of_eq rfl rfl rfl
  unfold finishTrunk
  split
  · exact trunkChanged_roundKeeps ..
  next p _ =>
    have hset : RoundKeeps s (s.updTb fun t => { applyCommand p.cmd t with pendingCmd := none }) := .of_eq rfl rfl rfl
    exact (hset.trans (trunkChanged_roundKeeps ..)).trans (hdone ..)

theorem trunkStep_roundKeeps (step : TimeBase → TimeBase) : RoundKeeps s (trunkStep step s) := by
  unfold trunkStep
  split
  · exact RoundKeeps.trans (t := s.updTb step) (.of_eq rfl rfl rfl) (finishTrunk_roundKeeps ..)
  · exact finishTrunk_roundKeeps ..

/-! ### The section level and its causes -/

theorem deriveLevel_fewer : CallsFewer s (deriveLevel s) := by
  have hset (f : AlarmUnit → AlarmUnit) (t : State) : CallsFewer t (t.updSau f) := fun _ => .inr rfl
  have hlevel (l : SectionLevel) (t : State) : CallsFewer t (ctuSectionLevel l t) := by
    rw [ctuSectionLevel_eq]
    split
    · exact CallsFewer.trans (t := t.updCtu fun c => { c with level := l }) (fun _ => .inr rfl) (forEach_clearRoutine_fewer allCalls _)
    · exact fun _ => .inr rfl
  rw [deriveLevel_eq]
  split
  · exact hset _ s
  · have hsection (l : SectionLevel) (t : State) : CallsFewer t (handLevel l (levelOf s) t) :=
      CallsFewer.trans ((postSectionLevel_effect ..).fewer) (CallsFewer.trans (hlevel _ _) (vuSectionLevel_effect ..).fewer)
    exact CallsFewer.trans (t := setLevel (levelOf s) s) (fun _ => .inr rfl) (hsection _ _)

theorem endOverrideWith_fewer {derive : State → State} (hd : ∀ t, CallsFewer t (derive t)) (reason : EndReason) :
    CallsFewer s (endOverrideWith derive reason s) := by
  have hreport : CallsFewer s (reportOverride s.tu.ovr.state (clearOverride reason s)) :=
    CallsFewer.trans (clearOverride_effect reason s).fewer (reportOverride_effect ..).fewer
  rw [endOverrideWith_eq]
  split
  · exact CallsFewer.trans hreport (CallsFewer.trans (coverSet_effect _).fewer (hd _))
  · exact hreport

theorem sauDerive_roundKeeps : RoundKeeps s (sauDerive s) := by
  have hend (b : SectionLevel) (t : State) : CallsFewer t (evacuationEnd b t) := by
    unfold evacuationEnd
    split
    · exact endOverrideWith_fewer t deriveLevel_fewer _
    · exact .refl t
  exact ⟨queuesStand_carried.sauDerive s, CallsFewer.trans (deriveLevel_fewer s) (hend _ _)⟩

theorem sauRecompute_roundKeeps : RoundKeeps s (sauRecompute s) :=
  RoundKeeps.trans (t := takeCauses s) (.of_eq rfl rfl rfl) (sauDerive_roundKeeps _)

theorem tuRecompute_roundKeeps : RoundKeeps s (tuRecompute s) := (tuRecompute_effect s).roundKeeps (queuesStand_carried.tuRecompute s)

theorem endOverride_roundKeeps (reason : EndReason) : RoundKeeps s (endOverride reason s) :=
  ⟨queuesStand_carried.endOverrideWith s (fun t => queuesStand_carried.sauDerive t) reason,
    endOverrideWith_fewer s (fun t => (sauDerive_roundKeeps t).calls) reason⟩

/-! ### Channels, refuges and buses -/

theorem commitChannel_roundKeeps (i : Fin 16) (c : Channel) : RoundKeeps s (commitChannel i c s) := by
  have hset : RoundKeeps s (s.setChannel i c) := .of_eq rfl rfl rfl
  have hmethane (t : State) : RoundKeeps t (recomputeMethane t) := (recomputeMethane_effect t).roundKeeps (queuesStand_carried.recomputeMethane t)
  have hreport (old : Channel) (t : State) : RoundKeeps t (reportChannel i old t) :=
    (reportChannel_effect i old t).roundKeeps (queuesStand_carried.reportChannel t i old)
  have hair (a b : Option ChannelInput) (t : State) : RoundKeeps t (airEvent i a b t) :=
    (airEvent_effect i a b t).roundKeeps (queuesStand_carried.airEvent t i a b)
  have hhand (t : State) : RoundKeeps t (handToAlarm i t) :=
    (RoundKeeps.trans (s := t) (t := t.updSau fun a => { a with inputs := vset a.inputs i (inputOf (t.channel i)) })
      (.of_eq rfl rfl rfl) (sauRecompute_roundKeeps _)).trans (hair (t.sau.inputs.get i) (inputOf (t.channel i)) _)
  exact ((hset.trans (hmethane _)).trans (hreport _ _)).trans ((tuRecompute_roundKeeps _).trans (hhand _))

theorem channelMiss_roundKeeps (i : Fin 16) (reason : MissReason) : RoundKeeps s (channelMiss i reason s) := by
  unfold channelMiss
  simp only
  split
  · split
    · split
      · exact commitChannel_roundKeeps ..
      · exact .refl s
    · exact .refl s
  · exact .refl s

theorem failPolls_roundKeeps (polls : List Poll) : RoundKeeps s (failPolls polls s) := by
  refine .forEach (fun p t => ?_) polls s
  cases p.target with
  | chan i => exact channelMiss_roundKeeps ..
  | refuge r =>
    show RoundKeeps t (if (t.refuge r).state = .unused then t else refugeMiss r t)
    split
    · exact .refl t
    · exact (refugeMiss_effect ..).roundKeeps (queuesStand_carried.refugeMiss ..)

theorem busRound_roundKeeps (b : Bus) (high : Bool) : RoundKeeps s (busRound b high s) := by
  have hbus (f : BusMaster → BusMaster) (t : State) : RoundKeeps t (t.updBus b f) := .of_eq rfl rfl rfl
  have hrelease (t : State) : RoundKeeps t (releaseStep b high t) := by
    unfold releaseStep failBus
    simp only
    split
    · split
      · exact hbus ..
      split
      · exact (hbus ..).trans (failPolls_roundKeeps ..)
      · exact hbus ..
    · split <;> exact hbus ..
    · exact .refl t
  have hjoin (p : Poll) (t : State) : RoundKeeps t (joinPoll b p t) := by
    unfold joinPoll
    split
    · split
      · exact .of_eq rfl rfl rfl
      · exact .refl t
    · exact hbus ..
  have hdue (t : State) : RoundKeeps t (addDue b t) := by
    unfold addDue
    split
    · exact failPolls_roundKeeps ..
    · exact .forEach hjoin ..
  exact (((hbus ..).trans (hbus ..)).trans (hrelease _)).trans (hdue _)

theorem gcuRound_roundKeeps : RoundKeeps s (gcuRound s) := by
  have hmobile : RoundKeeps s (mobileTick s) := by
    unfold mobileTick
    simp only
    split
    · exact commitChannel_roundKeeps ..
    split
    · exact .of_eq rfl rfl rfl
    · exact .refl s
  exact hmobile.trans (.forEach (fun i t => (reportTick_effect i t).roundKeeps (queuesStand_carried.reportTick t i)) allChannels _)

/-! ### Supervision, override and supply -/

theorem supervisionTick_roundKeeps : RoundKeeps s (supervisionTick s) := by
  have hset (f : TripUnit → TripUnit) (t : State) : RoundKeeps t (t.updTu f) := .of_eq rfl rfl rfl
  have hreport (k d : Bytes) (t : State) : RoundKeeps t (sendTo kSupervisionLate 0 k (postBoth .supervisionLate d t)) :=
    ((postBoth_effect ..).trans (sendTo_effect ..)).roundKeeps (queuesStand_carried.after (queuesStand_carried.send ..) (postBoth_cs ..))
  have htell (b : Bool) (t : State) : RoundKeeps t (sauRecompute (t.updSau fun a => { a with supLate := b })) :=
    RoundKeeps.trans (t := t.updSau fun a => { a with supLate := b }) (.of_eq rfl rfl rfl) (sauRecompute_roundKeeps _)
  have hchanged (before : SupervisionState) (t : State) : RoundKeeps t (supervisionChanged before t) := by
    unfold supervisionChanged
    simp only
    split
    · exact ((hreport ..).trans (htell ..)).trans (tuRecompute_roundKeeps _)
    · exact ((hreport ..).trans (htell ..)).trans (tuRecompute_roundKeeps _)
    · exact (hreport ..).trans (tuRecompute_roundKeeps _)
  unfold supervisionTick lapse
  split
  · split
    · exact (hset ..).trans (hchanged ..)
    · exact (hset ..).trans (hchanged ..)
    · exact .refl s
  · split
    · exact hset ..
    · exact hset ..
    · exact .refl s

theorem overrideTick_roundKeeps : RoundKeeps s (overrideTick s) := by
  have hset (f : TripUnit → TripUnit) (t : State) : RoundKeeps t (t.updTu f) := .of_eq rfl rfl rfl
  unfold overrideTick
  split
  · exact .refl s
  · simp only
    split
    · exact (hset ..).trans (endOverride_roundKeeps ..)
    · exact hset ..
  · simp only
    split
    · exact (hset ..).trans (endOverride_roundKeeps ..)
    · exact hset ..

theorem supplySample_roundKeeps (mains : Bool) (battery : Nat) : RoundKeeps s (supplySample mains battery s) := by
  have hset (f : TripUnit → TripUnit) (t : State) : RoundKeeps t (t.updTu f) := .of_eq rfl rfl rfl
  have hpost (k : NoticeKind) (d : Bytes) (t : State) : RoundKeeps t (postBoth k d t) :=
    (postBoth_effect ..).roundKeeps (queuesStand_carried.of_cs (postBoth_cs ..))
  have hcalls (m : SupplyMode) (t : State) : RoundKeeps t (ctuSupplyMode m t) :=
    ⟨queuesStand_carried.ctuSupplyMode t m, CallsFewer.trans (t := t.updCtu fun c => { c with supplyMode := m }) (fun _ => .inr rfl) (shed_fewer _ _)⟩
  have htell (m : SupplyMode) (t : State) : RoundKeeps t (tellMode m t) := by
    have hbuses : RoundKeeps t (((t.updBus .one fun b => { b with modeTold := m }).updBus .two fun b => { b with modeTold := m }).updGcu
        fun g => { g with supplyMode := m }) := .of_eq rfl rfl rfl
    have hlast (u : State) : RoundKeeps u ((u.updCs fun c => { c with supplyMode := m }).updSau fun a => { a with modeTold := m }) := .of_eq rfl rfl rfl
    exact (hbuses.trans (hcalls ..)).trans (hlast _)
  have hchange (m : SupplyMode) (t : State) : RoundKeeps t (supplyChange m t) := by
    rw [supplyChange_eq]
    exact (((hset ..).trans (hpost ..)).trans (tuRecompute_roundKeeps _)).trans (htell ..)
  unfold supplySample
  simp only
  split
  · exact (hset ..).trans (hchange ..)
  · exact hset ..

/-! ### The lines -/

theorem lineWork_roundKeeps (smp : Samples) (renewed : Bool) : RoundKeeps s (lineWork smp none renewed s) := by
  have hstatus (l : Line) (f : LineStatus → LineStatus) (t : State) : RoundKeeps t (t.updStatus l f) := .of_eq rfl rfl rfl
  have hlatch (l : Line) (b : Bool) (t : State) : RoundKeeps t (if b = true then latchInd l .carrierLost t else t) := by
    split
    · exact (latchInd_effect ..).roundKeeps (latchInd_stand ..)
    · exact .refl t
  have hpost (l : Line) (b : Prop) [Decidable b] (t : State) : RoundKeeps t (if b then t else postLineEvent l t) := by
    split
    · exact .refl t
    · exact (postLineEvent_effect ..).roundKeeps (queuesStand_carried.of_cs (postBoth_cs ..))
  have hline (l : Line) (rep : CarrierReport) (t : State) : RoundKeeps t (lineRound l rep t) :=
    ((hlatch ..).trans (hstatus ..)).trans (hpost ..)
  have hheld (l : Line) (t : State) : RoundKeeps t (heldTick l t) := .of_eq rfl rfl rfl
  have hremote (l : Line) (level : SectionLevel) (n : Nat) (t : State) : RoundKeeps t
      (if level = (t.cs.remote.get l).level then t.updCs fun c => { c with remote := c.remote.set l { level := level, age := n } }
        else sauDerive (t.updCs fun c => { c with remote := c.remote.set l { level := level, age := n } })) := by
    have hset : RoundKeeps t (t.updCs fun c => { c with remote := c.remote.set l { level := level, age := n } }) := .of_eq rfl rfl rfl
    split
    · exact hset
    · exact hset.trans (sauDerive_roundKeeps _)
  have hboth : RoundKeeps s (bothLines heldTick (bothLines (fun l => lineRound l (smp.carrier.get l)) s)) :=
    ((hline ..).trans (hline ..)).trans ((hheld ..).trans (hheld ..))
  rw [lineWork_none]
  exact hboth.trans ((hremote ..).trans (hremote ..))

/-- The queues stand, and calls only end, until the timers of the calls run. -/
theorem fieldWork_roundKeeps (smp : Samples) : ∃ v, RoundKeeps s v ∧ fieldWork smp s = vuRound (ctuRound v) :=
  ⟨_, (((((busRound_roundKeeps ..).trans (busRound_roundKeeps ..)).trans (gcuRound_roundKeeps _)).trans (supervisionTick_roundKeeps _)).trans
    (overrideTick_roundKeeps _)).trans (supplySample_roundKeeps ..), rfl⟩

end

end Sys2Proof.Machine
end

section
/-! PROOFS. The timers of the calls and the DATA queues at a round start (2.6, 7.5). -/

namespace Sys2Proof.Machine

-- Declarations are elaborated one after another: in a text of this length the threads of many at once would not fit the memory limit.
set_option Elab.async false

/-! ## Calls (R135) -/

/-- Whether the state timer of an entry reaches its limit at a round start. -/
def Call.timedOut (e : Call) : Bool :=
  match timerLimit e with
  | some (n, _) => n ≤ e.timer + 1
  | none => false

/-- Whether a silence count of an entry reaches its limit at a round start. -/
def Call.lost (e : Call) : Bool :=
  e.state = .connected && ((e.uses .outbye && Config.callSilenceLimit ≤ e.silence.outbye + 1)
    || (e.uses .inbye && Config.callSilenceLimit ≤ e.silence.inbye + 1))

/-- An entry after its timers. -/
def Call.afterRound (e : Call) : Option Call := if e.timedOut || e.lost then none else some e.ticked

section
variable {i j : Fin 12} {e : Call} {s : State}

theorem stateTimeoutDue_some (h : s.call i = some e) : (stateTimeoutDue s i).isSome = e.timedOut := by
  simp only [stateTimeoutDue, h, Call.timedOut]
  cases timerLimit e with
  | none => rfl
  | some p => by_cases hp : p.1 ≤ e.timer + 1 <;> simp [hp]

theorem lossDue_some (h : s.call i = some e) : lossDue s i = e.lost := by simp only [lossDue, h, Call.lost]

theorem Call.lost_of_ne (h : e.state ≠ .connected) : e.lost = false := by simp [lost, h]

/-- An entry with its state timer ticked. -/
def Call.timed (e : Call) : Call := if e.state = .connected then e else { e with timer := e.timer + 1 }

/-- An entry with its silence counts ticked. -/
def Call.silent (e : Call) : Call :=
  if e.state = .connected then { e with silence :=
    { outbye := if e.uses .outbye then e.silence.outbye + 1 else e.silence.outbye
      inbye := if e.uses .inbye then e.silence.inbye + 1 else e.silence.inbye } }
  else e

theorem Call.silent_timed (e : Call) : e.timed.silent = e.ticked := by
  by_cases h : e.state = .connected
  · have hadd (b : Bool) (n : Nat) : (if b = true then n + 1 else n) = n + if b = true then 1 else 0 := by cases b <;> rfl
    have houtbye := hadd (e.uses .outbye) e.silence.outbye
    have hinbye := hadd (e.uses .inbye) e.silence.inbye
    rw [timed, if_pos h, silent, if_pos h, houtbye, hinbye]
    simp only [ticked, h]
  · have htimed : e.timed = { e with timer := e.timer + 1 } := if_neg h
    have hsilent : ({ e with timer := e.timer + 1 } : Call).silent = { e with timer := e.timer + 1 } := if_neg h
    rw [htimed, hsilent]
    unfold ticked
    split
    next hc => exact absurd hc h
    next => rfl

theorem Call.lost_timed (e : Call) : e.timed.lost = e.lost := by
  by_cases h : e.state = .connected
  · rw [timed, if_pos h]
  · have htimed : e.timed = { e with timer := e.timer + 1 } := if_neg h
    rw [htimed, lost_of_ne h]
    exact lost_of_ne (e := { e with timer := e.timer + 1 }) h

theorem stateTimerTick_call (i j : Fin 12) (s : State) : (stateTimerTick i s).call j
    = if j = i then (s.call i).bind fun e => if e.timedOut then none else some e.timed else s.call j := by
  unfold stateTimerTick
  split
  next c hdue =>
    rw [clearOwn_call]
    split
    · cases he : s.call i with
      | none => rfl
      | some e => simp [← stateTimeoutDue_some he, hdue]
    · rfl
  next hdue =>
    rw [modCall_call]
    split
    · cases he : s.call i with
      | none => rfl
      | some e =>
        have hnot : e.timedOut = false := by rw [← stateTimeoutDue_some he, hdue]; rfl
        simp [hnot, Call.timed]
    · rfl

theorem silenceTick_call (i j : Fin 12) (s : State) : (silenceTick i s).call j
    = if j = i then (s.call i).bind fun e => if e.lost then none else some e.silent else s.call j := by
  unfold silenceTick
  split
  next hdue =>
    rw [clearOwn_call]
    split
    · cases he : s.call i with
      | none => rfl
      | some e => simp [← lossDue_some he, hdue]
    · rfl
  next hdue =>
    rw [modCall_call]
    split
    · cases he : s.call i with
      | none => rfl
      | some e =>
        have hnot : e.lost = false := by rw [← lossDue_some he]; simpa using hdue
        simp only [Option.map_some, Option.bind_some, hnot, Bool.false_eq_true, if_false]
        rfl
    · rfl

theorem callTick_call (i j : Fin 12) (s : State) : (silenceTick i (stateTimerTick i s)).call j
    = if j = i then (s.call i).bind Call.afterRound else s.call j := by
  rw [silenceTick_call, stateTimerTick_call, stateTimerTick_call, if_pos rfl]
  split
  · cases s.call i with
    | none => rfl
    | some e =>
      simp only [Option.bind_some, Call.afterRound]
      cases e.timedOut <;> simp [Call.lost_timed, Call.silent_timed]
  · rfl

theorem forEach_call {f : Fin 12 → State → State} {g : Call → Option Call}
    (hf : ∀ i j t, (f i t).call j = if j = i then (t.call i).bind g else t.call j) {xs : List (Fin 12)} (hn : xs.Nodup) (s : State) (j : Fin 12) :
    (forEach xs f s).call j = if j ∈ xs then (s.call j).bind g else s.call j := by
  induction xs generalizing s with
  | nil => rfl
  | cons x xs ih =>
    obtain ⟨hx, hn⟩ := List.nodup_cons.mp hn
    have hcons : forEach (x :: xs) f s = forEach xs f (f x s) := rfl
    rw [hcons, ih hn, hf]
    by_cases hj : j = x
    · subst hj
      simp [hx]
    · simp [hj]

/-- R135: every entry after the timers of a round start. -/
theorem ctuRound_call (s : State) (j : Fin 12) : (ctuRound s).call j = (s.call j).bind Call.afterRound :=
  (forEach_call callTick_call nodup_allCalls s j).trans (if_pos (mem_allCalls j))

end

/-! ## The DATA queues (R31) -/

/-- R31, case by case: FREE below the high mark, HOLDING above the low mark with periods left, HOLDING at or below the low
mark, and the two that announce the hold. -/
theorem examineQueue_cases (l : Line) (s : State) (h : Holding) (n : Nat) (hh : h = s.cs.holding.get l)
    (hn : n = (s.cs.queues.get l).data.length) :
    (h.holding = false → n < s.cs.holdParams.high → examineQueue l s = s)
    ∧ (h.holding = true → s.cs.holdParams.low < n → 1 < h.period → examineQueue l s =
        { s with cs := { s.cs with holding := s.cs.holding.set l { holding := true, period := h.period - 1 } } })
    ∧ (h.holding = true → n ≤ s.cs.holdParams.low → examineQueue l s = { s with cs := { s.cs with
        holding := s.cs.holding.set l { holding := false, period := 0 }, announce := s.cs.announce.set l.other (some 0) } })
    ∧ ((h.holding = false ∧ s.cs.holdParams.high ≤ n) ∨ (h.holding = true ∧ s.cs.holdParams.low < n ∧ h.period ≤ 1) →
        examineQueue l s = { s with cs := { s.cs with
          holding := s.cs.holding.set l { holding := true, period := s.cs.holdParams.length }
          announce := s.cs.announce.set l.other (some s.cs.holdParams.length) } }) := by
  subst hh hn
  unfold examineQueue
  simp only
  refine ⟨fun hf hlt => ?_, fun ht hlow hp => ?_, fun ht hlow => ?_, ?_⟩
  · rw [if_neg (by simp [hf]), if_neg (Nat.not_le.mpr hlt)]
  · rw [if_pos ht, if_neg (Nat.not_le.mpr hlow), if_neg (Nat.not_le.mpr hp)]
    rfl
  · rw [if_pos ht, if_pos hlow]
    rfl
  · rintro (⟨hf, hhigh⟩ | ⟨ht, hlow, hp⟩)
    · rw [if_neg (by simp [hf]), if_pos hhigh]
      rfl
    · rw [if_pos ht, if_neg (Nat.not_le.mpr hlow), if_pos hp]
      rfl

/-- R31: what the examination of a queue reads and writes. -/
theorem examineQueue_frame (l : Line) (s : State) : (examineQueue l s).cs = { s.cs with
      holding := (examineQueue l s).cs.holding, announce := (examineQueue l s).cs.announce }
    ∧ (examineQueue l s).cs.holding.get l.other = s.cs.holding.get l.other
    ∧ (examineQueue l s).cs.announce.get l = s.cs.announce.get l := by
  have hset (h : Holding) : (setHolding l h s).cs = { s.cs with holding := (setHolding l h s).cs.holding, announce := (setHolding l h s).cs.announce }
      ∧ (setHolding l h s).cs.holding.get l.other = s.cs.holding.get l.other ∧ (setHolding l h s).cs.announce.get l = s.cs.announce.get l :=
    ⟨rfl, PerLine.get_set_other .., rfl⟩
  have hboth (h : Holding) (n : Nat) : (announceFor l n (setHolding l h s)).cs = { s.cs with
        holding := (announceFor l n (setHolding l h s)).cs.holding, announce := (announceFor l n (setHolding l h s)).cs.announce }
      ∧ (announceFor l n (setHolding l h s)).cs.holding.get l.other = s.cs.holding.get l.other
      ∧ (announceFor l n (setHolding l h s)).cs.announce.get l = s.cs.announce.get l :=
    ⟨rfl, PerLine.get_set_other .., by cases l <;> rfl⟩
  unfold examineQueue
  simp only
  split
  · split
    · exact hboth ..
    split
    · exact hboth ..
    · exact hset _
  · split
    · exact hboth ..
    · exact ⟨rfl, rfl, rfl⟩

/-- R31: the examination of a queue depends on the queue, its holding state and the marks. -/
theorem examineQueue_congr {l : Line} {s t : State} (hq : (t.cs.queues.get l).data = (s.cs.queues.get l).data)
    (hh : t.cs.holding.get l = s.cs.holding.get l) (hp : t.cs.holdParams = s.cs.holdParams)
    (ha : t.cs.announce.get l.other = s.cs.announce.get l.other) :
    (examineQueue l t).cs.holding.get l = (examineQueue l s).cs.holding.get l
      ∧ (examineQueue l t).cs.announce.get l.other = (examineQueue l s).cs.announce.get l.other := by
  unfold examineQueue
  simp only [hq, hh, hp]
  split
  · split
    · exact ⟨by simp [announceFor, setHolding], by simp [announceFor, setHolding]⟩
    split
    · exact ⟨by simp [announceFor, setHolding], by simp [announceFor, setHolding]⟩
    · exact ⟨by simp [setHolding], ha⟩
  · split
    · exact ⟨by simp [announceFor, setHolding], by simp [announceFor, setHolding]⟩
    · exact ⟨hh, ha⟩

end Sys2Proof.Machine
end

section
/-! PROOFS. The poll schedule and the sensor buses at a round start (3.2 to 3.4). -/

namespace Sys2Proof.Machine

-- Declarations are elaborated one after another: in a text of this length the threads of many at once would not fit the memory limit.
set_option Elab.async false

/-! ## When a poll is due (R50 to R53) -/

theorem effectiveInterval_iff {mode : SupplyMode} {kind : GasKind} {k n : Nat} : effectiveInterval mode kind k = some n
    ↔ n = (match mode with
        | .mains => k
        | .battery => 2 * k
        | .reserve => 4 * k) ∧ (mode = .reserve → kind ≠ .airflow ∧ kind ≠ .co2) := by
  cases mode with
  | mains => simp [effectiveInterval, eq_comm]
  | battery => simp [effectiveInterval, eq_comm]
  | reserve => cases kind <;> simp [effectiveInterval, eq_comm]

section
variable {s t : State} {b : Bus} {i : Fin 16} {q : Poll}

/-- R50: when a channel is due. -/
theorem channelDue_iff : channelDue s b i = some q ↔ ∃ (f : ChannelConfig) (p : PollConfig) (n : Nat), (s.channel i).cfg = some f
    ∧ f.poll = some p ∧ (s.channel i).enabled = true ∧ p.bus = b ∧ i ≠ 15 ∧ (s.tb.running + p.phase) % n = 0
    ∧ n = (match (s.bus b).modeInUse with
        | .mains => p.interval
        | .battery => 2 * p.interval
        | .reserve => 4 * p.interval)
    ∧ ((s.bus b).modeInUse = .reserve → f.kind ≠ .airflow ∧ f.kind ≠ .co2) ∧ q = { target := .chan i, addr := p.addr } := by
  have hlast : i.val < 15 ↔ i ≠ 15 := by omega
  unfold channelDue
  simp only
  cases hcfg : (s.channel i).cfg with
  | none => simp
  | some f =>
    cases hpoll : f.poll with
    | none => simp [hpoll]
    | some p =>
      simp only [hpoll]
      cases hn : effectiveInterval (s.bus b).modeInUse f.kind p.interval with
      | none =>
        simp only [reduceCtorEq, false_iff, Option.some.injEq]
        rintro ⟨f', p', n, rfl, hp, -, -, -, -, heq, hres, -⟩
        obtain rfl : p = p' := Option.some.inj (hpoll.symm.trans hp)
        rw [effectiveInterval_iff.mpr ⟨heq, hres⟩] at hn
        cases hn
      | some n =>
        obtain ⟨heq, hres⟩ := effectiveInterval_iff.mp hn
        constructor
        · intro h
          simp only [Option.ite_none_right_eq_some, Bool.and_eq_true, decide_eq_true_eq, beq_iff_eq, Option.some.injEq, hlast] at h
          obtain ⟨⟨⟨⟨he, hb⟩, hi⟩, hmod⟩, hq⟩ := h
          exact ⟨f, p, n, rfl, hpoll, he, hb, hi, hmod, heq, hres, hq.symm⟩
        · rintro ⟨f', p', n', hf, hp, he, hb, hi, hmod, heq', -, rfl⟩
          obtain rfl : f = f' := Option.some.inj hf
          obtain rfl : p = p' := Option.some.inj (hpoll.symm.trans hp)
          obtain rfl : n' = n := heq'.trans heq.symm
          simp [he, hb, hlast.mpr hi, hmod]

/-- R51: when a refuge record is due. -/
theorem refugeDue_iff {r : Fin 4} : refugeDue s b r = some q ↔ ∃ a, (s.refuge r).head = some (b, a) ∧ (s.tb.running + r.val) % 10 = 0
    ∧ q = { target := .refuge r, addr := a } := by
  unfold refugeDue
  cases hh : (s.refuge r).head with
  | none => simp
  | some x =>
    obtain ⟨c, a⟩ := x
    by_cases hc : c = b
    · subst hc
      simp only [decide_true, Bool.true_and, beq_iff_eq, Option.ite_none_right_eq_some, Option.some.injEq, Prod.mk.injEq, true_and]
      constructor
      · exact fun ⟨hm, hq⟩ => ⟨a, rfl, hm, hq.symm⟩
      · rintro ⟨a', rfl, hm, rfl⟩
        exact ⟨hm, rfl⟩
    · simp [hc]

/-- R50, R51: the due polls in their order; channel 15 is never due. -/
theorem duePolls_eq (s : State) (b : Bus) : duePolls s b
    = [0, 1, 2, 3, 4, 5, 6, 7, 8, 9, 10, 11, 12, 13, 14].filterMap (channelDue s b) ++ [0, 1, 2, 3].filterMap (refugeDue s b) := by
  have hlast : channelDue s b 15 = none := by
    cases h : channelDue s b 15 with
    | none => rfl
    | some q =>
      obtain ⟨f, p, n, -, -, -, -, hne, -⟩ := channelDue_iff.mp h
      exact absurd rfl hne
  have hsplit : allChannels = [0, 1, 2, 3, 4, 5, 6, 7, 8, 9, 10, 11, 12, 13, 14] ++ [15] := rfl
  rw [duePolls, hsplit, List.filterMap_append]
  simp only [List.filterMap_cons, List.filterMap_nil, hlast, List.append_nil]
  rfl

/-- R53: the polls that leave the list at the entry to RESERVE. -/
theorem reservePoll_iff : reservePoll s q = true ↔ ∃ (i : Fin 16) (f : ChannelConfig), q.target = .chan i ∧ (s.channel i).cfg = some f
    ∧ (f.kind = .airflow ∨ f.kind = .co2) := by
  unfold reservePoll
  cases hq : q.target with
  | refuge r => simp
  | chan i =>
    simp only
    cases hc : (s.channel i).cfg with
    | none =>
      simp only [Bool.false_eq_true, false_iff]
      rintro ⟨j, f, hj, hf, -⟩
      cases hj
      rw [hc] at hf
      cases hf
    | some f =>
      simp only [Bool.or_eq_true, decide_eq_true_eq]
      constructor
      · exact fun h => ⟨i, f, rfl, hc, h⟩
      · rintro ⟨j, f', hj, hf, h⟩
        cases hj
        rw [hc] at hf
        cases hf
        exact h

/-! ## What the schedule depends on -/

/-- Configuration and enabling of the channels and heads of the refuge records are as they were. -/
structure SameSchedule (s t : State) : Prop where
  channels : ∀ i : Fin 16, (t.channel i).cfg = (s.channel i).cfg ∧ (t.channel i).enabled = (s.channel i).enabled
  refuges : ∀ r : Fin 4, (t.refuge r).head = (s.refuge r).head

theorem SameSchedule.refl (s : State) : SameSchedule s s := ⟨fun _ => ⟨rfl, rfl⟩, fun _ => rfl⟩

theorem Effect.schedule {ps : List Part} {out : List Law} (h : Effect ps out s t)
    (hp : ([Part.chanCfg, .refugeHeads].all fun p => !ps.contains p) = true := by decide) : SameSchedule s t := by
  have hs (p : Part) (hm : p ∈ [Part.chanCfg, .refugeHeads]) : p.same s t := h.same p fun hin => by
    have hne := List.all_eq_true.mp hp p hm
    simp [hin] at hne
  have hchan := hs .chanCfg (by decide)
  have hheads := hs .refugeHeads (by decide)
  exact ⟨fun i => Prod.mk.injEq .. ▸ congrFun hchan i, fun r => congrFun hheads r⟩

theorem SameSchedule.duePolls (h : SameSchedule s t) (hr : t.tb.running = s.tb.running) (hm : (t.bus b).modeInUse = (s.bus b).modeInUse) :
    duePolls t b = duePolls s b := by
  have hchannel : channelDue t b = channelDue s b := by
    funext i
    obtain ⟨hc, he⟩ := h.channels i
    simp only [channelDue, hc, he, hr, hm]
  have hrefuge : refugeDue t b = refugeDue s b := by
    funext r
    simp only [refugeDue, h.refuges r, hr]
  simp only [Machine.duePolls, hchannel, hrefuge]

theorem SameSchedule.reservePoll (h : SameSchedule s t) : reservePoll t = reservePoll s := by
  funext q
  unfold Machine.reservePoll
  split
  next i _ =>
    obtain ⟨hc, -⟩ := h.channels i
    simp only [hc]
  next => rfl

theorem SameSchedule.standing (h : SameSchedule s t) (hl : (t.bus b).list = (s.bus b).list) (hu : (t.bus b).modeInUse = (s.bus b).modeInUse)
    (ht : (t.bus b).modeTold = (s.bus b).modeTold) : standing b t = standing b s := by
  simp only [Machine.standing, hl, hu, ht, h.reservePoll]

theorem SameSchedule.dueAt (h : SameSchedule s t) (n : Nat) (ht : (t.bus b).modeTold = (s.bus b).modeTold) : dueAt n b t = dueAt n b s :=
  SameSchedule.duePolls (s := (s.updTb fun t => { t with running := n }).updBus b fun m => { m with modeInUse := m.modeTold })
    (t := (t.updTb fun t => { t with running := n }).updBus b fun m => { m with modeInUse := m.modeTold }) ⟨h.channels, h.refuges⟩ rfl
    (by rw [bus_updBus, bus_updBus]; exact ht)

/-! ## The due polls of a bus -/

theorem mem_duePolls_chan (h : q ∈ duePolls s b) (hq : q.target = .chan i) : channelDue s b i = some q := by
  obtain h | h := List.mem_append.mp h
  · obtain ⟨j, -, hj⟩ := List.mem_filterMap.mp h
    obtain ⟨f, p, n, -, -, -, -, -, -, -, -, rfl⟩ := channelDue_iff.mp hj
    cases hq
    exact hj
  · obtain ⟨r, -, hr⟩ := List.mem_filterMap.mp h
    obtain ⟨a, -, -, rfl⟩ := refugeDue_iff.mp hr
    cases hq

/-- R50, R51: no target has two due polls on a bus. -/
theorem duePolls_distinct (s : State) (b : Bus) : (duePolls s b).Pairwise fun p q => p.target ≠ q.target := by
  have hchan {i : Fin 16} {q : Poll} (h : channelDue s b i = some q) : q.target = .chan i := by
    obtain ⟨f, p, n, -, -, -, -, -, -, -, -, rfl⟩ := channelDue_iff.mp h
    rfl
  have hrefuge {r : Fin 4} {q : Poll} (h : refugeDue s b r = some q) : q.target = .refuge r := by
    obtain ⟨a, -, -, rfl⟩ := refugeDue_iff.mp h
    rfl
  have hchannels : allChannels.Nodup := by decide
  have hrefuges : allRefuges.Nodup := by decide
  refine List.pairwise_append.mpr ⟨?_, ?_, fun p hp q hq => ?_⟩
  · refine List.pairwise_filterMap.mpr (hchannels.imp fun {i j} hne p hp q hq heq => hne ?_)
    rw [hchan hp, hchan hq] at heq
    exact Target.chan.inj heq
  · refine List.pairwise_filterMap.mpr (hrefuges.imp fun {i j} hne p hp q hq heq => hne ?_)
    rw [hrefuge hp, hrefuge hq] at heq
    exact Target.refuge.inj heq
  · obtain ⟨i, -, hi⟩ := List.mem_filterMap.mp hp
    obtain ⟨r, -, hr⟩ := List.mem_filterMap.mp hq
    rw [hchan hi, hrefuge hr]
    nofun

/-- R61: a channel is polled on one bus alone. -/
theorem dueAt_bus {n m : Nat} {c : Bus} {p : Poll} (hq : q ∈ dueAt n b s) (hp : p ∈ dueAt m c s) (hqt : q.target = .chan i)
    (hpt : p.target = .chan i) : c = b := by
  obtain ⟨f, x, k, hf, hx, -, hb, -⟩ := channelDue_iff.mp (mem_duePolls_chan hq hqt)
  obtain ⟨f', x', k', hf', hx', -, hc, -⟩ := channelDue_iff.mp (mem_duePolls_chan hp hpt)
  have hcfg : some f = some f' := hf.symm.trans hf'
  cases hcfg
  have hpoll : some x = some x' := hx.symm.trans hx'
  cases hpoll
  exact hc.symm.trans hb

end

end Sys2Proof.Machine
end

section
/-! PROOFS. A sensor bus at a round start (3.2 to 3.4). -/

namespace Sys2Proof.Machine

-- Declarations are elaborated one after another: in a text of this length the threads of many at once would not fit the memory limit.
set_option Elab.async false

/-! ## SKIPPED (R52) -/

/-- No channel's SKIPPED changes. -/
structure SkippedStand (s t : State) : Prop where
  stand : ∀ i : Fin 16, (t.channel i).skipped = (s.channel i).skipped

namespace SkippedStand

theorem refl (s : State) : SkippedStand s s := ⟨fun _ => rfl⟩

theorem trans {s t u : State} (h : SkippedStand s t) (k : SkippedStand t u) : SkippedStand s u := ⟨fun i => (k.stand i).trans (h.stand i)⟩

theorem of_channels {s t : State} (h : t.gcu.channels = s.gcu.channels) : SkippedStand s t := ⟨fun i => by rw [State.channel, h]; rfl⟩

theorem forEach {α : Type} {f : α → State → State} (hf : ∀ x t, SkippedStand t (f x t)) (xs : List α) (s : State) :
    SkippedStand s (forEach xs f s) := forEach_invariant (P := SkippedStand s) (.refl s) fun x _ _ ht => ht.trans (hf x _)

theorem of_one {i : Fin 16} {s t : State} (h : (t.channel i).skipped = (s.channel i).skipped) (ho : OtherChannels i s t) : SkippedStand s t := by
  refine ⟨fun j => ?_⟩
  by_cases hj : j = i
  · exact hj ▸ h
  · rw [ho j hj]

end SkippedStand

section
variable {s : State} {b : Bus} {high : Bool}

theorem setChannel_skipped {i : Fin 16} {c : Channel} (h : c.skipped = (s.channel i).skipped) : SkippedStand s (s.setChannel i c) :=
  .of_one (i := i) (by rw [State.channel_setChannel]; exact h) fun j hj => State.channel_setChannel_of_ne s i j c hj

theorem commitChannel_skipped {i : Fin 16} {c : Channel} (h : c.skipped = (s.channel i).skipped) : SkippedStand s (commitChannel i c s) :=
  .of_one (i := i) (by rw [commitChannel_channel]; exact h) (commitChannel_others i c s)

theorem failPolls_skipped (polls : List Poll) (s : State) : SkippedStand s (failPolls polls s) := by
  refine .forEach (fun p t => ?_) polls s
  cases p.target with
  | chan i =>
    show SkippedStand t (channelMiss i .busFailed t)
    unfold channelMiss
    simp only
    split
    · split
      · split
        · exact commitChannel_skipped rfl
        · exact .refl t
      · exact .refl t
    · exact .refl t
  | refuge r =>
    show SkippedStand t (if (t.refuge r).state = .unused then t else refugeMiss r t)
    split
    · exact .refl t
    · exact .of_channels (refugeMiss_effect r t).channels

theorem releaseStep_skipped (b : Bus) (high : Bool) (s : State) : SkippedStand s (releaseStep b high s) := by
  have hbus (f : BusMaster → BusMaster) (t : State) : SkippedStand t (t.updBus b f) := .of_channels rfl
  unfold releaseStep failBus
  simp only
  split
  · split
    · exact hbus ..
    split
    · exact (hbus ..).trans (failPolls_skipped ..)
    · exact hbus ..
  · split <;> exact hbus ..
  · exact .refl s

/-! ## The release step (R46, R47) -/

/-- What the release step makes of a bus: IDLE with the lines high, one sequence more, or FAILED. -/
def BusMaster.released (high : Bool) (m : BusMaster) : BusMaster :=
  match m.state with
  | .releasing =>
    if high then m.toIdle
    else if 3 ≤ m.release then { m with state := .failed, list := [], linesHigh := false }
    else { m with release := m.release + 1, linesHigh := false }
  | .failed => if high then m.toIdle else { m with linesHigh := false }
  | _ => m

theorem BusMaster.released_releasing {m : BusMaster} (h : m.state = .releasing) : m.released high
    = if high then m.toIdle
      else if 3 ≤ m.release then { m with state := .failed, list := [], linesHigh := false }
      else { m with release := m.release + 1, linesHigh := false } := by
  unfold released
  split
  next => rfl
  next hf => exact absurd (h.symm.trans hf) (by decide)
  next hne _ => exact absurd h hne

theorem BusMaster.released_failed {m : BusMaster} (h : m.state = .failed) : m.released high
    = if high then m.toIdle else { m with linesHigh := false } := by
  unfold released
  split
  next hr => exact absurd (h.symm.trans hr) (by decide)
  next => rfl
  next _ hne => exact absurd h hne

theorem BusMaster.released_other {m : BusMaster} (hr : m.state ≠ .releasing) (hf : m.state ≠ .failed) : m.released high = m := by
  unfold released
  split
  next h => exact absurd h hr
  next h => exact absurd h hf
  next => rfl

theorem releaseStep_bus (b : Bus) (high : Bool) (s : State) : (releaseStep b high s).bus b = (s.bus b).released high := by
  unfold releaseStep failBus
  simp only
  split
  next hs =>
    rw [BusMaster.released_releasing hs]
    split
    · exact bus_updBus ..
    split
    · rw [failPolls_bus, bus_updBus]
    · exact bus_updBus ..
  next hs =>
    rw [BusMaster.released_failed hs]
    split <;> exact bus_updBus ..
  next hr hf => rw [BusMaster.released_other hr hf]

theorem BusMaster.released_frame (high : Bool) (m : BusMaster) : (m.released high).started = m.started
    ∧ (m.released high).modeInUse = m.modeInUse ∧ (m.released high).inFlight = m.inFlight := by
  unfold released
  split
  · split
    · exact ⟨rfl, rfl, rfl⟩
    split <;> exact ⟨rfl, rfl, rfl⟩
  · split <;> exact ⟨rfl, rfl, rfl⟩
  · exact ⟨rfl, rfl, rfl⟩

theorem BusMaster.released_holds {m : BusMaster} (h : BusHolds high m) : (m.released high).state ≠ .failed ∧ (m.released high).list = m.list := by
  unfold released
  split
  next hs =>
    obtain hhigh | ⟨-, hcount⟩ := h
    · rw [if_pos hhigh]; exact ⟨by simp [toIdle], rfl⟩
    · split
      · exact ⟨by simp [toIdle], rfl⟩
      · rw [if_neg (Nat.not_le.mpr (hcount hs))]
        exact ⟨by simp [hs], rfl⟩
  next hs =>
    obtain hhigh | ⟨hne, -⟩ := h
    · rw [if_pos hhigh]; exact ⟨by simp [toIdle], rfl⟩
    · exact absurd hs hne
  next hne => exact ⟨hne, rfl⟩

theorem BusMaster.released_fails {m : BusMaster} (h : ¬ BusHolds high m) : (m.released high).state = .failed := by
  obtain ⟨hlow, hfails⟩ := not_or.mp h
  have hl : high = false := by simpa using hlow
  subst hl
  unfold released
  split
  next hs =>
    split
    · contradiction
    split
    · rfl
    next hn => exact absurd ⟨by simp [hs], fun _ => Nat.not_le.mp hn⟩ hfails
  next hs => exact hs
  next hne hnf => exact absurd ⟨hnf, fun hr => absurd hr hne⟩ hfails

/-! ## The due polls join (R52) -/

theorem joins_subset (held : List Nat) (ps : List Poll) : joins held ps ⊆ ps := by
  induction ps generalizing held with
  | nil => exact List.Subset.refl _
  | cons p ps ih =>
    unfold joins
    split
    · exact List.Subset.trans (ih held) (List.subset_cons_self p ps)
    · exact List.cons_subset_cons p (ih _)

/-- How a list of due polls, no two for one target, has joined the list of a bus. -/
structure Joined (b : Bus) (held : List Nat) (ps : List Poll) (s t : State) : Prop where
  bus : t.bus b = { s.bus b with list := (s.bus b).list ++ joins held ps }
  others : ∀ i : Fin 16, (∀ p ∈ ps, p.target ≠ .chan i) → (t.channel i).skipped = (s.channel i).skipped
  dropped : ∀ (i : Fin 16) (p : Poll), p ∈ ps → p.target = .chan i → p ∉ joins held ps → (t.channel i).skipped = true
  joined : ∀ (i : Fin 16) (p : Poll), p ∈ joins held ps → p.target = .chan i → (t.channel i).skipped = (s.channel i).skipped

theorem joinPoll_drops {p : Poll} (h : (s.bus b).holds p.addr = true) : (joinPoll b p s).bus b = s.bus b
    ∧ (∀ i : Fin 16, p.target ≠ .chan i → (joinPoll b p s).channel i = s.channel i)
    ∧ ∀ i : Fin 16, p.target = .chan i → ((joinPoll b p s).channel i).skipped = true := by
  unfold joinPoll
  rw [if_pos h]
  cases ht : p.target with
  | refuge r => exact ⟨rfl, fun _ _ => rfl, nofun⟩
  | chan j =>
    refine ⟨rfl, fun i hi => State.channel_setChannel_of_ne _ _ _ _ fun h => hi (by rw [h]), fun i hi => ?_⟩
    cases hi
    simp only [State.channel_setChannel]

theorem joinPoll_joins {p : Poll} (h : (s.bus b).holds p.addr = false) : joinPoll b p s = s.updBus b fun m => { m with list := m.list ++ [p] } := by
  unfold joinPoll
  rw [if_neg (by simp [h])]

theorem joinPolls_joined {held : List Nat} {ps : List Poll} (hd : ps.Pairwise fun p q => p.target ≠ q.target)
    (hh : ∀ a, (s.bus b).holds a = true ↔ a ∈ held) : Joined b held ps s (forEach ps (joinPoll b) s) := by
  induction ps generalizing held s with
  | nil => exact ⟨by simp [joins, forEach], fun _ _ => rfl, nofun, nofun⟩
  | cons p ps ih =>
    obtain ⟨hp, hd⟩ := List.pairwise_cons.mp hd
    have hnew : p ∉ ps := fun hin => hp p hin rfl
    have hrest {i : Fin 16} (hi : p.target = .chan i) : ∀ q ∈ ps, q.target ≠ .chan i := fun q hq h => hp q hq (hi.trans h.symm)
    have hcons : forEach (p :: ps) (joinPoll b) s = forEach ps (joinPoll b) (joinPoll b p s) := rfl
    rw [hcons]
    by_cases ha : p.addr ∈ held
    · have hjoins : joins held (p :: ps) = joins held ps := by rw [joins, if_pos ha]
      obtain ⟨hbus, hothers, hskipped⟩ := joinPoll_drops ((hh p.addr).mpr ha)
      obtain ⟨kbus, kothers, kdropped, kjoined⟩ := ih (s := joinPoll b p s) hd (by rw [hbus]; exact hh)
      rw [hbus] at kbus
      refine ⟨by rw [hjoins]; exact kbus, fun i hi => ?_, fun i q hq hqi hnot => ?_, fun i q hq hqi => ?_⟩
      · obtain ⟨hpi, hps⟩ := List.forall_mem_cons.mp hi
        rw [kothers i hps, hothers i hpi]
      · rw [hjoins] at hnot
        obtain rfl | hq := List.mem_cons.mp hq
        · rw [kothers i (hrest hqi)]
          exact hskipped i hqi
        · exact kdropped i q hq hqi hnot
      · rw [hjoins] at hq
        have hpi : p.target ≠ .chan i := fun h => hp q (joins_subset _ _ hq) (h.trans hqi.symm)
        rw [kjoined i q hq hqi, hothers i hpi]
    · have hjoins : joins held (p :: ps) = p :: joins (p.addr :: held) ps := by rw [joins, if_neg ha]
      have hfree : (s.bus b).holds p.addr = false := by rw [Bool.eq_false_iff, Ne, hh]; exact ha
      have hholds (a : Nat) : ((s.updBus b fun m => { m with list := m.list ++ [p] }).bus b).holds a = true ↔ a ∈ p.addr :: held := by
        rw [bus_updBus, List.mem_cons, ← hh, BusMaster.holds, BusMaster.holds, List.any_append]
        simp only [List.any_cons, List.any_nil, Bool.or_false, Bool.or_eq_true, beq_iff_eq]
        tauto
      obtain ⟨kbus, kothers, kdropped, kjoined⟩ := ih (s := s.updBus b fun m => { m with list := m.list ++ [p] }) hd hholds
      rw [bus_updBus] at kbus
      rw [joinPoll_joins hfree]
      refine ⟨by rw [hjoins, kbus]; simp, fun i hi => ?_, fun i q hq hqi hnot => ?_, fun i q hq hqi => ?_⟩
      · obtain ⟨-, hps⟩ := List.forall_mem_cons.mp hi
        exact kothers i hps
      · rw [hjoins] at hnot
        obtain rfl | hq := List.mem_cons.mp hq
        · exact absurd List.mem_cons_self hnot
        · exact kdropped i q hq hqi fun h => hnot (List.mem_cons_of_mem p h)
      · rw [hjoins] at hq
        obtain rfl | hq := List.mem_cons.mp hq
        · exact kothers i (hrest hqi)
        · exact kjoined i q hq hqi

/-! ## The work of a bus (R45 to R53) -/

/-- A bus once the mode last reported is in use and its start count is 0. -/
def opensBus (b : Bus) (s : State) : State := (applyMode b s).updBus b fun m => { m with started := 0 }

theorem busRound_eq (b : Bus) (high : Bool) (s : State) : busRound b high s = addDue b (releaseStep b high (opensBus b s)) := rfl

theorem opensBus_bus (b : Bus) (s : State) : (opensBus b s).bus b
    = { s.bus b with started := 0, modeInUse := (s.bus b).modeTold, list := standing b s } := by
  rw [opensBus, bus_updBus, applyMode, bus_updBus, standing]
  simp

theorem opensBus_effect (b : Bus) (s : State) : Effect [.buses] [] s (opensBus b s) :=
  (applyMode_effect b s).trans (updBus_effect rfl fun h => ⟨Nat.zero_le _, h.release, h.flight, h.failed⟩)

/-- A bus after its release step. -/
theorem released_bus (b : Bus) (high : Bool) (s : State) : (releaseStep b high (opensBus b s)).bus b
    = ({ s.bus b with started := 0, modeInUse := (s.bus b).modeTold, list := standing b s } : BusMaster).released high := by
  rw [releaseStep_bus, opensBus_bus]

theorem released_due (b : Bus) (high : Bool) (s : State) :
    duePolls (releaseStep b high (opensBus b s)) b = dueAt s.tb.running b s := by
  have heff := (opensBus_effect b s).mono.trans (releaseStep_effect b high (opensBus b s))
  obtain ⟨-, hmode, -⟩ := BusMaster.released_frame high { s.bus b with started := 0, modeInUse := (s.bus b).modeTold, list := standing b s }
  obtain ⟨hrunning, -, -, -⟩ : _ ∧ _ ∧ _ ∧ _ := by simpa only [Part.same, Prod.mk.injEq] using heff.same .clock (by decide)
  have hsame := heff.schedule
  refine SameSchedule.duePolls ⟨hsame.channels, hsame.refuges⟩ (s := (s.updTb fun t => { t with running := s.tb.running }).updBus b fun m => { m with modeInUse := m.modeTold }) hrunning ?_
  rw [released_bus, hmode, bus_updBus]
  rfl

end

end Sys2Proof.Machine
end

section
/-! PROOFS. A round start takes each sensor bus through its release step and its due polls (3.2 to 3.4). -/

namespace Sys2Proof.Machine

-- Declarations are elaborated one after another: in a text of this length the threads of many at once would not fit the memory limit.
set_option Elab.async false

section
variable {s t v w : State} {b : Bus} {high : Bool}

/-- The head addresses that have their place on a bus. -/
def placesOf (b : Bus) (s : State) : List Nat := (standing b s).map Poll.addr ++ (s.bus b).inFlight.toList.map fun f => f.poll.addr

/-- A bus as a round start opens it. -/
def BusMaster.opened (b : Bus) (s : State) : BusMaster := { s.bus b with started := 0, modeInUse := (s.bus b).modeTold, list := standing b s }

theorem BusMaster.holds_iff {m : BusMaster} {a : Nat} :
    m.holds a = true ↔ a ∈ m.list.map Poll.addr ++ m.inFlight.toList.map fun f => f.poll.addr := by
  have hlist : (m.list.any fun p => p.addr == a) = true ↔ a ∈ m.list.map Poll.addr := by simp
  unfold holds
  rw [Bool.or_eq_true, hlist, List.mem_append]
  cases m.inFlight with
  | none => simp
  | some f => simp only [beq_iff_eq, Option.toList_some, List.map_cons, List.map_nil, List.mem_singleton, eq_comm (a := a)]

/-- R52: where the bus is not FAILED, the due polls join its list. -/
theorem busRound_holds (h : BusHolds high (s.bus b)) :
    Joined b (placesOf b s) (dueAt s.tb.running b s) (releaseStep b high (opensBus b s)) (busRound b high s) := by
  have hopen : BusHolds high (BusMaster.opened b s) := h
  obtain ⟨hne, hlist⟩ := BusMaster.released_holds hopen
  obtain ⟨-, -, hflight⟩ := BusMaster.released_frame high (BusMaster.opened b s)
  have hbus : (releaseStep b high (opensBus b s)).bus b = (BusMaster.opened b s).released high := released_bus b high s
  have hdue : addDue b (releaseStep b high (opensBus b s))
      = forEach (dueAt s.tb.running b s) (joinPoll b) (releaseStep b high (opensBus b s)) := by
    rw [addDue, hbus, if_neg hne, released_due]
  rw [busRound_eq, hdue]
  refine joinPolls_joined (by rw [← released_due b high]; exact duePolls_distinct ..) fun a => ?_
  rw [hbus, BusMaster.holds_iff, hlist, hflight]
  exact Iff.rfl

/-- R47: where the bus is FAILED, they are misses. -/
theorem busRound_fails (h : ¬ BusHolds high (s.bus b)) :
    (busRound b high s).bus b = (BusMaster.opened b s).released high ∧ SkippedStand (releaseStep b high (opensBus b s)) (busRound b high s) := by
  have hopen : ¬ BusHolds high (BusMaster.opened b s) := h
  have hbus : (releaseStep b high (opensBus b s)).bus b = (BusMaster.opened b s).released high := released_bus b high s
  have hdue : addDue b (releaseStep b high (opensBus b s))
      = failPolls (duePolls (releaseStep b high (opensBus b s)) b) (releaseStep b high (opensBus b s)) := by
    rw [addDue, hbus, if_pos (BusMaster.released_fails hopen)]
  rw [busRound_eq, hdue]
  exact ⟨(failPolls_bus ..).trans hbus, failPolls_skipped ..⟩

theorem busRound_bus (b : Bus) (high : Bool) (s : State) : ∃ l, (busRound b high s).bus b = { (BusMaster.opened b s).released high with list := l }
    ∧ (BusHolds high (s.bus b) → l = standing b s ++ joining s.tb.running b s)
    ∧ (¬ BusHolds high (s.bus b) → l = ((BusMaster.opened b s).released high).list) := by
  by_cases h : BusHolds high (s.bus b)
  · have hopen : BusHolds high (BusMaster.opened b s) := h
    obtain ⟨-, hlist⟩ := BusMaster.released_holds hopen
    have hbus := (busRound_holds h).bus
    rw [released_bus] at hbus
    refine ⟨_, hbus, fun _ => ?_, fun hn => absurd h hn⟩
    exact congrArg (· ++ joining s.tb.running b s) hlist
  · obtain ⟨hbus, -⟩ := busRound_fails h
    exact ⟨_, hbus, fun hy => absurd hy h, fun _ => rfl⟩

theorem releaseStep_opens_skipped (b : Bus) (high : Bool) (s : State) : SkippedStand s (releaseStep b high (opensBus b s)) :=
  SkippedStand.trans (t := opensBus b s) (.of_channels (opensBus_effect b s).channels) (releaseStep_skipped ..)

/-- R52: SKIPPED after the work of one bus. -/
theorem busRound_skipped (b : Bus) (high : Bool) (s : State) :
    (∀ i : Fin 16, (∀ p ∈ dueAt s.tb.running b s, p.target ≠ .chan i) → ((busRound b high s).channel i).skipped = (s.channel i).skipped)
    ∧ (∀ (i : Fin 16) (p : Poll), p ∈ dueAt s.tb.running b s → p.target = .chan i → BusHolds high (s.bus b) →
        p ∉ joining s.tb.running b s → ((busRound b high s).channel i).skipped = true)
    ∧ (∀ (i : Fin 16) (p : Poll), p ∈ dueAt s.tb.running b s → p.target = .chan i →
        (BusHolds high (s.bus b) → p ∈ joining s.tb.running b s) → ((busRound b high s).channel i).skipped = (s.channel i).skipped) := by
  have hrelease := releaseStep_opens_skipped b high s
  by_cases h : BusHolds high (s.bus b)
  · obtain ⟨-, hothers, hdropped, hjoined⟩ := busRound_holds h
    exact ⟨fun i hi => (hothers i hi).trans (hrelease.stand i), fun i p hp ht _ hn => hdropped i p hp ht hn,
      fun i p _ ht hj => (hjoined i p (hj h) ht).trans (hrelease.stand i)⟩
  · obtain ⟨-, hkept⟩ := busRound_fails h
    have hall := hrelease.trans hkept
    exact ⟨fun i _ => hall.stand i, fun i p _ _ hy _ => absurd hy h, fun i p _ _ _ => hall.stand i⟩

theorem busRound_meets (b : Bus) (high : Bool) (s : State) : BusRound high b s (busRound b high s) := by
  obtain ⟨l, hbus, hholds, hfails⟩ := busRound_bus b high s
  obtain ⟨hstarted, hmode, hflight⟩ := BusMaster.released_frame high (BusMaster.opened b s)
  obtain ⟨-, hskipped, hstays⟩ := busRound_skipped b high s
  have hrunning : (busRound b high s).tb.running = s.tb.running := by
    obtain ⟨h, -⟩ := Prod.mk.inj ((busRound_effect b high s).same .clock (by decide))
    exact h
  have hreleasing (h : (s.bus b).state = .releasing) := BusMaster.released_releasing (high := high) (m := BusMaster.opened b s) h
  have hfailed (h : (s.bus b).state = .failed) := BusMaster.released_failed (high := high) (m := BusMaster.opened b s) h
  exact {
    started := by rw [hbus]; exact hstarted
    mode := by rw [hbus]; exact hmode
    flight := by rw [hbus]; exact hflight
    running := fun h => by
      have hsame : (BusMaster.opened b s).released high = BusMaster.opened b s :=
        BusMaster.released_other (by rintro hr; obtain h | h := h <;> cases h.symm.trans hr) (by rintro hr; obtain h | h := h <;> cases h.symm.trans hr)
      rw [hbus, hsame]
      rfl
    released := fun h hh => by
      have hidle : (BusMaster.opened b s).released high = (BusMaster.opened b s).toIdle := by
        obtain h | h := h
        · rw [hreleasing h, if_pos hh]
        · rw [hfailed h, if_pos hh]
      rw [hbus, hidle]
      exact ⟨rfl, rfl⟩
    again := fun h hl hr => by
      have hstep : (BusMaster.opened b s).released high
          = { BusMaster.opened b s with release := (BusMaster.opened b s).release + 1, linesHigh := false } := by
        rw [hreleasing h, if_neg (by simp [hl])]
        exact if_neg (Nat.not_le.mpr hr)
      rw [hbus, hstep]
      exact ⟨h, rfl⟩
    fails := fun h hl hr => by
      have hnot : ¬ BusHolds high (s.bus b) := by
        rintro (hh | ⟨-, hc⟩)
        · rw [hl] at hh; cases hh
        · exact absurd (hc h) (Nat.not_lt.mpr hr)
      have hstep : (BusMaster.opened b s).released high = { BusMaster.opened b s with state := .failed, list := [], linesHigh := false } := by
        rw [hreleasing h, if_neg (by simp [hl])]
        exact if_pos hr
      rw [hbus, hfails hnot, hstep]
      exact ⟨rfl, rfl⟩
    failed := fun h hl => by
      have hnot : ¬ BusHolds high (s.bus b) := by
        rintro (hh | ⟨hne, -⟩)
        · rw [hl] at hh; cases hh
        · exact hne h
      have hstep : (BusMaster.opened b s).released high = { BusMaster.opened b s with linesHigh := false } := by
        rw [hfailed h, if_neg (by simp [hl])]
      rw [hbus, hfails hnot, hstep]
      exact ⟨h, rfl⟩
    list := fun h => by rw [hbus, hrunning, hholds h]
    skipped := fun i p hp ht h hn => hskipped i p (hrunning ▸ hp) ht h (hrunning ▸ hn)
    notSkipped := fun i p hp ht hj => hstays i p (hrunning ▸ hp) ht (hrunning ▸ hj) }

/-! ## Between the blocks -/

/-- What the work of one bus reads and leaves: another state that agrees in it serves as well. -/
structure BusAgrees (b : Bus) (s t : State) : Prop where
  bus : t.bus b = s.bus b
  schedule : SameSchedule s t

theorem BusAgrees.standing (h : BusAgrees b s t) : standing b t = standing b s :=
  h.schedule.standing (by rw [h.bus]) (by rw [h.bus]) (by rw [h.bus])

theorem BusAgrees.dueAt (h : BusAgrees b s t) (n : Nat) : dueAt n b t = dueAt n b s := h.schedule.dueAt n (by rw [h.bus])

theorem BusAgrees.joining (h : BusAgrees b s t) (n : Nat) : joining n b t = joining n b s := by
  rw [Machine.joining, Machine.joining, h.standing, h.dueAt, h.bus]

/-- A bus as it is but for the mode last reported to it. -/
def BusMaster.untold (m : BusMaster) : BusMaster := { m with modeTold := .mains }

/-- The work of a bus, seen from a state before it and a state after it. -/
theorem BusRound.widen (h : BusRound high b v w) (hv : BusAgrees b s v) (hbus : (t.bus b).untold = (w.bus b).untold)
    (hrun : t.tb.running = w.tb.running)
    (hskip : ∀ (i : Fin 16) (p : Poll), p ∈ Machine.dueAt t.tb.running b s → p.target = .chan i →
      (v.channel i).skipped = (s.channel i).skipped ∧ (t.channel i).skipped = (w.channel i).skipped) : BusRound high b s t := by
  have hf {α : Type} (f : BusMaster → α) (hfu : ∀ m, f m.untold = f m := by intro m; rfl) : f (t.bus b) = f (w.bus b) := by
    rw [← hfu (t.bus b), hbus, hfu]
  have hstate := hf BusMaster.state
  have hlist := hf BusMaster.list
  have hrelease := hf BusMaster.release
  have hflight := hf BusMaster.inFlight
  have hstarted := hf BusMaster.started
  have hmode := hf BusMaster.modeInUse
  have hsv := hv.bus
  have hstanding := hv.standing
  have hdue := hv.dueAt t.tb.running
  have hjoin := hv.joining t.tb.running
  exact {
    started := hstarted.trans h.started
    mode := hmode.trans (by rw [h.mode, hsv])
    flight := hflight.trans (by rw [h.flight, hsv])
    running := fun hs => by rw [hstate, ← hsv]; exact h.running (hsv.symm ▸ hs)
    released := fun hs hh => by rw [hstate, hrelease]; exact h.released (hsv.symm ▸ hs) hh
    again := fun hs hl hr => by rw [hstate, hrelease, ← hsv]; exact h.again (hsv.symm ▸ hs) hl (hsv.symm ▸ hr)
    fails := fun hs hl hr => by rw [hstate, hlist]; exact h.fails (hsv.symm ▸ hs) hl (hsv.symm ▸ hr)
    failed := fun hs hl => by rw [hstate, hlist, ← hstanding]; exact h.failed (hsv.symm ▸ hs) hl
    list := fun hs => by rw [hlist, ← hstanding, ← hjoin, hrun]; exact h.list (hsv.symm ▸ hs)
    skipped := fun i p hp ht hs hn => by
      obtain ⟨-, htw⟩ := hskip i p hp ht
      rw [htw]
      rw [← hdue, hrun] at hp
      rw [← hjoin, hrun] at hn
      exact h.skipped i p hp ht (hsv.symm ▸ hs) hn
    notSkipped := fun i p hp ht hj => by
      obtain ⟨hvs, htw⟩ := hskip i p hp ht
      rw [htw, ← hvs]
      rw [← hdue, hrun] at hp
      rw [← hjoin, hrun] at hj
      exact h.notSkipped i p hp ht fun hs => hj (hsv ▸ hs) }

end

end Sys2Proof.Machine
end

section
/-! PROOFS. The lines and the filling of the positions at a round start (2.2, 2.6, 2.9). -/

namespace Sys2Proof.Machine

-- Declarations are elaborated one after another: in a text of this length the threads of many at once would not fit the memory limit.
set_option Elab.async false

/-! ## LINE_UP (R36) -/

section
variable {ps : List Part} {out : List Law} {s t : State}

theorem Effect.plain (h : Effect ps out s t) (l : Line) (hp : Part.line ∉ ps := by decide) : (t.cs.status.get l).plain = (s.cs.status.get l).plain := by
  obtain ⟨h1, h2⟩ := Prod.mk.inj (h.same .line hp)
  cases l
  · exact h1
  · exact h2

theorem Effect.holding (h : Effect ps out s t) (hp : Part.flow ∉ ps := by decide) : t.cs.holding = s.cs.holding :=
  (Prod.mk.inj (h.same .flow hp)).1

theorem Effect.announce (h : Effect ps out s t) (hp : Part.flow ∉ ps := by decide) : t.cs.announce = s.cs.announce :=
  (Prod.mk.inj (Prod.mk.inj (h.same .flow hp)).2).1

theorem Effect.holdParams (h : Effect ps out s t) (hp : Part.flowConf ∉ ps := by decide) : t.cs.holdParams = s.cs.holdParams :=
  (Prod.mk.inj (h.same .flowConf hp)).2

theorem LineStatus.plain_fields {a b : LineStatus} (h : a.plain = b.plain) :
    a.lineUp = b.lineUp ∧ a.lostThisRound = b.lostThisRound ∧ a.goodCell = b.goodCell :=
  ⟨(congrArg LineStatus.lineUp h :), (congrArg LineStatus.lostThisRound h :), (congrArg LineStatus.goodCell h :)⟩

/-- The status of a line before LINE_UP is set: CARRIER_LOST may have been latched. -/
theorem latchIf_plain (l k : Line) (b : Bool) (s : State) :
    ((if b = true then latchInd l .carrierLost s else s).cs.status.get k).plain = (s.cs.status.get k).plain := by
  split
  · exact (latchInd_effect l .carrierLost s).plain k
  · rfl

theorem lineRound_status (l : Line) (rep : CarrierReport) (s : State) : ((lineRound l rep s).cs.status.get l).lineUp
      = (decide (rep = .throughout) && !(s.cs.status.get l).lostThisRound && (s.cs.status.get l).goodCell)
    ∧ ((lineRound l rep s).cs.status.get l.other).plain = (s.cs.status.get l.other).plain := by
  have hset (t : State) (b up : Bool) : ((if b = true then t.updStatus l fun st => { st with
        lineUp := up, carrier := carrierNow rep, lostThisRound := false, goodCell := false }
      else postLineEvent l (t.updStatus l fun st => { st with
        lineUp := up, carrier := carrierNow rep, lostThisRound := false, goodCell := false })).cs.status.get l).lineUp = up
      ∧ ((if b = true then t.updStatus l fun st => { st with
        lineUp := up, carrier := carrierNow rep, lostThisRound := false, goodCell := false }
      else postLineEvent l (t.updStatus l fun st => { st with
        lineUp := up, carrier := carrierNow rep, lostThisRound := false, goodCell := false })).cs.status.get l.other) = t.cs.status.get l.other := by
    cases b <;> cases l <;> exact ⟨rfl, rfl⟩
  have hplain := latchIf_plain l l (carrierPassed (s.cs.status.get l) rep) s
  have hother := latchIf_plain l l.other (carrierPassed (s.cs.status.get l) rep) s
  obtain ⟨-, hlost, hgood⟩ := LineStatus.plain_fields hplain
  unfold lineRound
  simp only
  generalize (if carrierPassed (s.cs.status.get l) rep = true then latchInd l .carrierLost s else s) = t at *
  obtain ⟨hup, hsame⟩ := hset t (decide ((decide (rep = .throughout) && !(t.cs.status.get l).lostThisRound && (t.cs.status.get l).goodCell)
    = (t.cs.status.get l).lineUp)) (decide (rep = .throughout) && !(t.cs.status.get l).lostThisRound && (t.cs.status.get l).goodCell)
  simp only [decide_eq_true_eq] at hup hsame
  exact ⟨by rw [hup, hlost, hgood], by rw [hsame, hother]⟩

/-- R36: LINE_UP after the round just ended. -/
theorem linesRound_lineUp (smp : Samples) (s : State) (l : Line) :
    ((bothLines (fun l => lineRound l (smp.carrier.get l)) s).cs.status.get l).lineUp = true
      ↔ smp.carrier.get l = .throughout ∧ (s.cs.status.get l).lostThisRound = false ∧ (s.cs.status.get l).goodCell = true := by
  obtain ⟨hout, hin⟩ := lineRound_status .outbye smp.carrier.outbye s
  obtain ⟨kin, kout⟩ := lineRound_status .inbye smp.carrier.inbye (lineRound .outbye smp.carrier.outbye s)
  obtain ⟨-, hlost, hgood⟩ := LineStatus.plain_fields hin
  obtain ⟨hup, -, -⟩ := LineStatus.plain_fields kout
  have hcases (a b c : Bool) : (a && !b && c) = true ↔ a = true ∧ b = false ∧ c = true := by cases a <;> cases b <;> cases c <;> decide
  cases l with
  | outbye =>
    have heq := hup.trans hout
    show (_ : Bool) = true ↔ _
    rw [← decide_eq_true_iff (p := smp.carrier.get .outbye = .throughout), ← hcases, ← Bool.eq_iff_iff]
    exact heq
  | inbye =>
    rw [← decide_eq_true_iff (p := smp.carrier.get .inbye = .throughout), ← hcases, ← Bool.eq_iff_iff]
    refine kin.trans ?_
    rw [show Line.inbye = Line.outbye.other from rfl, hlost, hgood]
    rfl

/-- R31, R33: the work of the lines moves the held counts alone of what flow control keeps. -/
theorem lineWork_flow (smp : Samples) (renewed : Bool) (s : State) :
    (lineWork smp none renewed s).cs.holding = s.cs.holding ∧ (lineWork smp none renewed s).cs.announce = s.cs.announce
      ∧ ∀ l, ((lineWork smp none renewed s).cs.status.get l).lineUp = ((bothLines (fun l => lineRound l (smp.carrier.get l)) s).cs.status.get l).lineUp := by
  have hround (l : Line) (u : State) := lineRound_effect l (smp.carrier.get l) u
  have hlines : Effect (.line :: telling) [] s (bothLines (fun l => lineRound l (smp.carrier.get l)) s) := (hround ..).trans (hround ..)
  rw [lineWork_none]
  generalize bothLines (fun l => lineRound l (smp.carrier.get l)) s = t at *
  have hages := (remoteTick_effect .outbye (bothLines heldTick t)).trans (remoteTick_effect .inbye _)
  exact ⟨hages.holding.trans hlines.holding, hages.announce.trans hlines.announce, fun l => (LineStatus.plain_fields (hages.plain l)).1⟩

end

/-! ## The filling of the positions (R21, R22, R31) -/

section
variable {l : Line} {held : Bool} {s t : State}

theorem callCells_isSome (l : Line) (is : List (Fin 12)) (s : State) (j : Fin 12) : ((callCells l is s).2.call j).isSome = (s.call j).isSome := by
  induction is generalizing s with
  | nil => rfl
  | cons i is ih =>
    rw [callCells]
    split
    next e he =>
      split
      · split
        next c e' _ =>
          show ((callCells l is (s.setCall i (some e'))).2.call j).isSome = _
          rw [ih]
          by_cases hj : j = i
          · subst hj
            simp [he]
          · rw [State.call_setCall_of_ne _ _ _ _ hj]
        next => exact ih s
      · exact ih s
    next => exact ih s

/-- What the filling of a line leaves of the Cell Switch and of the calls. -/
theorem fillLine_frame (l : Line) (held : Bool) (s : State) : (fillLine l held s).cs.holding = s.cs.holding
    ∧ (fillLine l held s).cs.announce = (if sendsOn s l = true ∧ sendsCellZero s l = true then s.cs.announce.set l none else s.cs.announce)
    ∧ (∀ j, ((fillLine l held s).call j).isSome = (s.call j).isSome) ∧ (fillLine l held s).tb = s.tb := by
  have hcalls : (callCells l allCalls (cellZero l s).2).2.cs = (cellZero l s).2.cs := (callCells_blocks l allCalls _) .cs (by decide)
  have hzero := (cellZero_blocks l s).2
  have hannounce := cellZero_announce l s
  have hcall (j : Fin 12) : (cellZero l s).2.call j = s.call j :=
    State.call_of_entries (congrArg CallUnit.entries ((cellZero_effect l s).block .ctu)) j
  have htb := (fillLine_effect l held s).block .tb
  refine ⟨?_, ?_, fun j => ?_, htb⟩
  · unfold fillLine
    split
    · show (callCells l allCalls (cellZero l s).2).2.cs.holding = _
      rw [hcalls, hzero]
    · rfl
  · unfold fillLine
    split
    next hs =>
      show (callCells l allCalls (cellZero l s).2).2.cs.announce = _
      rw [hcalls, hannounce]
      cases hz : sendsCellZero s l <;> simp [hs]
    next hs => simp [hs]
  · unfold fillLine
    split
    · show ((callCells l allCalls (cellZero l s).2).2.call j).isSome = _
      rw [callCells_isSome, hcall]
    · rfl

theorem sendsOn_congr (h : t.tb = s.tb) (l : Line) : sendsOn t l = sendsOn s l := by
  simp only [sendsOn, State.quiet, State.isHead, h]

theorem sendsCellZero_congr (h : t.tb = s.tb) (l : Line) : sendsCellZero t l = sendsCellZero s l := by
  cases l <;> simp only [sendsCellZero, h]


end

end Sys2Proof.Machine
end

section
/-! PROOFS. The Cell Switch and the calls after the filling of the positions (2.2, 2.6). -/

namespace Sys2Proof.Machine

-- Declarations are elaborated one after another: in a text of this length the threads of many at once would not fit the memory limit.
set_option Elab.async false

section
variable {s t u : State}

/-- R31: both queues examined: each as it stood. -/
theorem examineBoth_frame (u : State) (l : Line) : (bothLines examineQueue u).cs.holding.get l = (examineQueue l u).cs.holding.get l
    ∧ (bothLines examineQueue u).cs.announce.get l = (examineQueue l.other u).cs.announce.get l := by
  obtain ⟨hcs, hother, hsame⟩ := examineQueue_frame .outbye u
  have hqueues : (examineQueue .outbye u).cs.queues = u.cs.queues := by rw [hcs]
  have hparams : (examineQueue .outbye u).cs.holdParams = u.cs.holdParams := by rw [hcs]
  obtain ⟨hholding, hannounce⟩ := examineQueue_congr (l := .inbye) (s := u) (t := examineQueue .outbye u) (by rw [hqueues]) hother hparams hsame
  obtain ⟨-, kother, ksame⟩ := examineQueue_frame .inbye (examineQueue .outbye u)
  cases l with
  | outbye => exact ⟨kother, hannounce⟩
  | inbye => exact ⟨hholding, ksame⟩

theorem fillWork_frame (held : PerLine Bool) (u : State) : (fillWork held u).tb = u.tb
    ∧ (∀ l, (fillWork held u).cs.holding.get l = (examineQueue l u).cs.holding.get l)
    ∧ (∀ l, (fillWork held u).cs.announce.get l
        = if sendsOn u l = true ∧ sendsCellZero u l = true then none else (examineQueue l.other u).cs.announce.get l)
    ∧ ∀ j, ((fillWork held u).call j).isSome = (u.call j).isSome := by
  have hexamined := examineBoth_frame u
  have hcalls (j : Fin 12) : (bothLines examineQueue u).call j = u.call j :=
    State.call_of_entries (congrArg CallUnit.entries ((bothLines_effect examineQueue_effect u).block .ctu)) j
  have htb : (bothLines examineQueue u).tb = u.tb := (bothLines_effect examineQueue_effect u).block .tb
  unfold fillWork
  generalize bothLines examineQueue u = e at *
  obtain ⟨hholding, hannounce, hsome, hfill⟩ := fillLine_frame .outbye (held.get .outbye) e
  obtain ⟨kholding, kannounce, ksome, kfill⟩ := fillLine_frame .inbye (held.get .inbye) (fillLine .outbye (held.get .outbye) e)
  rw [sendsOn_congr (hfill.trans htb), sendsCellZero_congr (hfill.trans htb)] at kannounce
  rw [sendsOn_congr htb, sendsCellZero_congr htb] at hannounce
  refine ⟨(kfill.trans hfill).trans htb, fun l => ?_, fun l => ?_, fun j => ((ksome j).trans (hsome j)).trans (by rw [hcalls])⟩
  · rw [← (hexamined l).1, ← hholding]
    exact congrArg (PerLine.get · l) kholding
  · rw [← (hexamined l).2]
    show (fillLine .inbye (held.get .inbye) (fillLine .outbye (held.get .outbye) e)).cs.announce.get l = _
    rw [kannounce, hannounce]
    cases l with
    | outbye => split <;> split <;> rfl
    | inbye => split <;> split <;> rfl

/-- What the round start leaves of flow control, the LINE_UP apart: the queues, the marks and the announcements as they stood
give it. -/
theorem fillWork_flow (held : PerLine Bool) (hq : u.cs.queues = s.cs.queues) (hh : u.cs.holding = s.cs.holding)
    (ha : u.cs.announce = s.cs.announce) (hp : u.cs.holdParams = s.cs.holdParams) (l : Line) :
    (fillWork held u).cs.holding.get l = (examineQueue l s).cs.holding.get l
      ∧ (fillWork held u).cs.announce.get l
        = if sendsOn u l = true ∧ sendsCellZero u l = true then none else (examineQueue l.other s).cs.announce.get l := by
  obtain ⟨-, hholding, hannounce, -⟩ := fillWork_frame held u
  have hcongr (k : Line) := examineQueue_congr (l := k) (s := s) (t := u) (by rw [hq]) (by rw [hh]) hp (by rw [ha])
  have hself : l.other.other = l := by cases l <;> rfl
  refine ⟨(hholding l).trans (hcongr l).1, ?_⟩
  have hback := (hcongr l.other).2
  rw [hself] at hback
  rw [hannounce, hback]

end

/-! ## The Time Base at a round start from own timing -/

section
variable {s : State} {step : TimeBase → TimeBase}

/-- R17: the step of the Time Base, or the pending command in its place. -/
def steppedTb (step : TimeBase → TimeBase) (b : TimeBase) : TimeBase :=
  match b.pendingCmd with
  | none => step b
  | some p => { applyCommand p.cmd b with pendingCmd := none }

theorem trunkStep_tb (step : TimeBase → TimeBase) (s : State) : (trunkStep step s).tb = steppedTb step s.tb := by
  unfold steppedTb
  cases hp : s.tb.pendingCmd with
  | none => rw [trunkStep_free hp, trunkChanged_tb]; rfl
  | some p => rw [trunkStep_pending (by rw [hp]; nofun), trunkCommandApply_tb hp]

theorem steppedTb_clock (quiet : Bool) (b : TimeBase) : (steppedTb (ownStep quiet) b).running = b.running
    ∧ (steppedTb (ownStep quiet) b).tick = b.tick ∧ (steppedTb (ownStep quiet) b).phaseAge = b.phaseAge := by
  have hhunt (c : TimeBase) : (huntLimit c).running = c.running ∧ (huntLimit c).tick = c.tick ∧ (huntLimit c).phaseAge = c.phaseAge := by
    unfold huntLimit
    split <;> exact ⟨rfl, rfl, rfl⟩
  unfold steppedTb
  split
  · unfold ownStep
    split
    · exact hhunt _
    · exact hhunt _
    · simp only
      split <;> exact ⟨rfl, rfl, rfl⟩
    · exact ⟨rfl, rfl, rfl⟩
  next p _ => cases p.cmd <;> exact ⟨rfl, rfl, rfl⟩

end

end Sys2Proof.Machine
end

section
/-! PROOFS. Round starts from own timing (1.1, 2.2, 2.6, 2.9, 3.2 to 3.4, 7.5, 7.6). -/

namespace Sys2Proof.Machine

-- Declarations are elaborated one after another: in a text of this length the threads of many at once would not fit the memory limit.
set_option Elab.async false

/-! ## From the tick 0 to the step of the Time Base -/

/-- What a round start moves up to the step of the Time Base. -/
abbrev starting : List Part := .clock :: .trunk :: .radio :: .outputs :: .road :: .refuges :: calling

/-- The state in which the lines do their work at a round start. -/
structure RoundStarted (s a : State) : Prop where
  effect : Effect starting [] s a
  running : a.tb.running = (s.tb.running + 1) % 4096
  tick : a.tb.tick = 0
  phase : a.tb.phaseAge = 0
  staged : a.cs.staging.isSome = true
  queues : a.cs.queues = s.cs.queues
  calls : CallsFewer s a

section
variable {smp : Samples} {s a v w t : State} {renewed : Bool}

/-- R1, R17: own timing opens the round, and the Time Base takes its step. -/
theorem ownRound_stages (smp : Samples) (h : ownTimed s.tb = true) : ∃ a renewed, RoundStarted s a
    ∧ ownRound smp s = releaseStaged (fillWork ⟨0 < s.cs.held.outbye, 0 < s.cs.held.inbye⟩ (fieldWork smp (lineWork smp none renewed a))) := by
  have hopen (late : Option Nat) : ∃ a renewed, RoundStarted s a
      ∧ roundWork smp none (trunkStep (ownStep (quietRound smp)))
          (openRound (nextRound (advanceTicks (256 - s.tb.phaseAge) s).tb.running) late (advanceTicks (256 - s.tb.phaseAge) s))
        = releaseStaged (fillWork ⟨0 < s.cs.held.outbye, 0 < s.cs.held.inbye⟩ (fieldWork smp (lineWork smp none renewed a))) := by
    have hticks := advanceTicks_effect (256 - s.tb.phaseAge) s
    have hround := openRound_effect (nextRound (advanceTicks (256 - s.tb.phaseAge) s).tb.running) late (advanceTicks (256 - s.tb.phaseAge) s)
    obtain ⟨o, ho⟩ : ∃ o, o = openRound (nextRound (advanceTicks (256 - s.tb.phaseAge) s).tb.running) late (advanceTicks (256 - s.tb.phaseAge) s) :=
      ⟨_, rfl⟩
    have hrunning : o.tb.running = (s.tb.running + 1) % 4096 := by rw [ho]; rfl
    have htick : o.tb.tick = 0 := by rw [ho]; rfl
    have hphase : o.tb.phaseAge = 0 := by rw [ho]; rfl
    have hqueues : o.cs.queues = s.cs.queues := by rw [ho]; rfl
    have hcalls : ∀ i, o.call i = s.call i := by rw [ho]; exact fun _ => rfl
    rw [← ho] at hround ⊢
    have hopened := opened_effect o
    have hstep := trunkStep_effect (ownStep_step (quietRound smp)) (opened o)
    have heffect : Effect starting [] s (trunkStep (ownStep (quietRound smp)) (opened o)) :=
      ((hticks.mono.trans hround.mono).trans hopened.mono).trans hstep.mono
    have htb := trunkStep_tb (ownStep (quietRound smp)) (opened o)
    obtain ⟨kr, kt, kp⟩ := steppedTb_clock (quietRound smp) (opened o).tb
    rw [← htb, opened_tb] at kr kt kp
    have hcount : RoundKeeps (o.updCs fun c => { c with staging := some [] }) (opened o) :=
      (countWork_effect _).roundKeeps (queuesStand_carried.countWork _)
    obtain ⟨hstand, hfewer⟩ := hcount.trans (trunkStep_roundKeeps (opened o) (ownStep (quietRound smp)))
    obtain ⟨hstaged, hkept⟩ := hstand.stand rfl
    refine ⟨_, (trunkStep (ownStep (quietRound smp)) (opened o)).tb.epoch != o.tb.epoch, ⟨heffect, kr.trans hrunning, kt.trans htick, kp.trans hphase,
      hstaged, hkept.trans hqueues, fun i => (hfewer i).imp_right fun he => he.trans (hcalls i)⟩, ?_⟩
    rw [roundWork_eq, heffect.held]
    rfl
  unfold ownRound
  rw [if_pos h]
  exact hopen _

/-! ## The field blocks after the buses -/

/-- The work of the field blocks once both buses have done theirs. -/
def fieldRest (smp : Samples) (s : State) : State :=
  vuRound (ctuRound (supplySample smp.mains smp.battery (overrideTick (supervisionTick (gcuRound s)))))

theorem fieldWork_eq (smp : Samples) (s : State) :
    fieldWork smp s = fieldRest smp (busRound .two smp.busHigh.two (busRound .one smp.busHigh.one s)) := rfl

/-- What the field blocks move beside the buses. -/
abbrev resting : List Part := .sup :: .holders :: .tableFull :: .supply :: .supplyMode :: (gauging ++ moding)

/-- What they move once the gas channels have done their work. -/
abbrev afterGassing : List Part := .sup :: .holders :: .tableFull :: .supply :: .supplyMode :: (alarming ++ moding)

theorem afterGas_effect (smp : Samples) (s : State) : Effect afterGassing []
    s (vuRound (ctuRound (supplySample smp.mains smp.battery (overrideTick (supervisionTick s))))) :=
  ((((supervisionTick_effect s).mono.trans (overrideTick_effect _).mono).trans (supplySample_effect ..).mono).trans (ctuRound_effect _).mono).trans
    (vuRound_effect _).mono

theorem fieldRest_effect (smp : Samples) (s : State) : Effect resting [] s (fieldRest smp s) :=
  (gcuRound_effect s).mono.trans (afterGas_effect smp _).mono

theorem fieldRest_skipped (smp : Samples) (s : State) : SkippedStand s (fieldRest smp s) := by
  have hmobile : SkippedStand s (mobileTick s) := by
    unfold mobileTick
    simp only
    split
    · exact commitChannel_skipped rfl
    split
    · exact setChannel_skipped rfl
    · exact .refl s
  have hreport (i : Fin 16) (t : State) : SkippedStand t (reportTick i t) := by
    have hsend (n : Nat) (b : Bool) (p : Bytes) : SkippedStand t (if b = true then t.setChannel i { t.channel i with report := n }
        else sendTo kReadingReport 0 p (t.setChannel i { t.channel i with report := n })) := by
      have hset : SkippedStand t (t.setChannel i { t.channel i with report := n }) := setChannel_skipped rfl
      split
      · exact hset
      · exact hset.trans (.of_channels (sendTo_effect ..).channels)
    unfold reportTick
    simp only
    split
    · exact hsend 0 (reportWithheld t i) (readingReportBytes i t)
    · split
      · split
        · exact setChannel_skipped rfl
        · exact .refl t
      · exact .refl t
  have hgas : SkippedStand s (gcuRound s) := hmobile.trans (.forEach hreport allChannels _)
  have hrest := afterGas_effect smp (gcuRound s)
  have hchannels := hrest.channels
  unfold fieldRest
  exact hgas.trans (.of_channels hchannels)

end

end Sys2Proof.Machine
end

section
/-! PROOFS. What a round start from own timing leaves of the lines, the calls and the buses (2.2, 2.6, 2.9, 3.2 to 3.4, 7.5, 7.6). -/

namespace Sys2Proof.Machine

-- Declarations are elaborated one after another: in a text of this length the threads of many at once would not fit the memory limit.
set_option Elab.async false

section
variable {smp : Samples} {s a u t : State} {renewed : Bool}

/-! ## Before the positions are filled -/

/-- The state before the filling of the positions, seen from the one before the round start. -/
structure BeforeFilling (s u : State) : Prop where
  queues : u.cs.queues = s.cs.queues
  holding : u.cs.holding = s.cs.holding
  announce : u.cs.announce = s.cs.announce
  holdParams : u.cs.holdParams = s.cs.holdParams
  calls : ∀ i, u.call i = none ∨ u.call i = (s.call i).bind Call.afterRound

theorem CallsFewer.afterTimers (h : CallsFewer s t) (i : Fin 12) :
    (ctuRound t).call i = none ∨ (ctuRound t).call i = (s.call i).bind Call.afterRound := by
  rw [ctuRound_call]
  obtain h | h := h i
  · exact .inl (by rw [h]; rfl)
  · exact .inr (by rw [h])

theorem beforeFilling (ha : RoundStarted s a) : BeforeFilling s (fieldWork smp (lineWork smp none renewed a)) := by
  obtain ⟨hholding, hannounce, -⟩ := lineWork_flow smp renewed a
  have hlines := lineWork_effect smp none renewed a
  have hkeeps := lineWork_roundKeeps a smp renewed
  generalize lineWork smp none renewed a = v at *
  have hfields := fieldWork_effect smp v
  obtain ⟨x, hx, hwork⟩ := fieldWork_roundKeeps v smp
  obtain ⟨hstand, hfewer⟩ := hkeeps.trans hx
  have hqueues := ((hstand.trans (queuesStand_carried.ctuRound x)).trans (queuesStand_carried.vuRound _)).stand ha.staged
  have hcalls (i : Fin 12) : (vuRound (ctuRound x)).call i = (ctuRound x).call i := by
    have hcars := vuRound_effect (ctuRound x)
    exact State.call_of_entries (Prod.mk.inj (hcars.same .calls (by decide))).1 i
  rw [← hwork] at hqueues hcalls
  exact {
    queues := hqueues.2.trans ha.queues
    holding := hfields.holding.trans (hholding.trans ha.effect.holding)
    announce := hfields.announce.trans (hannounce.trans ha.effect.announce)
    holdParams := hfields.holdParams.trans (hlines.holdParams.trans ha.effect.holdParams)
    calls := fun i => by
      rw [hcalls]
      exact (CallsFewer.trans ha.calls hfewer).afterTimers i }

/-! ## The filling, and the cells staged before it -/

/-- What the end of a round start moves. -/
abbrev ending : List Part := .flow :: .calls :: .sent :: telling

/-- The end of a round start, from the state before the filling of the positions. -/
structure RoundFilled (s u t : State) : Prop where
  tb : u.tb = t.tb
  sau : u.sau = t.sau
  tu : u.tu = t.tu
  supplyMode : u.cs.supplyMode = t.cs.supplyMode
  ctu : t.ctu = (fillWork ⟨0 < s.cs.held.outbye, 0 < s.cs.held.inbye⟩ u).ctu
  sent : t.cs.sent = (fillWork ⟨0 < s.cs.held.outbye, 0 < s.cs.held.inbye⟩ u).cs.sent
  calls : ∀ i, (t.call i).isSome = (u.call i).isSome
  holding : ∀ l, t.cs.holding.get l = (examineQueue l s).cs.holding.get l
  announce : ∀ l, t.cs.announce.get l
    = if sendsOn t l = true ∧ sendsCellZero t l = true then none else (examineQueue l.other s).cs.announce.get l
  effect : Effect ending [] u t

theorem roundFilled (h : BeforeFilling s u) :
    RoundFilled s u (releaseStaged (fillWork ⟨0 < s.cs.held.outbye, 0 < s.cs.held.inbye⟩ u)) := by
  obtain ⟨hftb, -, -, hsome⟩ := fillWork_frame ⟨0 < s.cs.held.outbye, 0 < s.cs.held.inbye⟩ u
  have hflow := fillWork_flow ⟨0 < s.cs.held.outbye, 0 < s.cs.held.inbye⟩ h.queues h.holding h.announce h.holdParams
  have hfill := fillWork_effect ⟨0 < s.cs.held.outbye, 0 < s.cs.held.inbye⟩ u
  obtain ⟨f, hf⟩ : ∃ f, f = fillWork ⟨0 < s.cs.held.outbye, 0 < s.cs.held.inbye⟩ u := ⟨_, rfl⟩
  rw [← hf] at hftb hfill ⊢
  have hrelease := releaseStaged_effect f
  have htb : (releaseStaged f).tb = u.tb := (hrelease.block .tb).trans hftb
  have hctu : (releaseStaged f).ctu = f.ctu := hrelease.block .ctu
  refine ⟨htb.symm, ((hrelease.block .sau).trans (hfill.block .sau)).symm, ((hrelease.block .tu).trans (hfill.block .tu)).symm,
    ((hrelease.same .csMode (by decide)).trans (hfill.same .csMode (by decide))).symm, hf ▸ hctu, hf ▸ hrelease.same .sent (by decide),
    fun i => ?_, fun l => ?_, fun l => ?_, hfill.mono.trans hrelease.mono⟩
  · rw [State.call_of_entries (congrArg CallUnit.entries hctu) i, hf, hsome]
  · rw [hrelease.holding, hf]
    exact (hflow l).1
  · rw [hrelease.announce, sendsOn_congr htb, sendsCellZero_congr htb, hf]
    exact (hflow l).2

theorem RoundFilled.ticked (hf : RoundFilled s u t) (hb : BeforeFilling s u) (i : Fin 12) :
    u.call i = if (t.call i).isSome = true then (s.call i).map Call.ticked else none := by
  rw [hf.calls]
  obtain h | h := hb.calls i
  · rw [h]; rfl
  · rw [h]
    cases s.call i with
    | none => rfl
    | some e =>
      show e.afterRound = if e.afterRound.isSome = true then some e.ticked else none
      unfold Call.afterRound
      split <;> rfl

theorem RoundFilled.expired (hf : RoundFilled s u t) (hb : BeforeFilling s u) {i : Fin 12}
    (h : (stateTimeoutDue s i).isSome = true ∨ lossDue s i = true) : t.call i = none := by
  have hnone : u.call i = none := by
    obtain hu | hu := hb.calls i
    · exact hu
    · rw [hu]
      cases he : s.call i with
      | none => rfl
      | some e =>
        rw [stateTimeoutDue_some he, lossDue_some he, ← Bool.or_eq_true] at h
        show e.afterRound = none
        rw [Call.afterRound, if_pos h]
  have hsome := hf.calls i
  rw [hnone] at hsome
  exact Option.not_isSome_iff_eq_none.mp (by rw [hsome]; decide)

/-! ## LINE_UP -/

theorem round_lineUp (ha : RoundStarted s a) (hf : Effect ending [] (fieldWork smp (lineWork smp none renewed a)) t) (l : Line) :
    (t.cs.status.get l).lineUp = true ↔ smp.carrier.get l = .throughout ∧ (s.cs.status.get l).lostThisRound = false
      ∧ (s.cs.status.get l).goodCell = true := by
  obtain ⟨-, -, hlines⟩ := lineWork_flow smp renewed a
  have hround := linesRound_lineUp smp a l
  have hfields := fieldWork_effect smp (lineWork smp none renewed a)
  obtain ⟨hend, -, -⟩ := LineStatus.plain_fields ((hf.plain l).trans (hfields.plain l))
  obtain ⟨-, hlost, hgood⟩ := LineStatus.plain_fields (ha.effect.plain l)
  rw [hend, hlines l, hround, hlost, hgood]

/-! ## The buses -/

/-- The field blocks find a bus as it was before the round start. -/
theorem lineWork_agrees (ha : RoundStarted s a) (b : Bus) : BusAgrees b s (lineWork smp none renewed a)
    ∧ SkippedStand s (lineWork smp none renewed a) ∧ (lineWork smp none renewed a).tb.running = a.tb.running := by
  have hlines := lineWork_effect smp none renewed a
  generalize lineWork smp none renewed a = v at *
  have heff : Effect (.flow :: .line :: .remote :: .clock :: .trunk :: .radio :: .refuges :: alarming) [] s v := ha.effect.mono.trans hlines.mono
  exact ⟨⟨bus_of_sbm (heff.block .sbm) b, heff.schedule⟩, .of_channels heff.channels, (Prod.mk.inj (hlines.same .clock (by decide))).1⟩

theorem untold_of_buses (h : Part.buses.same s t) (b : Bus) : (t.bus b).untold = (s.bus b).untold := by
  obtain ⟨h1, h2⟩ := Prod.mk.inj h
  cases b
  · exact h1
  · exact h2

/-- R45 to R47, R50 to R53: both buses, and the channels that no due poll names, after the round start. -/
theorem round_buses (ha : RoundStarted s a) (hf : Effect ending [] (fieldWork smp (lineWork smp none renewed a)) t) :
    t.tb.running = a.tb.running ∧ (∀ b : Bus, BusRound (smp.busHigh.get b) b s t)
      ∧ ∀ i : Fin 16, (∀ (b : Bus) (p : Poll), p ∈ dueAt t.tb.running b s → p.target ≠ .chan i) →
          (t.channel i).skipped = (s.channel i).skipped := by
  have hagree (b : Bus) := (lineWork_agrees (smp := smp) (renewed := renewed) ha b).1
  obtain ⟨-, hskip, hrun⟩ := lineWork_agrees (smp := smp) (renewed := renewed) ha .one
  generalize lineWork smp none renewed a = v at *
  rw [fieldWork_eq] at hf
  have hone := busRound_effect .one smp.busHigh.one v
  have hmeet1 := busRound_meets .one smp.busHigh.one v
  obtain ⟨hfree1, -⟩ := busRound_skipped .one smp.busHigh.one v
  have hother1 : (busRound .one smp.busHigh.one v).bus .two = v.bus .two := busRound_other (by decide) v
  generalize busRound .one smp.busHigh.one v = w1 at *
  have htwo := busRound_effect .two smp.busHigh.two w1
  have hmeet2 := busRound_meets .two smp.busHigh.two w1
  obtain ⟨hfree2, -⟩ := busRound_skipped .two smp.busHigh.two w1
  have hother2 : (busRound .two smp.busHigh.two w1).bus .one = w1.bus .one := busRound_other (by decide) w1
  generalize busRound .two smp.busHigh.two w1 = w2 at *
  have hrest := fieldRest_effect smp w2
  have hrestSkip := fieldRest_skipped smp w2
  generalize fieldRest smp w2 = u at *
  have hafter : Effect (.sent :: .flow :: resting) [] w2 t := hrest.mono.trans hf.mono
  have hafterSkip : SkippedStand w2 t := hrestSkip.trans (.of_channels hf.channels)
  have hbuses (b : Bus) : (t.bus b).untold = (w2.bus b).untold := untold_of_buses (hafter.same .buses (by decide)) b
  have hrun1 : w1.tb.running = v.tb.running := (Prod.mk.inj (hone.same .clock (by decide))).1
  have hrun2 : w2.tb.running = w1.tb.running := (Prod.mk.inj (htwo.same .clock (by decide))).1
  have hrunt : t.tb.running = w2.tb.running := (Prod.mk.inj (hafter.same .clock (by decide))).1
  have hagree2 : BusAgrees .two s w1 := by
    obtain ⟨hbus, hschedule⟩ := hagree .two
    have hsame := hone.schedule
    exact ⟨hother1.trans hbus, ⟨fun i => ⟨(hsame.channels i).1.trans (hschedule.channels i).1, (hsame.channels i).2.trans (hschedule.channels i).2⟩,
      fun r => (hsame.refuges r).trans (hschedule.refuges r)⟩⟩
  have hdue1 : dueAt v.tb.running .one v = dueAt t.tb.running .one s := by rw [(hagree .one).dueAt, hrunt, hrun2, hrun1]
  have hdue2 : dueAt w1.tb.running .two w1 = dueAt t.tb.running .two s := by rw [hagree2.dueAt, hrunt, hrun2]
  rw [hdue1] at hfree1
  rw [hdue2] at hfree2
  refine ⟨by rw [hrunt, hrun2, hrun1, hrun], fun b => ?_, fun i hi => ?_⟩
  · cases b with
    | one =>
      refine hmeet1.widen (hagree .one) (by rw [hbuses, hother2]) (hrunt.trans hrun2) fun i p hp ht => ⟨hskip.stand i, (hafterSkip.stand i).trans ?_⟩
      refine hfree2 i fun q hq hqt => ?_
      exact absurd (dueAt_bus hp hq ht hqt) (by decide)
    | two =>
      refine hmeet2.widen hagree2 (hbuses .two) hrunt fun i p hp ht => ⟨(hfree1 i fun q hq hqt => ?_).trans (hskip.stand i), hafterSkip.stand i⟩
      exact absurd (dueAt_bus hp hq ht hqt) (by decide)
  · exact (hafterSkip.stand i).trans ((hfree2 i (hi .two)).trans ((hfree1 i (hi .one)).trans (hskip.stand i)))

end

/-! ## The obligation -/

/-- R2: what follows where the node times its rounds itself. -/
theorem ownRound_meets (smp : Samples) (s : State) (hcarry : s.tb.trunk ≠ .carry) (hjoin : s.tb.trunk = .join → s.tb.joinCnt = 0) :
    ∃ t, Goes (.roundStart smp) s t ∧ t.tb.tick = 0 ∧ t.tb.running = (s.tb.running + 1) % 4096 ∧ t.tb.phaseAge = 0
      ∧ ConfigKept s t ∧ t.pending = s.pending
      ∧ (∀ l : Line, ((t.cs.status.get l).lineUp = true ↔ smp.carrier.get l = .throughout
            ∧ (s.cs.status.get l).lostThisRound = false ∧ (s.cs.status.get l).goodCell = true)
          ∧ t.cs.holding.get l = (examineQueue l s).cs.holding.get l
          ∧ t.cs.announce.get l = (if sendsOn t l = true ∧ sendsCellZero t l = true then none
              else (examineQueue l.other s).cs.announce.get l))
      ∧ (∃ u : State, u.tb = t.tb ∧ u.sau = t.sau ∧ u.tu = t.tu ∧ u.cs.supplyMode = t.cs.supplyMode
          ∧ u.cs.queues = s.cs.queues ∧ u.cs.announce = s.cs.announce ∧ u.cs.holding = s.cs.holding
          ∧ u.cs.holdParams = s.cs.holdParams
          ∧ (∀ i : Fin 12, u.call i = if (t.call i).isSome = true then (s.call i).map Call.ticked else none)
          ∧ t.ctu = (fillWork ⟨0 < s.cs.held.outbye, 0 < s.cs.held.inbye⟩ u).ctu
          ∧ t.cs.sent = (fillWork ⟨0 < s.cs.held.outbye, 0 < s.cs.held.inbye⟩ u).cs.sent)
      ∧ (∀ i : Fin 12, ((stateTimeoutDue s i).isSome = true ∨ lossDue s i = true) → t.call i = none)
      ∧ (∀ b : Bus, BusRound (smp.busHigh.get b) b s t)
      ∧ ∀ i : Fin 16, (∀ (b : Bus) (p : Poll), p ∈ dueAt t.tb.running b s → p.target ≠ .chan i) →
          (t.channel i).skipped = (s.channel i).skipped := by
  have hown : ownTimed s.tb = true := by
    unfold ownTimed
    split
    next h => exact absurd h hcarry
    next h => simp [hjoin h]
    next => rfl
  have heff := ownRound_effect smp s
  obtain ⟨a, renewed, ha, hround⟩ := ownRound_stages smp hown
  have hbefore : BeforeFilling s (fieldWork smp (lineWork smp none renewed a)) := beforeFilling ha
  have hfilled := roundFilled hbefore
  rw [← hround] at hfilled
  obtain ⟨hrunning, hbuses, hskipped⟩ := round_buses ha hfilled.effect
  have hlines := round_lineUp ha hfilled.effect
  have hclock : Part.clock.same a (ownRound smp s) :=
    Part.same_trans ((lineWork_effect smp none renewed a).same .clock (by decide))
      (Part.same_trans ((fieldWork_effect smp _).same .clock (by decide)) (hfilled.effect.same .clock (by decide)))
  obtain ⟨-, htick, hphase, -⟩ : _ ∧ _ ∧ _ ∧ _ := by simpa only [Part.same, Prod.mk.injEq] using hclock
  exact ⟨ownRound smp s, rfl, htick.trans ha.tick, hrunning.trans ha.running, hphase.trans ha.phase, heff.config, heff.pending,
    fun l => ⟨hlines l, hfilled.holding l, hfilled.announce l⟩,
    ⟨_, hfilled.tb, hfilled.sau, hfilled.tu, hfilled.supplyMode, hbefore.queues, hbefore.announce, hbefore.holding, hbefore.holdParams,
      hfilled.ticked hbefore, hfilled.ctu, hfilled.sent⟩,
    fun i hi => hfilled.expired hbefore hi, hbuses, hskipped⟩

/-- Settles O5: the round start by its stages, the examination of a queue by its cases, the schedule by what makes a poll due. -/
theorem roundStartOwnTiming : Obligations.RoundStartOwnTiming := by
  refine ⟨fun smp s => ⟨ownRound_meets smp s, fun ht => .of_eq (t := ownRound smp s) ?_⟩, examineQueue_cases, fun b s q =>
    ⟨fun i => channelDue_iff, fun r => refugeDue_iff, duePolls_eq s b, reservePoll_iff⟩⟩
  rw [ownRound, if_neg (by simp [ownTimed, ht])]

end Sys2Proof.Machine
end
